-- ==== Sys2Proof/Word.lean ====
section
/-! DEFINITION. The word types of the NS16000 (spec/00_scope.md R7, R8; spec/10_state.md). -/

namespace Sys2Proof

/-- A byte: 8 bits, bit 0 least significant (R7). -/
abbrev Byte := BitVec 8

/-- A word: 16 bits (R8). -/
abbrev Word := BitVec 16

/-- A double-word: 32 bits (R8). -/
abbrev DWord := BitVec 32

/-- A quad-word: 64 bits (R8); operand values of every length are carried in one, in its low bits. -/
abbrev QWord := BitVec 64

/-- An implemented address: the low 24 bits of a 32-bit address (R81). -/
abbrev Addr := BitVec 24

/-- The number of a general register R0..R7 or of a floating-point register F0..F7 (R20, R51). -/
abbrev Reg := Fin 8

/-- An integer operation length `i` (R8, R123): Byte, Word or Double-word. -/
inductive Len
  | b
  | w
  | d
deriving DecidableEq, Repr, Inhabited

/-- A floating-point operation length `f` (R8, R123): Single (F) or Long (L). -/
inductive FLen
  | f
  | l
deriving DecidableEq, Repr, Inhabited

/-- `bytes(i)` of R8. -/
abbrev Len.bytes : Len → Nat
  | .b => 1
  | .w => 2
  | .d => 4

/-- `bits(i)` of R8. -/
abbrev Len.bits : Len → Nat
  | .b => 8
  | .w => 16
  | .d => 32

/-- `bytes(f)` of R8. -/
abbrev FLen.bytes : FLen → Nat
  | .f => 4
  | .l => 8

end Sys2Proof
end

