-- ==== Sys2Proof/Syntax.lean ====
section
/-! DEFINITION. The instructions of the NS16000, one constructor for each row of spec/opcode_table.json, and their
operands (spec/30_encoding.md). Operands keep the form in which they are encoded: a displacement keeps its length, a
must-be-zero field keeps its value, so that a decoded instruction says all of its encoding but nothing that its row
fixes. Whether a term is a legal instruction is said in WellFormed.lean. -/

namespace Sys2Proof

/-- A displacement field (R164), by its encoded length of 1, 2 or 4 bytes. -/
inductive Disp
  | d1 (v : BitVec 7)
  | d2 (v : BitVec 14)
  | d4 (v : BitVec 30)
deriving DecidableEq, Repr, Inhabited

/-- An addressing mode other than Immediate and Scaled Index (R178): the modes that may also be the base mode of a
Scaled Index (R188). -/
inductive Base
  /-- Register (R180). -/
  | reg (r : Reg)
  /-- Register Relative (R181). -/
  | regRel (r : Reg) (d : Disp)
  /-- Frame Memory Relative (R182). -/
  | frameRel (d1 d2 : Disp)
  /-- Stack Memory Relative (R182). -/
  | stackRel (d1 d2 : Disp)
  /-- Static Memory Relative (R182). -/
  | staticRel (d1 d2 : Disp)
  /-- A code that is no mode here: 10011 anywhere; Immediate or a Scaled Index as a base mode (U2). -/
  | illegal (code : BitVec 5)
  /-- Absolute (R185). -/
  | abs (d : Disp)
  /-- External (R186). -/
  | ext (d1 d2 : Disp)
  /-- Top of Stack (R187). -/
  | tos
  /-- Frame Memory (R178). -/
  | frame (d : Disp)
  /-- Stack Memory (R178). -/
  | stack (d : Disp)
  /-- Static Memory (R178). -/
  | static (d : Disp)
  /-- Program Memory (R178). -/
  | program (d : Disp)
deriving DecidableEq, Repr, Inhabited

/-- The scale of a Scaled Index: bytes, words, double-words or quad-words (R188). -/
inductive Scale
  | b
  | w
  | d
  | q
deriving DecidableEq, Repr, Inhabited

/-- A general operand (R178). -/
inductive Gen
  | base (m : Base)
  /-- Immediate (R183): the value, in the low bits of a quad-word. -/
  | imm (v : QWord)
  /-- Scaled Index (R188): scale, index register, base mode. -/
  | scaled (sc : Scale) (idx : Reg) (m : Base)
deriving DecidableEq, Repr, Inhabited

/-- The UW field of the string options (R170). -/
inductive StrMatch
  | neither
  | whileMatch
  | reserved
  | untilMatch
deriving DecidableEq, Repr, Inhabited

/-- The string options UW and B (R170); the T option is a constructor of its own. -/
structure StrOpts where
  matching : StrMatch
  backward : Bool
deriving DecidableEq, Repr, Inhabited

/-- The instructions, and the classes of encodings that are no instruction, one constructor for each row of
spec/opcode_table.json. Operands stand in the order of their fields: gen1 before gen2, then the implied ones. -/
inductive Instr
  -- Format 0 (R126, R352, R353)
 | beq (dest : Disp) | bne (dest : Disp) | bcs (dest : Disp) | bcc (dest : Disp) | bhi (dest : Disp)
 | bls (dest : Disp) | bgt (dest : Disp) | ble (dest : Disp) | bfs (dest : Disp) | bfc (dest : Disp)
 | blo (dest : Disp) | bhs (dest : Disp) | blt (dest : Disp) | bge (dest : Disp) | br (dest : Disp)
 | bcond1111 (dest : Disp)
  -- Format 1 (R127)
 | bsr (dest : Disp)
 | ret (constant : Disp)
 | cxp (index : Disp)
 | rxp (constant : Disp) | rett (constant : Disp)
 | reti
 | save (reglist : Byte) | restore (reglist : Byte)
 | enter (reglist : Byte) (constant : Disp)
 | exit (reglist : Byte)
 | nop | wait | dia | flag | svc | bpt
  -- Format 2 (R128)
 | addqb (quick : BitVec 4) (gen : Gen) | addqw (quick : BitVec 4) (gen : Gen) | addqd (quick : BitVec 4) (gen : Gen)
 | cmpqb (quick : BitVec 4) (gen : Gen) | cmpqw (quick : BitVec 4) (gen : Gen) | cmpqd (quick : BitVec 4) (gen : Gen)
 | movqb (quick : BitVec 4) (gen : Gen) | movqw (quick : BitVec 4) (gen : Gen) | movqd (quick : BitVec 4) (gen : Gen)
 | acbb (quick : BitVec 4) (gen : Gen) (dest : Disp) | acbw (quick : BitVec 4) (gen : Gen) (dest : Disp)
 | acbd (quick : BitVec 4) (gen : Gen) (dest : Disp)
 | sprb (procreg : BitVec 4) (gen : Gen) | sprw (procreg : BitVec 4) (gen : Gen)
 | sprd (procreg : BitVec 4) (gen : Gen) | lprb (procreg : BitVec 4) (gen : Gen)
 | lprw (procreg : BitVec 4) (gen : Gen) | lprd (procreg : BitVec 4) (gen : Gen)
  -- Save Condition Code (R271)
 | seqb (dest : Gen) | sneb (dest : Gen) | scsb (dest : Gen) | sccb (dest : Gen) | shib (dest : Gen)
 | slsb (dest : Gen) | sgtb (dest : Gen) | sleb (dest : Gen) | sfsb (dest : Gen) | sfcb (dest : Gen)
 | slob (dest : Gen) | shsb (dest : Gen) | sltb (dest : Gen) | sgeb (dest : Gen) | srb (dest : Gen)
 | s1111b (dest : Gen) | seqw (dest : Gen) | snew (dest : Gen) | scsw (dest : Gen) | sccw (dest : Gen)
 | shiw (dest : Gen) | slsw (dest : Gen) | sgtw (dest : Gen) | slew (dest : Gen) | sfsw (dest : Gen)
 | sfcw (dest : Gen) | slow (dest : Gen) | shsw (dest : Gen) | sltw (dest : Gen) | sgew (dest : Gen)
 | srw (dest : Gen) | s1111w (dest : Gen) | seqd (dest : Gen) | sned (dest : Gen) | scsd (dest : Gen)
 | sccd (dest : Gen) | shid (dest : Gen) | slsd (dest : Gen) | sgtd (dest : Gen) | sled (dest : Gen)
 | sfsd (dest : Gen) | sfcd (dest : Gen) | slod (dest : Gen) | shsd (dest : Gen) | sltd (dest : Gen)
 | sged (dest : Gen) | srd (dest : Gen) | s1111d (dest : Gen)
  -- Format 3 (R129)
 | cxpd (gen : Gen) | jump (gen : Gen) | jsr (gen : Gen) | bicpsrb (gen : Gen) | bicpsrw (gen : Gen)
 | bispsrb (gen : Gen) | bispsrw (gen : Gen) | adjspb (gen : Gen) | adjspw (gen : Gen) | adjspd (gen : Gen)
 | caseb (gen : Gen) | casew (gen : Gen) | cased (gen : Gen)
  -- Format 4 (R130)
 | addb (gen1 gen2 : Gen) | addw (gen1 gen2 : Gen) | addd (gen1 gen2 : Gen) | cmpb (gen1 gen2 : Gen)
 | cmpw (gen1 gen2 : Gen) | cmpd (gen1 gen2 : Gen) | bicb (gen1 gen2 : Gen) | bicw (gen1 gen2 : Gen)
 | bicd (gen1 gen2 : Gen) | addcb (gen1 gen2 : Gen) | addcw (gen1 gen2 : Gen) | addcd (gen1 gen2 : Gen)
 | movb (gen1 gen2 : Gen) | movw (gen1 gen2 : Gen) | movd (gen1 gen2 : Gen) | orb (gen1 gen2 : Gen)
 | orw (gen1 gen2 : Gen) | ord (gen1 gen2 : Gen) | subb (gen1 gen2 : Gen) | subw (gen1 gen2 : Gen)
 | subd (gen1 gen2 : Gen) | andb (gen1 gen2 : Gen) | andw (gen1 gen2 : Gen) | andd (gen1 gen2 : Gen)
 | subcb (gen1 gen2 : Gen) | subcw (gen1 gen2 : Gen) | subcd (gen1 gen2 : Gen) | tbitb (gen1 gen2 : Gen)
 | tbitw (gen1 gen2 : Gen) | tbitd (gen1 gen2 : Gen) | xorb (gen1 gen2 : Gen) | xorw (gen1 gen2 : Gen)
 | xord (gen1 gen2 : Gen) | addr (gen1 gen2 : Gen)
  -- ADDR whose first operand is External (R192)
 | lxpd (disp1 disp2 : Disp) (dest : Gen)
  -- Format 5 (R131)
 | movsb (opts : StrOpts) (unused : BitVec 6) | movsw (opts : StrOpts) (unused : BitVec 6)
 | movsd (opts : StrOpts) (unused : BitVec 6) | movst (opts : StrOpts) (unused : BitVec 6)
 | cmpsb (opts : StrOpts) (unused : BitVec 6) | cmpsw (opts : StrOpts) (unused : BitVec 6)
 | cmpsd (opts : StrOpts) (unused : BitVec 6) | cmpst (opts : StrOpts) (unused : BitVec 6)
 | skpsb (opts : StrOpts) (unused : BitVec 6) | skpsw (opts : StrOpts) (unused : BitVec 6)
 | skpsd (opts : StrOpts) (unused : BitVec 6) | skpst (opts : StrOpts) (unused : BitVec 6)
 | setcfg (cfglist : BitVec 4) (unused : BitVec 6)
  -- Format 6 (R132)
 | rotb (gen1 gen2 : Gen) | rotw (gen1 gen2 : Gen) | rotd (gen1 gen2 : Gen) | ashb (gen1 gen2 : Gen)
 | ashw (gen1 gen2 : Gen) | ashd (gen1 gen2 : Gen) | cbitb (gen1 gen2 : Gen) | cbitw (gen1 gen2 : Gen)
 | cbitd (gen1 gen2 : Gen) | cbitib (gen1 gen2 : Gen) | cbitiw (gen1 gen2 : Gen) | cbitid (gen1 gen2 : Gen)
 | lshb (gen1 gen2 : Gen) | lshw (gen1 gen2 : Gen) | lshd (gen1 gen2 : Gen) | sbitb (gen1 gen2 : Gen)
 | sbitw (gen1 gen2 : Gen) | sbitd (gen1 gen2 : Gen) | sbitib (gen1 gen2 : Gen) | sbitiw (gen1 gen2 : Gen)
 | sbitid (gen1 gen2 : Gen) | negb (gen1 gen2 : Gen) | negw (gen1 gen2 : Gen) | negd (gen1 gen2 : Gen)
 | notb (gen1 gen2 : Gen) | notw (gen1 gen2 : Gen) | notd (gen1 gen2 : Gen) | subpb (gen1 gen2 : Gen)
 | subpw (gen1 gen2 : Gen) | subpd (gen1 gen2 : Gen) | absb (gen1 gen2 : Gen) | absw (gen1 gen2 : Gen)
 | absd (gen1 gen2 : Gen) | comb (gen1 gen2 : Gen) | comw (gen1 gen2 : Gen) | comd (gen1 gen2 : Gen)
 | ibitb (gen1 gen2 : Gen) | ibitw (gen1 gen2 : Gen) | ibitd (gen1 gen2 : Gen) | addpb (gen1 gen2 : Gen)
 | addpw (gen1 gen2 : Gen) | addpd (gen1 gen2 : Gen)
  -- Format 7 (R133)
 | movmb (gen1 gen2 : Gen) (length : Disp) | movmw (gen1 gen2 : Gen) (length : Disp)
 | movmd (gen1 gen2 : Gen) (length : Disp) | cmpmb (gen1 gen2 : Gen) (length : Disp)
 | cmpmw (gen1 gen2 : Gen) (length : Disp) | cmpmd (gen1 gen2 : Gen) (length : Disp)
 | inssb (gen1 gen2 : Gen) (offset : BitVec 3) (lengthM1 : BitVec 5)
 | inssw (gen1 gen2 : Gen) (offset : BitVec 3) (lengthM1 : BitVec 5)
 | inssd (gen1 gen2 : Gen) (offset : BitVec 3) (lengthM1 : BitVec 5)
 | extsb (gen1 gen2 : Gen) (offset : BitVec 3) (lengthM1 : BitVec 5)
 | extsw (gen1 gen2 : Gen) (offset : BitVec 3) (lengthM1 : BitVec 5)
 | extsd (gen1 gen2 : Gen) (offset : BitVec 3) (lengthM1 : BitVec 5)
 | mulb (gen1 gen2 : Gen) | mulw (gen1 gen2 : Gen) | muld (gen1 gen2 : Gen) | meib (gen1 gen2 : Gen)
 | meiw (gen1 gen2 : Gen) | meid (gen1 gen2 : Gen) | deib (gen1 gen2 : Gen) | deiw (gen1 gen2 : Gen)
 | deid (gen1 gen2 : Gen) | quob (gen1 gen2 : Gen) | quow (gen1 gen2 : Gen) | quod (gen1 gen2 : Gen)
 | remb (gen1 gen2 : Gen) | remw (gen1 gen2 : Gen) | remd (gen1 gen2 : Gen) | modb (gen1 gen2 : Gen)
 | modw (gen1 gen2 : Gen) | modd (gen1 gen2 : Gen) | divb (gen1 gen2 : Gen) | divw (gen1 gen2 : Gen)
 | divd (gen1 gen2 : Gen) | movxbw (gen1 gen2 : Gen) | movzbw (gen1 gen2 : Gen) | movzbd (gen1 gen2 : Gen)
 | movzwd (gen1 gen2 : Gen) | movxbd (gen1 gen2 : Gen) | movxwd (gen1 gen2 : Gen)
  -- Format 8 (R134)
 | extb (reg : Reg) (gen1 gen2 : Gen) (length : Disp) | extw (reg : Reg) (gen1 gen2 : Gen) (length : Disp)
 | extd (reg : Reg) (gen1 gen2 : Gen) (length : Disp) | insb (reg : Reg) (gen1 gen2 : Gen) (length : Disp)
 | insw (reg : Reg) (gen1 gen2 : Gen) (length : Disp) | insd (reg : Reg) (gen1 gen2 : Gen) (length : Disp)
 | checkb (reg : Reg) (gen1 gen2 : Gen) | checkw (reg : Reg) (gen1 gen2 : Gen) | checkd (reg : Reg) (gen1 gen2 : Gen)
 | indexb (reg : Reg) (gen1 gen2 : Gen) | indexw (reg : Reg) (gen1 gen2 : Gen) | indexd (reg : Reg) (gen1 gen2 : Gen)
 | cvtp (reg : Reg) (gen1 gen2 : Gen)
 | ffsb (gen1 gen2 : Gen) (unused : BitVec 3) | ffsw (gen1 gen2 : Gen) (unused : BitVec 3)
 | ffsd (gen1 gen2 : Gen) (unused : BitVec 3)
 | movsub (gen1 gen2 : Gen) | movsuw (gen1 gen2 : Gen) | movsud (gen1 gen2 : Gen) | movusb (gen1 gen2 : Gen)
 | movusw (gen1 gen2 : Gen) | movusd (gen1 gen2 : Gen)
  -- Format 9 (R135)
 | movbf (gen1 gen2 : Gen) | movbl (gen1 gen2 : Gen) | movwf (gen1 gen2 : Gen) | movwl (gen1 gen2 : Gen)
 | movdf (gen1 gen2 : Gen) | movdl (gen1 gen2 : Gen) | roundfb (gen1 gen2 : Gen) | roundfw (gen1 gen2 : Gen)
 | roundfd (gen1 gen2 : Gen) | roundlb (gen1 gen2 : Gen) | roundlw (gen1 gen2 : Gen) | roundld (gen1 gen2 : Gen)
 | truncfb (gen1 gen2 : Gen) | truncfw (gen1 gen2 : Gen) | truncfd (gen1 gen2 : Gen) | trunclb (gen1 gen2 : Gen)
 | trunclw (gen1 gen2 : Gen) | truncld (gen1 gen2 : Gen) | floorfb (gen1 gen2 : Gen) | floorfw (gen1 gen2 : Gen)
 | floorfd (gen1 gen2 : Gen) | floorlb (gen1 gen2 : Gen) | floorlw (gen1 gen2 : Gen) | floorld (gen1 gen2 : Gen)
 | movlf (gen1 gen2 : Gen) | movfl (gen1 gen2 : Gen)
 | lfsr (gen : Gen) (unused : BitVec 5) | sfsr (gen : Gen) (unused : BitVec 5)
  -- Format 11 (R136)
 | addf (gen1 gen2 : Gen) | addl (gen1 gen2 : Gen) | movf (gen1 gen2 : Gen) | movl (gen1 gen2 : Gen)
 | cmpf (gen1 gen2 : Gen) | cmpl (gen1 gen2 : Gen) | subf (gen1 gen2 : Gen) | subl (gen1 gen2 : Gen)
 | negf (gen1 gen2 : Gen) | negl (gen1 gen2 : Gen) | divf (gen1 gen2 : Gen) | divl (gen1 gen2 : Gen)
 | mulf (gen1 gen2 : Gen) | mull (gen1 gen2 : Gen) | absf (gen1 gen2 : Gen) | absl (gen1 gen2 : Gen)
  -- Format 14 (R137)
 | rdval (loc : Gen) (unused : BitVec 5) | wrval (loc : Gen) (unused : BitVec 5)
 | lmr (mmureg : BitVec 4) (gen : Gen) (unused : BitVec 1) | smr (mmureg : BitVec 4) (gen : Gen) (unused : BitVec 1)
  -- Rows that are no instruction (R190): first bytes
 | custom16 | custom36 | customB6 | und7E | undFE | und9E | und5E | undDE | und8E
 | undX6Other (raw : Byte)
  -- two-byte encodings, the Basic Instruction kept whole
 | undF3Op1000B (raw : Word) | undF3OpOddB (raw : Word) | undCXPDIB (raw : Word) | undJUMPIB (raw : Word)
 | undJSRIB (raw : Word) | undF3Op1000W (raw : Word) | undF3OpOddW (raw : Word) | undCXPDIW (raw : Word)
 | undJUMPIW (raw : Word) | undJSRIW (raw : Word) | undF3Op1000D (raw : Word) | undF3OpOddD (raw : Word)
 | undBICPSRD (raw : Word) | undBISPSRD (raw : Word) | undADDRIB (raw : Word) | undADDRIW (raw : Word)
  -- three-byte encodings, the Basic Instruction kept whole
 | undF5Op1xxx (raw : BitVec 24) | undF5OpX1xx (raw : BitVec 24) | undSETCFGI (raw : BitVec 24)
 | faultF5TI (raw : BitVec 24) | faultF5I10 (raw : BitVec 24) | undF6Op0100 (raw : BitVec 24)
 | undF6Op1010 (raw : BitVec 24) | faultF6I10 (raw : BitVec 24) | undF7Op1010 (raw : BitVec 24)
 | undMOVXBWI (raw : BitVec 24) | undMOVZBWI (raw : BitVec 24) | undMOVZiDD (raw : BitVec 24)
 | undMOVXiDD (raw : BitVec 24) | faultF7I10 (raw : BitVec 24) | undF8Op111 (raw : BitVec 24)
 | undCVTPI (raw : BitVec 24) | undF8Op110Reg000 (raw : BitVec 24) | undF8Op110Reg010 (raw : BitVec 24)
 | undF8Op110Reg100 (raw : BitVec 24) | undF8Op110Reg101 (raw : BitVec 24) | undF8Op110Reg110 (raw : BitVec 24)
 | undF8Op110Reg111 (raw : BitVec 24) | faultF8I10 (raw : BitVec 24) | undLFSRFi (raw : BitVec 24)
 | undMOVLFFi (raw : BitVec 24) | undMOVFLFi (raw : BitVec 24) | undSFSRFi (raw : BitVec 24)
 | faultF9I10 (raw : BitVec 24) | fpuILLEGAL0011 (raw : BitVec 24) | fpuILLEGAL1001 (raw : BitVec 24)
 | undF11Op011x (raw : BitVec 24) | undF11Op101x (raw : BitVec 24) | undF11Op111x (raw : BitVec 24)
 | undF11Bit9 (raw : BitVec 24) | undF14Op1xxx (raw : BitVec 24) | undF14OpX1xx (raw : BitVec 24)
 | undF14I (raw : BitVec 24)
deriving DecidableEq, Repr, Inhabited

end Sys2Proof
end

