-- ==== Sys2Proof/WellFormed.lean ====
section
/-! DEFINITION. Which terms of Instr are legal instructions: every operand's addressing mode is defined for its access
class (R150 to R159), every displacement has a defined value (R164), every selector, length and option field holds a
value the rules list. The machine does not assume it: an ill-formed instruction has the outcome 93's U entries give. -/

namespace Sys2Proof

/-- The access classes of a general operand (R150 to R155). -/
inductive Access
  | read
  | write
  | rmw
  | addr
  | regaddr
deriving DecidableEq, Repr, Inhabited

/-- What a Register-mode operand names (R157): general registers; a pair of them, for length 2i (R22); floating-point
registers (R51, R52). -/
inductive Kind
  | int
  | pair
  | float
deriving DecidableEq, Repr, Inhabited

/-- A general operand of an instruction with its access class, its length in bytes (0 where the class has none) and its
kind (R150, R157). -/
structure Operand where
  gen : Gen
  cls : Access
  bytes : Nat
  kind : Kind
deriving DecidableEq, Repr, Inhabited

/-- The value of a displacement (R164). -/
def Disp.value : Disp → Int
  | .d1 v => v.toInt
  | .d2 v => v.toInt
  | .d4 v => v.toInt

/-- A displacement in the range with a defined meaning (R164, D27, U3). -/
def Disp.ok (d : Disp) : Bool := d.value.natAbs ≤ 16277215

/-- A base mode with defined displacements (R178), not one of the codes U2 leaves undefined. -/
def Base.ok : Base → Bool
  | .reg _ | .tos => true
  | .illegal _ => false
  | .regRel _ d | .abs d | .frame d | .stack d | .static d | .program d => d.ok
  | .frameRel d1 d2 | .stackRel d1 d2 | .staticRel d1 d2 | .ext d1 d2 => d1.ok && d2.ok

/-- Whether an operand is the External mode itself, which makes ADDR an LXPD (R192). -/
def Gen.isExternal : Gen → Bool
  | .base (.ext _ _) => true
  | _ => false

/-- A general operand whose mode is defined for its class, length and kind (R156, R159, U1, U2, U13, U14). -/
def Operand.ok (o : Operand) : Bool :=
  match o.gen with
  | .imm v => o.cls == .read && v.toNat < 2 ^ (8 * o.bytes)
  | .scaled _ _ m => m.ok
  | .base (.reg r) => r.val % 2 == 0 || o.kind == .int || (o.kind == .float && o.bytes == 4)
  | .base m => m.ok

/-- A `procreg` code with an operation length that goes with it (R175, R400): UPSR with any, the others with one (U20). -/
def procregOk (p : BitVec 4) (l : Len) : Bool :=
  match l with
  | .b => p == 0b0000
  | .w => p == 0b0000 || p == 0b1101 || p == 0b1111
  | .d => p == 0b0000 || p == 0b1000 || p == 0b1001 || p == 0b1010 || p == 0b1110

/-- An `mmureg` code that R176 assigns (U22). -/
def mmuregOk (m : BitVec 4) : Bool :=
  m == 0b0000 || m == 0b0001 || m == 0b0100 || m == 0b0101 || m == 0b1000 || m == 0b1010 || m == 0b1011 ||
    m == 0b1100 || m == 0b1101 || m == 0b1111

/-- A MOVMi or CMPMi length displacement that R171 lists (U8). -/
def blockLengthOk (l : Len) (d : Disp) : Bool :=
  0 ≤ d.value && d.value ≤ 15 && d.value % l.bytes == 0

/-- A bit-field length from 1 to 32 (R173, U10). -/
def fieldLengthOk (d : Disp) : Bool := 1 ≤ d.value && d.value ≤ 32

/-- A Basic Instruction that belongs to a row of spec/opcode_table.json, by its mask and match, and to no earlier row
(R139: the first matching row decides). -/
def rawOk (raw mask matched : Nat) (earlier : List (Nat × Nat)) : Bool :=
  raw &&& mask == matched && earlier.all fun r => raw &&& r.1 != r.2

/-- The general operands of an instruction in the order of their fields, with access class, length and kind, as the
format tables give them (R126 to R137). -/
def Instr.operands : Instr → List Operand
  | .beq _ | .bne _ | .bcs _ | .bcc _ | .bhi _ | .bls _ | .bgt _ | .ble _ | .bfs _ | .bfc _ | .blo _ | .bhs _
  | .blt _ | .bge _ | .br _ | .bcond1111 _ | .bsr _ | .ret _ | .cxp _ | .rxp _ | .rett _ | .reti | .save _
  | .restore _ | .enter _ _ | .exit _ | .nop | .wait | .dia | .flag | .svc | .bpt | .movsb _ _ | .movsw _ _
  | .movsd _ _ | .movst _ _ | .cmpsb _ _ | .cmpsw _ _ | .cmpsd _ _ | .cmpst _ _ | .skpsb _ _ | .skpsw _ _
  | .skpsd _ _ | .skpst _ _ | .setcfg _ _ | .custom16 | .custom36 | .customB6 | .und7E | .undFE | .und9E | .und5E
  | .undDE | .und8E | .undX6Other _ | .undF3Op1000B _ | .undF3OpOddB _ | .undCXPDIB _ | .undJUMPIB _ | .undJSRIB _
  | .undF3Op1000W _ | .undF3OpOddW _ | .undCXPDIW _ | .undJUMPIW _ | .undJSRIW _ | .undF3Op1000D _ | .undF3OpOddD _
  | .undBICPSRD _ | .undBISPSRD _ | .undADDRIB _ | .undADDRIW _ | .undF5Op1xxx _ | .undF5OpX1xx _ | .undSETCFGI _
  | .faultF5TI _ | .faultF5I10 _ | .undF6Op0100 _ | .undF6Op1010 _ | .faultF6I10 _ | .undF7Op1010 _ | .undMOVXBWI _
  | .undMOVZBWI _ | .undMOVZiDD _ | .undMOVXiDD _ | .faultF7I10 _ | .undF8Op111 _ | .undCVTPI _
  | .undF8Op110Reg000 _ | .undF8Op110Reg010 _ | .undF8Op110Reg100 _ | .undF8Op110Reg101 _ | .undF8Op110Reg110 _
  | .undF8Op110Reg111 _ | .faultF8I10 _ | .undLFSRFi _ | .undMOVLFFi _ | .undMOVFLFi _ | .undSFSRFi _
  | .faultF9I10 _ | .fpuILLEGAL0011 _ | .fpuILLEGAL1001 _ | .undF11Op011x _ | .undF11Op101x _ | .undF11Op111x _
  | .undF11Bit9 _ | .undF14Op1xxx _ | .undF14OpX1xx _ | .undF14I _ => []
  | .addqb _ gen | .acbb _ gen _ => [⟨gen, .rmw, 1, .int⟩]
  | .addqw _ gen | .acbw _ gen _ => [⟨gen, .rmw, 2, .int⟩]
  | .addqd _ gen | .acbd _ gen _ => [⟨gen, .rmw, 4, .int⟩]
  | .cmpqb _ gen | .lprb _ gen | .bicpsrb gen | .bispsrb gen | .adjspb gen | .caseb gen => [⟨gen, .read, 1, .int⟩]
  | .cmpqw _ gen | .lprw _ gen | .bicpsrw gen | .bispsrw gen | .adjspw gen | .casew gen => [⟨gen, .read, 2, .int⟩]
  | .cmpqd _ gen | .lprd _ gen | .adjspd gen | .cased gen | .lfsr gen _ | .lmr _ gen _ => [⟨gen, .read, 4, .int⟩]
  | .movqb _ gen | .sprb _ gen => [⟨gen, .write, 1, .int⟩]
  | .movqw _ gen | .sprw _ gen => [⟨gen, .write, 2, .int⟩]
  | .movqd _ gen | .sprd _ gen | .sfsr gen _ | .smr _ gen _ => [⟨gen, .write, 4, .int⟩]
  | .seqb dest | .sneb dest | .scsb dest | .sccb dest | .shib dest | .slsb dest | .sgtb dest | .sleb dest
  | .sfsb dest | .sfcb dest | .slob dest | .shsb dest | .sltb dest | .sgeb dest | .srb dest | .s1111b dest =>
    [⟨dest, .write, 1, .int⟩]
  | .seqw dest | .snew dest | .scsw dest | .sccw dest | .shiw dest | .slsw dest | .sgtw dest | .slew dest
  | .sfsw dest | .sfcw dest | .slow dest | .shsw dest | .sltw dest | .sgew dest | .srw dest | .s1111w dest =>
    [⟨dest, .write, 2, .int⟩]
  | .seqd dest | .sned dest | .scsd dest | .sccd dest | .shid dest | .slsd dest | .sgtd dest | .sled dest
  | .sfsd dest | .sfcd dest | .slod dest | .shsd dest | .sltd dest | .sged dest | .srd dest | .s1111d dest =>
    [⟨dest, .write, 4, .int⟩]
  | .cxpd gen | .jump gen | .jsr gen => [⟨gen, .addr, 0, .int⟩]
  | .addb gen1 gen2 | .bicb gen1 gen2 | .addcb gen1 gen2 | .orb gen1 gen2 | .subb gen1 gen2 | .andb gen1 gen2
  | .subcb gen1 gen2 | .xorb gen1 gen2 | .rotb gen1 gen2 | .ashb gen1 gen2 | .lshb gen1 gen2 | .subpb gen1 gen2
  | .addpb gen1 gen2 | .mulb gen1 gen2 | .quob gen1 gen2 | .remb gen1 gen2 | .modb gen1 gen2 | .divb gen1 gen2
  | .ffsb gen1 gen2 _ => [⟨gen1, .read, 1, .int⟩, ⟨gen2, .rmw, 1, .int⟩]
  | .addw gen1 gen2 | .bicw gen1 gen2 | .addcw gen1 gen2 | .orw gen1 gen2 | .subw gen1 gen2 | .andw gen1 gen2
  | .subcw gen1 gen2 | .xorw gen1 gen2 | .subpw gen1 gen2 | .addpw gen1 gen2 | .mulw gen1 gen2 | .quow gen1 gen2
  | .remw gen1 gen2 | .modw gen1 gen2 | .divw gen1 gen2 => [⟨gen1, .read, 2, .int⟩, ⟨gen2, .rmw, 2, .int⟩]
  | .addd gen1 gen2 | .bicd gen1 gen2 | .addcd gen1 gen2 | .ord gen1 gen2 | .subd gen1 gen2 | .andd gen1 gen2
  | .subcd gen1 gen2 | .xord gen1 gen2 | .subpd gen1 gen2 | .addpd gen1 gen2 | .muld gen1 gen2 | .quod gen1 gen2
  | .remd gen1 gen2 | .modd gen1 gen2 | .divd gen1 gen2 => [⟨gen1, .read, 4, .int⟩, ⟨gen2, .rmw, 4, .int⟩]
  | .cmpb gen1 gen2 | .indexb _ gen1 gen2 => [⟨gen1, .read, 1, .int⟩, ⟨gen2, .read, 1, .int⟩]
  | .cmpw gen1 gen2 | .indexw _ gen1 gen2 => [⟨gen1, .read, 2, .int⟩, ⟨gen2, .read, 2, .int⟩]
  | .cmpd gen1 gen2 | .indexd _ gen1 gen2 => [⟨gen1, .read, 4, .int⟩, ⟨gen2, .read, 4, .int⟩]
  | .movb gen1 gen2 | .negb gen1 gen2 | .notb gen1 gen2 | .absb gen1 gen2 | .comb gen1 gen2 =>
    [⟨gen1, .read, 1, .int⟩, ⟨gen2, .write, 1, .int⟩]
  | .movw gen1 gen2 | .negw gen1 gen2 | .notw gen1 gen2 | .absw gen1 gen2 | .comw gen1 gen2 =>
    [⟨gen1, .read, 2, .int⟩, ⟨gen2, .write, 2, .int⟩]
  | .movd gen1 gen2 | .negd gen1 gen2 | .notd gen1 gen2 | .absd gen1 gen2 | .comd gen1 gen2 =>
    [⟨gen1, .read, 4, .int⟩, ⟨gen2, .write, 4, .int⟩]
  | .tbitb gen1 gen2 | .cbitb gen1 gen2 | .cbitib gen1 gen2 | .sbitb gen1 gen2 | .sbitib gen1 gen2
  | .ibitb gen1 gen2 | .inssb gen1 gen2 _ _ | .insb _ gen1 gen2 _ =>
    [⟨gen1, .read, 1, .int⟩, ⟨gen2, .regaddr, 0, .int⟩]
  | .tbitw gen1 gen2 | .cbitw gen1 gen2 | .cbitiw gen1 gen2 | .sbitw gen1 gen2 | .sbitiw gen1 gen2
  | .ibitw gen1 gen2 | .inssw gen1 gen2 _ _ | .insw _ gen1 gen2 _ =>
    [⟨gen1, .read, 2, .int⟩, ⟨gen2, .regaddr, 0, .int⟩]
  | .tbitd gen1 gen2 | .cbitd gen1 gen2 | .cbitid gen1 gen2 | .sbitd gen1 gen2 | .sbitid gen1 gen2
  | .ibitd gen1 gen2 | .inssd gen1 gen2 _ _ | .insd _ gen1 gen2 _ =>
    [⟨gen1, .read, 4, .int⟩, ⟨gen2, .regaddr, 0, .int⟩]
  | .addr gen1 gen2 | .cvtp _ gen1 gen2 => [⟨gen1, .addr, 0, .int⟩, ⟨gen2, .write, 4, .int⟩]
  | .lxpd disp1 disp2 dest => [⟨(.base (.ext disp1 disp2)), .addr, 0, .int⟩, ⟨dest, .write, 4, .int⟩]
  | .rotw gen1 gen2 | .ashw gen1 gen2 | .lshw gen1 gen2 => [⟨gen1, .read, 1, .int⟩, ⟨gen2, .rmw, 2, .int⟩]
  | .rotd gen1 gen2 | .ashd gen1 gen2 | .lshd gen1 gen2 => [⟨gen1, .read, 1, .int⟩, ⟨gen2, .rmw, 4, .int⟩]
  | .movmb gen1 gen2 _ | .movmw gen1 gen2 _ | .movmd gen1 gen2 _ | .cmpmb gen1 gen2 _ | .cmpmw gen1 gen2 _
  | .cmpmd gen1 gen2 _ | .movsub gen1 gen2 | .movsuw gen1 gen2 | .movsud gen1 gen2 | .movusb gen1 gen2
  | .movusw gen1 gen2 | .movusd gen1 gen2 => [⟨gen1, .addr, 0, .int⟩, ⟨gen2, .addr, 0, .int⟩]
  | .extsb gen1 gen2 _ _ | .extb _ gen1 gen2 _ => [⟨gen1, .regaddr, 0, .int⟩, ⟨gen2, .write, 1, .int⟩]
  | .extsw gen1 gen2 _ _ | .extw _ gen1 gen2 _ => [⟨gen1, .regaddr, 0, .int⟩, ⟨gen2, .write, 2, .int⟩]
  | .extsd gen1 gen2 _ _ | .extd _ gen1 gen2 _ => [⟨gen1, .regaddr, 0, .int⟩, ⟨gen2, .write, 4, .int⟩]
  | .meib gen1 gen2 | .deib gen1 gen2 => [⟨gen1, .read, 1, .int⟩, ⟨gen2, .rmw, 2, .pair⟩]
  | .meiw gen1 gen2 | .deiw gen1 gen2 => [⟨gen1, .read, 2, .int⟩, ⟨gen2, .rmw, 4, .pair⟩]
  | .meid gen1 gen2 | .deid gen1 gen2 => [⟨gen1, .read, 4, .int⟩, ⟨gen2, .rmw, 8, .pair⟩]
  | .movxbw gen1 gen2 | .movzbw gen1 gen2 => [⟨gen1, .read, 1, .int⟩, ⟨gen2, .write, 2, .int⟩]
  | .movzbd gen1 gen2 | .movxbd gen1 gen2 => [⟨gen1, .read, 1, .int⟩, ⟨gen2, .write, 4, .int⟩]
  | .movzwd gen1 gen2 | .movxwd gen1 gen2 => [⟨gen1, .read, 2, .int⟩, ⟨gen2, .write, 4, .int⟩]
  | .checkb _ gen1 gen2 => [⟨gen1, .addr, 0, .int⟩, ⟨gen2, .read, 1, .int⟩]
  | .checkw _ gen1 gen2 => [⟨gen1, .addr, 0, .int⟩, ⟨gen2, .read, 2, .int⟩]
  | .checkd _ gen1 gen2 => [⟨gen1, .addr, 0, .int⟩, ⟨gen2, .read, 4, .int⟩]
  | .ffsw gen1 gen2 _ => [⟨gen1, .read, 2, .int⟩, ⟨gen2, .rmw, 1, .int⟩]
  | .ffsd gen1 gen2 _ => [⟨gen1, .read, 4, .int⟩, ⟨gen2, .rmw, 1, .int⟩]
  | .movbf gen1 gen2 => [⟨gen1, .read, 1, .int⟩, ⟨gen2, .write, 4, .float⟩]
  | .movbl gen1 gen2 => [⟨gen1, .read, 1, .int⟩, ⟨gen2, .write, 8, .float⟩]
  | .movwf gen1 gen2 => [⟨gen1, .read, 2, .int⟩, ⟨gen2, .write, 4, .float⟩]
  | .movwl gen1 gen2 => [⟨gen1, .read, 2, .int⟩, ⟨gen2, .write, 8, .float⟩]
  | .movdf gen1 gen2 => [⟨gen1, .read, 4, .int⟩, ⟨gen2, .write, 4, .float⟩]
  | .movdl gen1 gen2 => [⟨gen1, .read, 4, .int⟩, ⟨gen2, .write, 8, .float⟩]
  | .roundfb gen1 gen2 | .truncfb gen1 gen2 | .floorfb gen1 gen2 =>
    [⟨gen1, .read, 4, .float⟩, ⟨gen2, .write, 1, .int⟩]
  | .roundfw gen1 gen2 | .truncfw gen1 gen2 | .floorfw gen1 gen2 =>
    [⟨gen1, .read, 4, .float⟩, ⟨gen2, .write, 2, .int⟩]
  | .roundfd gen1 gen2 | .truncfd gen1 gen2 | .floorfd gen1 gen2 =>
    [⟨gen1, .read, 4, .float⟩, ⟨gen2, .write, 4, .int⟩]
  | .roundlb gen1 gen2 | .trunclb gen1 gen2 | .floorlb gen1 gen2 =>
    [⟨gen1, .read, 8, .float⟩, ⟨gen2, .write, 1, .int⟩]
  | .roundlw gen1 gen2 | .trunclw gen1 gen2 | .floorlw gen1 gen2 =>
    [⟨gen1, .read, 8, .float⟩, ⟨gen2, .write, 2, .int⟩]
  | .roundld gen1 gen2 | .truncld gen1 gen2 | .floorld gen1 gen2 =>
    [⟨gen1, .read, 8, .float⟩, ⟨gen2, .write, 4, .int⟩]
  | .movlf gen1 gen2 => [⟨gen1, .read, 8, .float⟩, ⟨gen2, .write, 4, .float⟩]
  | .movfl gen1 gen2 => [⟨gen1, .read, 4, .float⟩, ⟨gen2, .write, 8, .float⟩]
  | .addf gen1 gen2 | .subf gen1 gen2 | .divf gen1 gen2 | .mulf gen1 gen2 =>
    [⟨gen1, .read, 4, .float⟩, ⟨gen2, .rmw, 4, .float⟩]
  | .addl gen1 gen2 | .subl gen1 gen2 | .divl gen1 gen2 | .mull gen1 gen2 =>
    [⟨gen1, .read, 8, .float⟩, ⟨gen2, .rmw, 8, .float⟩]
  | .movf gen1 gen2 | .negf gen1 gen2 | .absf gen1 gen2 => [⟨gen1, .read, 4, .float⟩, ⟨gen2, .write, 4, .float⟩]
  | .movl gen1 gen2 | .negl gen1 gen2 | .absl gen1 gen2 => [⟨gen1, .read, 8, .float⟩, ⟨gen2, .write, 8, .float⟩]
  | .cmpf gen1 gen2 => [⟨gen1, .read, 4, .float⟩, ⟨gen2, .read, 4, .float⟩]
  | .cmpl gen1 gen2 => [⟨gen1, .read, 8, .float⟩, ⟨gen2, .read, 8, .float⟩]
  | .rdval loc _ | .wrval loc _ => [⟨loc, .addr, 0, .int⟩]

/-- The displacement among an instruction's implied operands (R163). -/
def Instr.disp : Instr → Option Disp
  | .beq dest | .bne dest | .bcs dest | .bcc dest | .bhi dest | .bls dest | .bgt dest | .ble dest | .bfs dest
  | .bfc dest | .blo dest | .bhs dest | .blt dest | .bge dest | .br dest | .bcond1111 dest | .bsr dest
  | .acbb _ _ dest | .acbw _ _ dest | .acbd _ _ dest => some dest
  | .ret constant | .rxp constant | .rett constant | .enter _ constant => some constant
  | .cxp index => some index
  | .movmb _ _ length | .movmw _ _ length | .movmd _ _ length | .cmpmb _ _ length | .cmpmw _ _ length
  | .cmpmd _ _ length | .extb _ _ _ length | .extw _ _ _ length | .extd _ _ _ length | .insb _ _ _ length
  | .insw _ _ _ length | .insd _ _ _ length => some length
  | .reti | .save _ | .restore _ | .exit _ | .nop | .wait | .dia | .flag | .svc | .bpt | .addqb _ _ | .addqw _ _
  | .addqd _ _ | .cmpqb _ _ | .cmpqw _ _ | .cmpqd _ _ | .movqb _ _ | .movqw _ _ | .movqd _ _ | .sprb _ _
  | .sprw _ _ | .sprd _ _ | .lprb _ _ | .lprw _ _ | .lprd _ _ | .seqb _ | .sneb _ | .scsb _ | .sccb _ | .shib _
  | .slsb _ | .sgtb _ | .sleb _ | .sfsb _ | .sfcb _ | .slob _ | .shsb _ | .sltb _ | .sgeb _ | .srb _ | .s1111b _
  | .seqw _ | .snew _ | .scsw _ | .sccw _ | .shiw _ | .slsw _ | .sgtw _ | .slew _ | .sfsw _ | .sfcw _ | .slow _
  | .shsw _ | .sltw _ | .sgew _ | .srw _ | .s1111w _ | .seqd _ | .sned _ | .scsd _ | .sccd _ | .shid _ | .slsd _
  | .sgtd _ | .sled _ | .sfsd _ | .sfcd _ | .slod _ | .shsd _ | .sltd _ | .sged _ | .srd _ | .s1111d _ | .cxpd _
  | .jump _ | .jsr _ | .bicpsrb _ | .bicpsrw _ | .bispsrb _ | .bispsrw _ | .adjspb _ | .adjspw _ | .adjspd _
  | .caseb _ | .casew _ | .cased _ | .addb _ _ | .addw _ _ | .addd _ _ | .cmpb _ _ | .cmpw _ _ | .cmpd _ _
  | .bicb _ _ | .bicw _ _ | .bicd _ _ | .addcb _ _ | .addcw _ _ | .addcd _ _ | .movb _ _ | .movw _ _ | .movd _ _
  | .orb _ _ | .orw _ _ | .ord _ _ | .subb _ _ | .subw _ _ | .subd _ _ | .andb _ _ | .andw _ _ | .andd _ _
  | .subcb _ _ | .subcw _ _ | .subcd _ _ | .tbitb _ _ | .tbitw _ _ | .tbitd _ _ | .xorb _ _ | .xorw _ _ | .xord _ _
  | .addr _ _ | .lxpd _ _ _ | .movsb _ _ | .movsw _ _ | .movsd _ _ | .movst _ _ | .cmpsb _ _ | .cmpsw _ _
  | .cmpsd _ _ | .cmpst _ _ | .skpsb _ _ | .skpsw _ _ | .skpsd _ _ | .skpst _ _ | .setcfg _ _ | .rotb _ _
  | .rotw _ _ | .rotd _ _ | .ashb _ _ | .ashw _ _ | .ashd _ _ | .cbitb _ _ | .cbitw _ _ | .cbitd _ _ | .cbitib _ _
  | .cbitiw _ _ | .cbitid _ _ | .lshb _ _ | .lshw _ _ | .lshd _ _ | .sbitb _ _ | .sbitw _ _ | .sbitd _ _
  | .sbitib _ _ | .sbitiw _ _ | .sbitid _ _ | .negb _ _ | .negw _ _ | .negd _ _ | .notb _ _ | .notw _ _ | .notd _ _
  | .subpb _ _ | .subpw _ _ | .subpd _ _ | .absb _ _ | .absw _ _ | .absd _ _ | .comb _ _ | .comw _ _ | .comd _ _
  | .ibitb _ _ | .ibitw _ _ | .ibitd _ _ | .addpb _ _ | .addpw _ _ | .addpd _ _ | .inssb _ _ _ _ | .inssw _ _ _ _
  | .inssd _ _ _ _ | .extsb _ _ _ _ | .extsw _ _ _ _ | .extsd _ _ _ _ | .mulb _ _ | .mulw _ _ | .muld _ _
  | .meib _ _ | .meiw _ _ | .meid _ _ | .deib _ _ | .deiw _ _ | .deid _ _ | .quob _ _ | .quow _ _ | .quod _ _
  | .remb _ _ | .remw _ _ | .remd _ _ | .modb _ _ | .modw _ _ | .modd _ _ | .divb _ _ | .divw _ _ | .divd _ _
  | .movxbw _ _ | .movzbw _ _ | .movzbd _ _ | .movzwd _ _ | .movxbd _ _ | .movxwd _ _ | .checkb _ _ _
  | .checkw _ _ _ | .checkd _ _ _ | .indexb _ _ _ | .indexw _ _ _ | .indexd _ _ _ | .cvtp _ _ _ | .ffsb _ _ _
  | .ffsw _ _ _ | .ffsd _ _ _ | .movsub _ _ | .movsuw _ _ | .movsud _ _ | .movusb _ _ | .movusw _ _ | .movusd _ _
  | .movbf _ _ | .movbl _ _ | .movwf _ _ | .movwl _ _ | .movdf _ _ | .movdl _ _ | .roundfb _ _ | .roundfw _ _
  | .roundfd _ _ | .roundlb _ _ | .roundlw _ _ | .roundld _ _ | .truncfb _ _ | .truncfw _ _ | .truncfd _ _
  | .trunclb _ _ | .trunclw _ _ | .truncld _ _ | .floorfb _ _ | .floorfw _ _ | .floorfd _ _ | .floorlb _ _
  | .floorlw _ _ | .floorld _ _ | .movlf _ _ | .movfl _ _ | .lfsr _ _ | .sfsr _ _ | .addf _ _ | .addl _ _
  | .movf _ _ | .movl _ _ | .cmpf _ _ | .cmpl _ _ | .subf _ _ | .subl _ _ | .negf _ _ | .negl _ _ | .divf _ _
  | .divl _ _ | .mulf _ _ | .mull _ _ | .absf _ _ | .absl _ _ | .rdval _ _ | .wrval _ _ | .lmr _ _ _ | .smr _ _ _
  | .custom16 | .custom36 | .customB6 | .und7E | .undFE | .und9E | .und5E | .undDE | .und8E | .undX6Other _
  | .undF3Op1000B _ | .undF3OpOddB _ | .undCXPDIB _ | .undJUMPIB _ | .undJSRIB _ | .undF3Op1000W _ | .undF3OpOddW _
  | .undCXPDIW _ | .undJUMPIW _ | .undJSRIW _ | .undF3Op1000D _ | .undF3OpOddD _ | .undBICPSRD _ | .undBISPSRD _
  | .undADDRIB _ | .undADDRIW _ | .undF5Op1xxx _ | .undF5OpX1xx _ | .undSETCFGI _ | .faultF5TI _ | .faultF5I10 _
  | .undF6Op0100 _ | .undF6Op1010 _ | .faultF6I10 _ | .undF7Op1010 _ | .undMOVXBWI _ | .undMOVZBWI _
  | .undMOVZiDD _ | .undMOVXiDD _ | .faultF7I10 _ | .undF8Op111 _ | .undCVTPI _ | .undF8Op110Reg000 _
  | .undF8Op110Reg010 _ | .undF8Op110Reg100 _ | .undF8Op110Reg101 _ | .undF8Op110Reg110 _ | .undF8Op110Reg111 _
  | .faultF8I10 _ | .undLFSRFi _ | .undMOVLFFi _ | .undMOVFLFi _ | .undSFSRFi _ | .faultF9I10 _ | .fpuILLEGAL0011 _
  | .fpuILLEGAL1001 _ | .undF11Op011x _ | .undF11Op101x _ | .undF11Op111x _ | .undF11Bit9 _ | .undF14Op1xxx _
  | .undF14OpX1xx _ | .undF14I _ => none

/-- The one-byte immediate among an instruction's implied operands (R163, R173, R179). -/
def Instr.immByte : Instr → Option Byte
  | .save reglist | .restore reglist | .enter reglist _ | .exit reglist => some reglist
  | .inssb _ _ offset lengthM1 | .inssw _ _ offset lengthM1 | .inssd _ _ offset lengthM1
  | .extsb _ _ offset lengthM1 | .extsw _ _ offset lengthM1 | .extsd _ _ offset lengthM1 => some (offset ++ lengthM1)
  | .beq _ | .bne _ | .bcs _ | .bcc _ | .bhi _ | .bls _ | .bgt _ | .ble _ | .bfs _ | .bfc _ | .blo _ | .bhs _
  | .blt _ | .bge _ | .br _ | .bcond1111 _ | .bsr _ | .ret _ | .cxp _ | .rxp _ | .rett _ | .reti | .nop | .wait
  | .dia | .flag | .svc | .bpt | .addqb _ _ | .addqw _ _ | .addqd _ _ | .cmpqb _ _ | .cmpqw _ _ | .cmpqd _ _
  | .movqb _ _ | .movqw _ _ | .movqd _ _ | .acbb _ _ _ | .acbw _ _ _ | .acbd _ _ _ | .sprb _ _ | .sprw _ _
  | .sprd _ _ | .lprb _ _ | .lprw _ _ | .lprd _ _ | .seqb _ | .sneb _ | .scsb _ | .sccb _ | .shib _ | .slsb _
  | .sgtb _ | .sleb _ | .sfsb _ | .sfcb _ | .slob _ | .shsb _ | .sltb _ | .sgeb _ | .srb _ | .s1111b _ | .seqw _
  | .snew _ | .scsw _ | .sccw _ | .shiw _ | .slsw _ | .sgtw _ | .slew _ | .sfsw _ | .sfcw _ | .slow _ | .shsw _
  | .sltw _ | .sgew _ | .srw _ | .s1111w _ | .seqd _ | .sned _ | .scsd _ | .sccd _ | .shid _ | .slsd _ | .sgtd _
  | .sled _ | .sfsd _ | .sfcd _ | .slod _ | .shsd _ | .sltd _ | .sged _ | .srd _ | .s1111d _ | .cxpd _ | .jump _
  | .jsr _ | .bicpsrb _ | .bicpsrw _ | .bispsrb _ | .bispsrw _ | .adjspb _ | .adjspw _ | .adjspd _ | .caseb _
  | .casew _ | .cased _ | .addb _ _ | .addw _ _ | .addd _ _ | .cmpb _ _ | .cmpw _ _ | .cmpd _ _ | .bicb _ _
  | .bicw _ _ | .bicd _ _ | .addcb _ _ | .addcw _ _ | .addcd _ _ | .movb _ _ | .movw _ _ | .movd _ _ | .orb _ _
  | .orw _ _ | .ord _ _ | .subb _ _ | .subw _ _ | .subd _ _ | .andb _ _ | .andw _ _ | .andd _ _ | .subcb _ _
  | .subcw _ _ | .subcd _ _ | .tbitb _ _ | .tbitw _ _ | .tbitd _ _ | .xorb _ _ | .xorw _ _ | .xord _ _ | .addr _ _
  | .lxpd _ _ _ | .movsb _ _ | .movsw _ _ | .movsd _ _ | .movst _ _ | .cmpsb _ _ | .cmpsw _ _ | .cmpsd _ _
  | .cmpst _ _ | .skpsb _ _ | .skpsw _ _ | .skpsd _ _ | .skpst _ _ | .setcfg _ _ | .rotb _ _ | .rotw _ _
  | .rotd _ _ | .ashb _ _ | .ashw _ _ | .ashd _ _ | .cbitb _ _ | .cbitw _ _ | .cbitd _ _ | .cbitib _ _
  | .cbitiw _ _ | .cbitid _ _ | .lshb _ _ | .lshw _ _ | .lshd _ _ | .sbitb _ _ | .sbitw _ _ | .sbitd _ _
  | .sbitib _ _ | .sbitiw _ _ | .sbitid _ _ | .negb _ _ | .negw _ _ | .negd _ _ | .notb _ _ | .notw _ _ | .notd _ _
  | .subpb _ _ | .subpw _ _ | .subpd _ _ | .absb _ _ | .absw _ _ | .absd _ _ | .comb _ _ | .comw _ _ | .comd _ _
  | .ibitb _ _ | .ibitw _ _ | .ibitd _ _ | .addpb _ _ | .addpw _ _ | .addpd _ _ | .movmb _ _ _ | .movmw _ _ _
  | .movmd _ _ _ | .cmpmb _ _ _ | .cmpmw _ _ _ | .cmpmd _ _ _ | .mulb _ _ | .mulw _ _ | .muld _ _ | .meib _ _
  | .meiw _ _ | .meid _ _ | .deib _ _ | .deiw _ _ | .deid _ _ | .quob _ _ | .quow _ _ | .quod _ _ | .remb _ _
  | .remw _ _ | .remd _ _ | .modb _ _ | .modw _ _ | .modd _ _ | .divb _ _ | .divw _ _ | .divd _ _ | .movxbw _ _
  | .movzbw _ _ | .movzbd _ _ | .movzwd _ _ | .movxbd _ _ | .movxwd _ _ | .extb _ _ _ _ | .extw _ _ _ _
  | .extd _ _ _ _ | .insb _ _ _ _ | .insw _ _ _ _ | .insd _ _ _ _ | .checkb _ _ _ | .checkw _ _ _ | .checkd _ _ _
  | .indexb _ _ _ | .indexw _ _ _ | .indexd _ _ _ | .cvtp _ _ _ | .ffsb _ _ _ | .ffsw _ _ _ | .ffsd _ _ _
  | .movsub _ _ | .movsuw _ _ | .movsud _ _ | .movusb _ _ | .movusw _ _ | .movusd _ _ | .movbf _ _ | .movbl _ _
  | .movwf _ _ | .movwl _ _ | .movdf _ _ | .movdl _ _ | .roundfb _ _ | .roundfw _ _ | .roundfd _ _ | .roundlb _ _
  | .roundlw _ _ | .roundld _ _ | .truncfb _ _ | .truncfw _ _ | .truncfd _ _ | .trunclb _ _ | .trunclw _ _
  | .truncld _ _ | .floorfb _ _ | .floorfw _ _ | .floorfd _ _ | .floorlb _ _ | .floorlw _ _ | .floorld _ _
  | .movlf _ _ | .movfl _ _ | .lfsr _ _ | .sfsr _ _ | .addf _ _ | .addl _ _ | .movf _ _ | .movl _ _ | .cmpf _ _
  | .cmpl _ _ | .subf _ _ | .subl _ _ | .negf _ _ | .negl _ _ | .divf _ _ | .divl _ _ | .mulf _ _ | .mull _ _
  | .absf _ _ | .absl _ _ | .rdval _ _ | .wrval _ _ | .lmr _ _ _ | .smr _ _ _ | .custom16 | .custom36 | .customB6
  | .und7E | .undFE | .und9E | .und5E | .undDE | .und8E | .undX6Other _ | .undF3Op1000B _ | .undF3OpOddB _
  | .undCXPDIB _ | .undJUMPIB _ | .undJSRIB _ | .undF3Op1000W _ | .undF3OpOddW _ | .undCXPDIW _ | .undJUMPIW _
  | .undJSRIW _ | .undF3Op1000D _ | .undF3OpOddD _ | .undBICPSRD _ | .undBISPSRD _ | .undADDRIB _ | .undADDRIW _
  | .undF5Op1xxx _ | .undF5OpX1xx _ | .undSETCFGI _ | .faultF5TI _ | .faultF5I10 _ | .undF6Op0100 _
  | .undF6Op1010 _ | .faultF6I10 _ | .undF7Op1010 _ | .undMOVXBWI _ | .undMOVZBWI _ | .undMOVZiDD _ | .undMOVXiDD _
  | .faultF7I10 _ | .undF8Op111 _ | .undCVTPI _ | .undF8Op110Reg000 _ | .undF8Op110Reg010 _ | .undF8Op110Reg100 _
  | .undF8Op110Reg101 _ | .undF8Op110Reg110 _ | .undF8Op110Reg111 _ | .faultF8I10 _ | .undLFSRFi _ | .undMOVLFFi _
  | .undMOVFLFi _ | .undSFSRFi _ | .faultF9I10 _ | .fpuILLEGAL0011 _ | .fpuILLEGAL1001 _ | .undF11Op011x _
  | .undF11Op101x _ | .undF11Op111x _ | .undF11Bit9 _ | .undF14Op1xxx _ | .undF14OpX1xx _ | .undF14I _ => none

/-- The conditions on an instruction's own fields: a must-be-zero field is zero (U41), a selector or length is one the
rules list (R170, R171, R173, R175, R176), a row that is no instruction holds an encoding of that row. -/
def Instr.fieldsOk : Instr → Bool
  | .sprb procreg _ | .lprb procreg _ => procregOk procreg .b
  | .sprw procreg _ | .lprw procreg _ => procregOk procreg .w
  | .sprd procreg _ | .lprd procreg _ => procregOk procreg .d
  | .addr gen1 _ => !gen1.isExternal
  | .movsb opts unused | .movsw opts unused | .movsd opts unused | .movst opts unused | .cmpsb opts unused
  | .cmpsw opts unused | .cmpsd opts unused | .cmpst opts unused | .skpsb opts unused | .skpsw opts unused
  | .skpsd opts unused | .skpst opts unused => unused == 0 && opts.matching != .reserved
  | .setcfg _ unused | .ffsb _ _ unused | .ffsw _ _ unused | .ffsd _ _ unused | .lfsr _ unused | .sfsr _ unused
  | .rdval _ unused | .wrval _ unused => unused == 0
  | .movmb _ _ length | .cmpmb _ _ length => blockLengthOk .b length
  | .movmw _ _ length | .cmpmw _ _ length => blockLengthOk .w length
  | .movmd _ _ length | .cmpmd _ _ length => blockLengthOk .d length
  | .extb _ _ _ length | .extw _ _ _ length | .extd _ _ _ length | .insb _ _ _ length | .insw _ _ _ length
  | .insd _ _ _ length => fieldLengthOk length
  | .lmr mmureg _ unused | .smr mmureg _ unused => unused == 0 && mmuregOk mmureg
  | .undX6Other raw => rawOk raw.toNat 0xF 0x6 [(0xFF, 0x16), (0xFF, 0x36), (0xFF, 0xB6)]
  | .undF3Op1000B raw => rawOk raw.toNat 0x7FF 0x47C []
  | .undF3OpOddB raw => rawOk raw.toNat 0xFF 0xFC []
  | .undCXPDIB raw => rawOk raw.toNat 0x7FF 0x7C []
  | .undJUMPIB raw => rawOk raw.toNat 0x7FF 0x27C []
  | .undJSRIB raw => rawOk raw.toNat 0x7FF 0x67C []
  | .undF3Op1000W raw => rawOk raw.toNat 0x7FF 0x47D []
  | .undF3OpOddW raw => rawOk raw.toNat 0xFF 0xFD []
  | .undCXPDIW raw => rawOk raw.toNat 0x7FF 0x7D []
  | .undJUMPIW raw => rawOk raw.toNat 0x7FF 0x27D []
  | .undJSRIW raw => rawOk raw.toNat 0x7FF 0x67D []
  | .undF3Op1000D raw => rawOk raw.toNat 0x7FF 0x47F []
  | .undF3OpOddD raw => rawOk raw.toNat 0xFF 0xFF []
  | .undBICPSRD raw => rawOk raw.toNat 0x7FF 0x17F []
  | .undBISPSRD raw => rawOk raw.toNat 0x7FF 0x37F []
  | .undADDRIB raw => rawOk raw.toNat 0x3F 0x24 []
  | .undADDRIW raw => rawOk raw.toNat 0x3F 0x25 []
  | .undF5Op1xxx raw => rawOk raw.toNat 0x20FF 0x200E []
  | .undF5OpX1xx raw => rawOk raw.toNat 0x10FF 0x100E [(0x20FF, 0x200E)]
  | .undSETCFGI raw => rawOk raw.toNat 0x3CFF 0x80E [(0x3FFF, 0xB0E)]
  | .faultF5TI raw =>
    rawOk raw.toNat 0x80FF 0x800E [(0xBFFF, 0x800E), (0xBFFF, 0x840E), (0xBFFF, 0x8C0E), (0x3FFF, 0xB0E), (0x20FF, 0x200E), (0x10FF, 0x100E), (0x3CFF, 0x80E)]
  | .faultF5I10 raw =>
    rawOk raw.toNat 0x3FF 0x20E [(0x20FF, 0x200E), (0x10FF, 0x100E), (0x3CFF, 0x80E), (0x80FF, 0x800E)]
  | .undF6Op0100 raw => rawOk raw.toNat 0x3CFF 0x104E []
  | .undF6Op1010 raw => rawOk raw.toNat 0x3CFF 0x284E []
  | .faultF6I10 raw => rawOk raw.toNat 0x3FF 0x24E [(0x3CFF, 0x104E), (0x3CFF, 0x284E)]
  | .undF7Op1010 raw => rawOk raw.toNat 0x3CFF 0x28CE []
  | .undMOVXBWI raw => rawOk raw.toNat 0x3CFF 0x10CE [(0x3FFF, 0x10CE)]
  | .undMOVZBWI raw => rawOk raw.toNat 0x3CFF 0x14CE [(0x3FFF, 0x14CE)]
  | .undMOVZiDD raw => rawOk raw.toNat 0x3FFF 0x1BCE []
  | .undMOVXiDD raw => rawOk raw.toNat 0x3FFF 0x1FCE []
  | .faultF7I10 raw => rawOk raw.toNat 0x3FF 0x2CE [(0x3CFF, 0x28CE), (0x3CFF, 0x10CE), (0x3CFF, 0x14CE)]
  | .undF8Op111 raw => rawOk raw.toNat 0x4FF 0x4EE []
  | .undCVTPI raw => rawOk raw.toNat 0x4FF 0x6E [(0x7FF, 0x36E)]
  | .undF8Op110Reg000 raw => rawOk raw.toNat 0x3CFF 0x4AE []
  | .undF8Op110Reg010 raw => rawOk raw.toNat 0x3CFF 0x14AE []
  | .undF8Op110Reg100 raw => rawOk raw.toNat 0x3CFF 0x24AE []
  | .undF8Op110Reg101 raw => rawOk raw.toNat 0x3CFF 0x2CAE []
  | .undF8Op110Reg110 raw => rawOk raw.toNat 0x3CFF 0x34AE []
  | .undF8Op110Reg111 raw => rawOk raw.toNat 0x3CFF 0x3CAE []
  | .faultF8I10 raw =>
    rawOk raw.toNat 0x33F 0x22E [(0x4FF, 0x4EE), (0x4FF, 0x6E), (0x3CFF, 0x4AE), (0x3CFF, 0x14AE), (0x3CFF, 0x24AE), (0x3CFF, 0x2CAE), (0x3CFF, 0x34AE), (0x3CFF, 0x3CAE)]
  | .undLFSRFi raw => rawOk raw.toNat 0x38FF 0x83E [(0x3FFF, 0xF3E)]
  | .undMOVLFFi raw => rawOk raw.toNat 0x38FF 0x103E [(0x3FFF, 0x163E)]
  | .undMOVFLFi raw => rawOk raw.toNat 0x38FF 0x183E [(0x3FFF, 0x1B3E)]
  | .undSFSRFi raw => rawOk raw.toNat 0x38FF 0x303E [(0x3FFF, 0x373E)]
  | .faultF9I10 raw =>
    rawOk raw.toNat 0x3FF 0x23E [(0x3FFF, 0x163E), (0x38FF, 0x83E), (0x38FF, 0x103E), (0x38FF, 0x183E), (0x38FF, 0x303E)]
  | .fpuILLEGAL0011 raw => rawOk raw.toNat 0x3CFF 0xCBE []
  | .fpuILLEGAL1001 raw => rawOk raw.toNat 0x3CFF 0x24BE []
  | .undF11Op011x raw => rawOk raw.toNat 0x38FF 0x18BE []
  | .undF11Op101x raw => rawOk raw.toNat 0x38FF 0x28BE []
  | .undF11Op111x raw => rawOk raw.toNat 0x38FF 0x38BE []
  | .undF11Bit9 raw =>
    rawOk raw.toNat 0x2FF 0x2BE [(0x3CFF, 0xCBE), (0x3CFF, 0x24BE), (0x38FF, 0x18BE), (0x38FF, 0x28BE), (0x38FF, 0x38BE)]
  | .undF14Op1xxx raw => rawOk raw.toNat 0x20FF 0x201E []
  | .undF14OpX1xx raw => rawOk raw.toNat 0x10FF 0x101E [(0x20FF, 0x201E)]
  | .undF14I raw =>
    rawOk raw.toNat 0xFF 0x1E [(0x3FFF, 0x31E), (0x3FFF, 0x71E), (0x3FFF, 0xB1E), (0x3FFF, 0xF1E), (0x20FF, 0x201E), (0x10FF, 0x101E)]
  | .beq _ | .bne _ | .bcs _ | .bcc _ | .bhi _ | .bls _ | .bgt _ | .ble _ | .bfs _ | .bfc _ | .blo _ | .bhs _
  | .blt _ | .bge _ | .br _ | .bcond1111 _ | .bsr _ | .ret _ | .cxp _ | .rxp _ | .rett _ | .reti | .save _
  | .restore _ | .enter _ _ | .exit _ | .nop | .wait | .dia | .flag | .svc | .bpt | .addqb _ _ | .addqw _ _
  | .addqd _ _ | .cmpqb _ _ | .cmpqw _ _ | .cmpqd _ _ | .movqb _ _ | .movqw _ _ | .movqd _ _ | .acbb _ _ _
  | .acbw _ _ _ | .acbd _ _ _ | .seqb _ | .sneb _ | .scsb _ | .sccb _ | .shib _ | .slsb _ | .sgtb _ | .sleb _
  | .sfsb _ | .sfcb _ | .slob _ | .shsb _ | .sltb _ | .sgeb _ | .srb _ | .s1111b _ | .seqw _ | .snew _ | .scsw _
  | .sccw _ | .shiw _ | .slsw _ | .sgtw _ | .slew _ | .sfsw _ | .sfcw _ | .slow _ | .shsw _ | .sltw _ | .sgew _
  | .srw _ | .s1111w _ | .seqd _ | .sned _ | .scsd _ | .sccd _ | .shid _ | .slsd _ | .sgtd _ | .sled _ | .sfsd _
  | .sfcd _ | .slod _ | .shsd _ | .sltd _ | .sged _ | .srd _ | .s1111d _ | .cxpd _ | .jump _ | .jsr _ | .bicpsrb _
  | .bicpsrw _ | .bispsrb _ | .bispsrw _ | .adjspb _ | .adjspw _ | .adjspd _ | .caseb _ | .casew _ | .cased _
  | .addb _ _ | .addw _ _ | .addd _ _ | .cmpb _ _ | .cmpw _ _ | .cmpd _ _ | .bicb _ _ | .bicw _ _ | .bicd _ _
  | .addcb _ _ | .addcw _ _ | .addcd _ _ | .movb _ _ | .movw _ _ | .movd _ _ | .orb _ _ | .orw _ _ | .ord _ _
  | .subb _ _ | .subw _ _ | .subd _ _ | .andb _ _ | .andw _ _ | .andd _ _ | .subcb _ _ | .subcw _ _ | .subcd _ _
  | .tbitb _ _ | .tbitw _ _ | .tbitd _ _ | .xorb _ _ | .xorw _ _ | .xord _ _ | .lxpd _ _ _ | .rotb _ _ | .rotw _ _
  | .rotd _ _ | .ashb _ _ | .ashw _ _ | .ashd _ _ | .cbitb _ _ | .cbitw _ _ | .cbitd _ _ | .cbitib _ _
  | .cbitiw _ _ | .cbitid _ _ | .lshb _ _ | .lshw _ _ | .lshd _ _ | .sbitb _ _ | .sbitw _ _ | .sbitd _ _
  | .sbitib _ _ | .sbitiw _ _ | .sbitid _ _ | .negb _ _ | .negw _ _ | .negd _ _ | .notb _ _ | .notw _ _ | .notd _ _
  | .subpb _ _ | .subpw _ _ | .subpd _ _ | .absb _ _ | .absw _ _ | .absd _ _ | .comb _ _ | .comw _ _ | .comd _ _
  | .ibitb _ _ | .ibitw _ _ | .ibitd _ _ | .addpb _ _ | .addpw _ _ | .addpd _ _ | .inssb _ _ _ _ | .inssw _ _ _ _
  | .inssd _ _ _ _ | .extsb _ _ _ _ | .extsw _ _ _ _ | .extsd _ _ _ _ | .mulb _ _ | .mulw _ _ | .muld _ _
  | .meib _ _ | .meiw _ _ | .meid _ _ | .deib _ _ | .deiw _ _ | .deid _ _ | .quob _ _ | .quow _ _ | .quod _ _
  | .remb _ _ | .remw _ _ | .remd _ _ | .modb _ _ | .modw _ _ | .modd _ _ | .divb _ _ | .divw _ _ | .divd _ _
  | .movxbw _ _ | .movzbw _ _ | .movzbd _ _ | .movzwd _ _ | .movxbd _ _ | .movxwd _ _ | .checkb _ _ _
  | .checkw _ _ _ | .checkd _ _ _ | .indexb _ _ _ | .indexw _ _ _ | .indexd _ _ _ | .cvtp _ _ _ | .movsub _ _
  | .movsuw _ _ | .movsud _ _ | .movusb _ _ | .movusw _ _ | .movusd _ _ | .movbf _ _ | .movbl _ _ | .movwf _ _
  | .movwl _ _ | .movdf _ _ | .movdl _ _ | .roundfb _ _ | .roundfw _ _ | .roundfd _ _ | .roundlb _ _ | .roundlw _ _
  | .roundld _ _ | .truncfb _ _ | .truncfw _ _ | .truncfd _ _ | .trunclb _ _ | .trunclw _ _ | .truncld _ _
  | .floorfb _ _ | .floorfw _ _ | .floorfd _ _ | .floorlb _ _ | .floorlw _ _ | .floorld _ _ | .movlf _ _
  | .movfl _ _ | .addf _ _ | .addl _ _ | .movf _ _ | .movl _ _ | .cmpf _ _ | .cmpl _ _ | .subf _ _ | .subl _ _
  | .negf _ _ | .negl _ _ | .divf _ _ | .divl _ _ | .mulf _ _ | .mull _ _ | .absf _ _ | .absl _ _ | .custom16
  | .custom36 | .customB6 | .und7E | .undFE | .und9E | .und5E | .undDE | .und8E => true

/-- A legal instruction. -/
def Instr.wf (i : Instr) : Bool :=
  i.operands.all Operand.ok && (i.disp.all Disp.ok) && i.fieldsOk

end Sys2Proof
end

