-- ==== Sys2Proof/Decode.lean ====
section
/-! DEFINITION. The decoder, total on any bytes, and the encoder (spec/30_encoding.md). Bit layouts and opcode values are
general knowledge there (G3 to G10, G21, G22, G26): PRESUMED, log 28. Every encoding is some constructor of Instr; the
decoder refuses only bytes that end before the instruction does.

The compiler's runtime cannot build a value of a constructor numbered above 244 that has fields, so the definitions that
build instructions are marked noncomputable: the kernel evaluates them all the same. -/

namespace Sys2Proof

/-- Why the decoder reads no instruction. -/
inductive DecodeError
  /-- The bytes given end before the instruction does. -/
  | outOfBytes
deriving DecidableEq, Repr, Inhabited

/-- A reader of the instruction stream (`IFetch` of R10): the bytes not yet read are its state. -/
abbrev Parse := StateT (List Byte) (Except DecodeError)

/-- One operand of three by the operation length. -/
def Len.sel {α : Type} (l : Len) (b w d : α) : α :=
  match l with
  | .b => b
  | .w => w
  | .d => d

/-- One of two by the floating-point length. -/
def FLen.sel {α : Type} (x : FLen) (f l : α) : α :=
  match x with
  | .f => f
  | .l => l

/-- The `i` field (R125). -/
def Len.code : Len → BitVec 2
  | .b => 0b00
  | .w => 0b01
  | .d => 0b11

/-- The length an `i` field holds (R125), read where the field is not 10. -/
def lenOf (i : BitVec 2) : Len := if i = 0b00 then .b else if i = 0b01 then .w else .d

/-- The `f` field (R125). -/
def FLen.code : FLen → BitVec 1
  | .f => 1
  | .l => 0

/-- The length an `f` field holds (R125). -/
def flenOf (f : BitVec 1) : FLen := if f = 1 then .f else .l

/-- A register number from its 3-bit field (R160). -/
def regOf (v : BitVec 3) : Reg := ⟨v.toNat, v.isLt⟩

/-- The 3-bit field of a register number (R160). -/
def regCode (r : Reg) : BitVec 3 := BitVec.ofNat 3 r.val

/-! ### Reading extensions -/

/-- The next byte of the stream. -/
def nextByte : Parse Byte := fun bs =>
  match bs with
  | [] => .error .outOfBytes
  | b :: rest => .ok (b, rest)

/-- A displacement field (R164). -/
def parseDisp : Parse Disp := do
  let b0 ← nextByte
  if b0.extractLsb' 7 1 = 0 then
    return .d1 (b0.extractLsb' 0 7)
  let b1 ← nextByte
  if b0.extractLsb' 6 1 = 0 then
    return .d2 (b0.extractLsb' 0 6 ++ b1)
  let b2 ← nextByte
  let b3 ← nextByte
  return .d4 (b0.extractLsb' 0 6 ++ b1 ++ b2 ++ b3)

/-- An immediate value of `n` bytes, most significant first (R183, G22). -/
def parseImm : Nat → QWord → Parse QWord
  | 0, acc => pure acc
  | n + 1, acc => do
    let b ← nextByte
    parseImm n (acc <<< 8 ||| b.setWidth 64)

/-- The index byte of a gen field that is a Scaled Index (R188, R189). -/
def parseIndex (code : BitVec 5) : Parse (Option Byte) :=
  if code.extractLsb' 2 3 = 0b111 then some <$> nextByte else pure none

/-- The extensions of a base mode (R178, R189). -/
def parseBase (code : BitVec 5) : Parse Base :=
  match code.extractLsb' 3 2 with
  | 0b00 => pure (.reg (regOf (code.extractLsb' 0 3)))
  | 0b01 => .regRel (regOf (code.extractLsb' 0 3)) <$> parseDisp
  | _ =>
    match code with
    | 0b10000 => .frameRel <$> parseDisp <*> parseDisp
    | 0b10001 => .stackRel <$> parseDisp <*> parseDisp
    | 0b10010 => .staticRel <$> parseDisp <*> parseDisp
    | 0b10101 => .abs <$> parseDisp
    | 0b10110 => .ext <$> parseDisp <*> parseDisp
    | 0b10111 => pure .tos
    | 0b11000 => .frame <$> parseDisp
    | 0b11001 => .stack <$> parseDisp
    | 0b11010 => .static <$> parseDisp
    | 0b11011 => .program <$> parseDisp
    | _ => pure (.illegal code)

/-- The scale of a Scaled Index gen code (R178). -/
def scaleOf (c : BitVec 2) : Scale :=
  match c with
  | 0b00 => .b
  | 0b01 => .w
  | 0b10 => .d
  | _ => .q

/-- The extensions of a general operand whose Immediate form has `n` bytes (R178, R188, R189). An Immediate of class addr
or regaddr has no length and so no bytes (`n` = 0): log 43. -/
def parseGen (n : Nat) (code : BitVec 5) (index : Option Byte) : Parse Gen :=
  match index with
  | some x => .scaled (scaleOf (code.extractLsb' 0 2)) (regOf (x.extractLsb' 0 3)) <$> parseBase (x.extractLsb' 3 5)
  | none => if code = 0b10100 then .imm <$> parseImm n 0 else .base <$> parseBase code

/-- One general operand, in the order of R189. -/
def parseOne (n : Nat) (code : BitVec 5) : Parse Gen := do
  let x ← parseIndex code
  parseGen n code x

/-- Two general operands, in the order of R189. -/
def parseTwo (n1 n2 : Nat) (code1 code2 : BitVec 5) (k : Gen → Gen → Instr) : Parse Instr := do
  let x1 ← parseIndex code1
  let x2 ← parseIndex code2
  let g1 ← parseGen n1 code1 x1
  let g2 ← parseGen n2 code2 x2
  return k g1 g2

/-- Two general operands, then a displacement (R189). -/
def parseTwoDisp (n1 n2 : Nat) (code1 code2 : BitVec 5) (k : Gen → Gen → Disp → Instr) : Parse Instr := do
  let x1 ← parseIndex code1
  let x2 ← parseIndex code2
  let g1 ← parseGen n1 code1 x1
  let g2 ← parseGen n2 code2 x2
  k g1 g2 <$> parseDisp

/-! ### The formats -/

/-- Format 0 (R126), by its cond field. -/
def parseF0 (cond : BitVec 4) : Parse Instr := do
  let dest ← parseDisp
  return match cond with
  | 0b0000 => .beq dest
  | 0b0001 => .bne dest
  | 0b0010 => .bcs dest
  | 0b0011 => .bcc dest
  | 0b0100 => .bhi dest
  | 0b0101 => .bls dest
  | 0b0110 => .bgt dest
  | 0b0111 => .ble dest
  | 0b1000 => .bfs dest
  | 0b1001 => .bfc dest
  | 0b1010 => .blo dest
  | 0b1011 => .bhs dest
  | 0b1100 => .blt dest
  | 0b1101 => .bge dest
  | 0b1110 => .br dest
  | _ => .bcond1111 dest

/-- Format 1 (R127), by its op field. -/
def parseF1 (op : BitVec 4) : Parse Instr :=
  match op with
  | 0b0000 => .bsr <$> parseDisp
  | 0b0001 => .ret <$> parseDisp
  | 0b0010 => .cxp <$> parseDisp
  | 0b0011 => .rxp <$> parseDisp
  | 0b0100 => .rett <$> parseDisp
  | 0b0101 => pure .reti
  | 0b0110 => .save <$> nextByte
  | 0b0111 => .restore <$> nextByte
  | 0b1000 => .enter <$> nextByte <*> parseDisp
  | 0b1001 => .exit <$> nextByte
  | 0b1010 => pure .nop
  | 0b1011 => pure .wait
  | 0b1100 => pure .dia
  | 0b1101 => pure .flag
  | 0b1110 => pure .svc
  | _ => pure .bpt

/-- Scondi (R271), by its condition code (R174). -/
def scond (l : Len) (cond : BitVec 4) : Gen → Instr :=
  match cond with
  | 0b0000 => l.sel .seqb .seqw .seqd
  | 0b0001 => l.sel .sneb .snew .sned
  | 0b0010 => l.sel .scsb .scsw .scsd
  | 0b0011 => l.sel .sccb .sccw .sccd
  | 0b0100 => l.sel .shib .shiw .shid
  | 0b0101 => l.sel .slsb .slsw .slsd
  | 0b0110 => l.sel .sgtb .sgtw .sgtd
  | 0b0111 => l.sel .sleb .slew .sled
  | 0b1000 => l.sel .sfsb .sfsw .sfsd
  | 0b1001 => l.sel .sfcb .sfcw .sfcd
  | 0b1010 => l.sel .slob .slow .slod
  | 0b1011 => l.sel .shsb .shsw .shsd
  | 0b1100 => l.sel .sltb .sltw .sltd
  | 0b1101 => l.sel .sgeb .sgew .sged
  | 0b1110 => l.sel .srb .srw .srd
  | _ => l.sel .s1111b .s1111w .s1111d

/-- Format 2 (R128). -/
def parseF2 (w : Word) : Parse Instr := do
  let l := lenOf (w.extractLsb' 0 2)
  let short := w.extractLsb' 7 4
  let g ← parseOne l.bytes (w.extractLsb' 11 5)
  match w.extractLsb' 4 3 with
  | 0b000 => return l.sel (.addqb short g) (.addqw short g) (.addqd short g)
  | 0b001 => return l.sel (.cmpqb short g) (.cmpqw short g) (.cmpqd short g)
  | 0b010 => return l.sel (.sprb short g) (.sprw short g) (.sprd short g)
  | 0b011 => return scond l short g
  | 0b100 => l.sel (.acbb short g) (.acbw short g) (.acbd short g) <$> parseDisp
  | 0b101 => return l.sel (.movqb short g) (.movqw short g) (.movqd short g)
  | _ => return l.sel (.lprb short g) (.lprw short g) (.lprd short g)

/-- Format 3 (R129), with the encodings of R190 that are assigned to no instruction. -/
noncomputable def parseF3 (w : Word) : Parse Instr :=
  let l := lenOf (w.extractLsb' 0 2)
  let code := w.extractLsb' 11 5
  match w.extractLsb' 7 4 with
  | 0b0000 => l.sel (pure (.undCXPDIB w)) (pure (.undCXPDIW w)) (.cxpd <$> parseOne 0 code)
  | 0b0010 => l.sel (.bicpsrb <$> parseOne 1 code) (.bicpsrw <$> parseOne 2 code) (pure (.undBICPSRD w))
  | 0b0100 => l.sel (pure (.undJUMPIB w)) (pure (.undJUMPIW w)) (.jump <$> parseOne 0 code)
  | 0b0110 => l.sel (.bispsrb <$> parseOne 1 code) (.bispsrw <$> parseOne 2 code) (pure (.undBISPSRD w))
  | 0b1000 => pure (l.sel (.undF3Op1000B w) (.undF3Op1000W w) (.undF3Op1000D w))
  | 0b1010 => l.sel .adjspb .adjspw .adjspd <$> parseOne l.bytes code
  | 0b1100 => l.sel (pure (.undJSRIB w)) (pure (.undJSRIW w)) (.jsr <$> parseOne 0 code)
  | 0b1110 => l.sel .caseb .casew .cased <$> parseOne l.bytes code
  | _ => pure (l.sel (.undF3OpOddB w) (.undF3OpOddW w) (.undF3OpOddD w))

/-- ADDR, or LXPD where the first operand is External (R192). -/
def addrOrLxpd (g1 g2 : Gen) : Instr :=
  match g1 with
  | .base (.ext d1 d2) => .lxpd d1 d2 g2
  | _ => .addr g1 g2

/-- Format 4 (R130). -/
noncomputable def parseF4 (w : Word) : Parse Instr :=
  let l := lenOf (w.extractLsb' 0 2)
  let n := l.bytes
  let two (n1 n2 : Nat) (k : Gen → Gen → Instr) := parseTwo n1 n2 (w.extractLsb' 11 5) (w.extractLsb' 6 5) k
  match w.extractLsb' 2 4 with
  | 0b0000 => two n n (l.sel .addb .addw .addd)
  | 0b0001 => two n n (l.sel .cmpb .cmpw .cmpd)
  | 0b0010 => two n n (l.sel .bicb .bicw .bicd)
  | 0b0100 => two n n (l.sel .addcb .addcw .addcd)
  | 0b0101 => two n n (l.sel .movb .movw .movd)
  | 0b0110 => two n n (l.sel .orb .orw .ord)
  | 0b1000 => two n n (l.sel .subb .subw .subd)
  | 0b1001 => l.sel (pure (.undADDRIB w)) (pure (.undADDRIW w)) (two 0 4 addrOrLxpd)
  | 0b1010 => two n n (l.sel .andb .andw .andd)
  | 0b1100 => two n n (l.sel .subcb .subcw .subcd)
  | 0b1101 => two n 0 (l.sel .tbitb .tbitw .tbitd)
  | _ => two n n (l.sel .xorb .xorw .xord)

/-- The option field of a string instruction without its T bit (R170). -/
def strOptsOf (c : BitVec 3) : StrOpts :=
  { matching := match c.extractLsb' 1 2 with
      | 0b00 => .neither
      | 0b01 => .whileMatch
      | 0b10 => .reserved
      | _ => .untilMatch
    backward := c.extractLsb' 0 1 = 1 }

/-- Format 5 (R131), with the rows of R190 in the order of the opcode table. -/
noncomputable def parseF5 (w : BitVec 24) : Instr :=
  let i := w.extractLsb' 8 2
  let l := lenOf i
  let unused : BitVec 6 := w.extractLsb' 19 5 ++ w.extractLsb' 14 1
  let opts := strOptsOf (w.extractLsb' 16 3)
  let string (b w' d t : StrOpts → BitVec 6 → Instr) : Instr :=
    if w.extractLsb' 15 1 = 1 then (if i = 0b00 then t opts unused else .faultF5TI w)
    else if i = 0b10 then .faultF5I10 w
    else l.sel b w' d opts unused
  if w.extractLsb' 13 1 = 1 then .undF5Op1xxx w
  else if w.extractLsb' 12 1 = 1 then .undF5OpX1xx w
  else match w.extractLsb' 10 2 with
    | 0b00 => string .movsb .movsw .movsd .movst
    | 0b01 => string .cmpsb .cmpsw .cmpsd .cmpst
    | 0b10 => if i = 0b11 then .setcfg (w.extractLsb' 15 4) unused else .undSETCFGI w
    | _ => string .skpsb .skpsw .skpsd .skpst

/-- Format 6 (R132). -/
noncomputable def parseF6 (w : BitVec 24) : Parse Instr :=
  let i := w.extractLsb' 8 2
  let l := lenOf i
  let n := l.bytes
  let two (n1 n2 : Nat) (k : Gen → Gen → Instr) : Parse Instr :=
    if i = 0b10 then pure (.faultF6I10 w) else parseTwo n1 n2 (w.extractLsb' 19 5) (w.extractLsb' 14 5) k
  match w.extractLsb' 10 4 with
  | 0b0000 => two 1 n (l.sel .rotb .rotw .rotd)
  | 0b0001 => two 1 n (l.sel .ashb .ashw .ashd)
  | 0b0010 => two n 0 (l.sel .cbitb .cbitw .cbitd)
  | 0b0011 => two n 0 (l.sel .cbitib .cbitiw .cbitid)
  | 0b0100 => pure (.undF6Op0100 w)
  | 0b0101 => two 1 n (l.sel .lshb .lshw .lshd)
  | 0b0110 => two n 0 (l.sel .sbitb .sbitw .sbitd)
  | 0b0111 => two n 0 (l.sel .sbitib .sbitiw .sbitid)
  | 0b1000 => two n n (l.sel .negb .negw .negd)
  | 0b1001 => two n n (l.sel .notb .notw .notd)
  | 0b1010 => pure (.undF6Op1010 w)
  | 0b1011 => two n n (l.sel .subpb .subpw .subpd)
  | 0b1100 => two n n (l.sel .absb .absw .absd)
  | 0b1101 => two n n (l.sel .comb .comw .comd)
  | 0b1110 => two n 0 (l.sel .ibitb .ibitw .ibitd)
  | _ => two n n (l.sel .addpb .addpw .addpd)

/-- The instruction of an INSS or EXTS with its immediate byte (R173). -/
def withImmByte (k : Gen → Gen → BitVec 3 → BitVec 5 → Instr) (n1 n2 : Nat) (c1 c2 : BitVec 5) : Parse Instr := do
  let x1 ← parseIndex c1
  let x2 ← parseIndex c2
  let g1 ← parseGen n1 c1 x1
  let g2 ← parseGen n2 c2 x2
  let b ← nextByte
  return k g1 g2 (b.extractLsb' 5 3) (b.extractLsb' 0 5)

/-- Format 7 (R133). -/
noncomputable def parseF7 (w : BitVec 24) : Parse Instr :=
  let i := w.extractLsb' 8 2
  let l := lenOf i
  let n := l.bytes
  let c1 := w.extractLsb' 19 5
  let c2 := w.extractLsb' 14 5
  let len (p : Parse Instr) : Parse Instr := if i = 0b10 then pure (.faultF7I10 w) else p
  let two (n1 n2 : Nat) (k : Gen → Gen → Instr) : Parse Instr := parseTwo n1 n2 c1 c2 k
  match w.extractLsb' 10 4 with
  | 0b0000 => len (parseTwoDisp 0 0 c1 c2 (l.sel .movmb .movmw .movmd))
  | 0b0001 => len (parseTwoDisp 0 0 c1 c2 (l.sel .cmpmb .cmpmw .cmpmd))
  | 0b0010 => len (withImmByte (l.sel .inssb .inssw .inssd) n 0 c1 c2)
  | 0b0011 => len (withImmByte (l.sel .extsb .extsw .extsd) 0 n c1 c2)
  | 0b0100 => if i = 0b00 then two 1 2 .movxbw else pure (.undMOVXBWI w)
  | 0b0101 => if i = 0b00 then two 1 2 .movzbw else pure (.undMOVZBWI w)
  | 0b0110 => if i = 0b11 then pure (.undMOVZiDD w) else len (two n 4 (l.sel .movzbd .movzwd .movzwd))
  | 0b0111 => if i = 0b11 then pure (.undMOVXiDD w) else len (two n 4 (l.sel .movxbd .movxwd .movxwd))
  | 0b1000 => len (two n n (l.sel .mulb .mulw .muld))
  | 0b1001 => len (two n (2 * n) (l.sel .meib .meiw .meid))
  | 0b1010 => pure (.undF7Op1010 w)
  | 0b1011 => len (two n (2 * n) (l.sel .deib .deiw .deid))
  | 0b1100 => len (two n n (l.sel .quob .quow .quod))
  | 0b1101 => len (two n n (l.sel .remb .remw .remd))
  | 0b1110 => len (two n n (l.sel .modb .modw .modd))
  | _ => len (two n n (l.sel .divb .divw .divd))

/-- Format 8 (R134): the opcode is bit 10 followed by bits 7..6. -/
noncomputable def parseF8 (w : BitVec 24) : Parse Instr :=
  let i := w.extractLsb' 8 2
  let l := lenOf i
  let n := l.bytes
  let c1 := w.extractLsb' 19 5
  let c2 := w.extractLsb' 14 5
  let field := w.extractLsb' 11 3
  let reg := regOf field
  let len (p : Parse Instr) : Parse Instr := if i = 0b10 then pure (.faultF8I10 w) else p
  match w.extractLsb' 10 1 ++ w.extractLsb' 6 2 with
  | 0b000#(1 + 2) => len (parseTwoDisp 0 n c1 c2 (l.sel (.extb reg) (.extw reg) (.extd reg)))
  | 0b001#(1 + 2) => if i = 0b11 then parseTwo 0 4 c1 c2 (.cvtp reg) else pure (.undCVTPI w)
  | 0b010#(1 + 2) => len (parseTwoDisp n 0 c1 c2 (l.sel (.insb reg) (.insw reg) (.insd reg)))
  | 0b011#(1 + 2) => len (parseTwo 0 n c1 c2 (l.sel (.checkb reg) (.checkw reg) (.checkd reg)))
  | 0b100#(1 + 2) => len (parseTwo n n c1 c2 (l.sel (.indexb reg) (.indexw reg) (.indexd reg)))
  | 0b101#(1 + 2) =>
    len (parseTwo n 1 c1 c2 fun a b => l.sel (.ffsb a b field) (.ffsw a b field) (.ffsd a b field))
  | 0b110#(1 + 2) =>
    match field with
    | 0b000 => pure (.undF8Op110Reg000 w)
    | 0b001 => len (parseTwo 0 0 c1 c2 (l.sel .movsub .movsuw .movsud))
    | 0b010 => pure (.undF8Op110Reg010 w)
    | 0b011 => len (parseTwo 0 0 c1 c2 (l.sel .movusb .movusw .movusd))
    | 0b100 => pure (.undF8Op110Reg100 w)
    | 0b101 => pure (.undF8Op110Reg101 w)
    | 0b110 => pure (.undF8Op110Reg110 w)
    | _ => pure (.undF8Op110Reg111 w)
  | _ => pure (.undF8Op111 w)

/-- Format 9 (R135). -/
noncomputable def parseF9 (w : BitVec 24) : Parse Instr :=
  let i := w.extractLsb' 8 2
  let l := lenOf i
  let n := l.bytes
  let x := flenOf (w.extractLsb' 10 1)
  let k := x.bytes
  let c1 := w.extractLsb' 19 5
  let c2 := w.extractLsb' 14 5
  let fi := w.extractLsb' 8 3
  let two (n1 n2 : Nat) (k : Gen → Gen → Instr) : Parse Instr :=
    if i = 0b10 then pure (.faultF9I10 w) else parseTwo n1 n2 c1 c2 k
  match w.extractLsb' 11 3 with
  | 0b000 => two n k (x.sel (l.sel .movbf .movwf .movdf) (l.sel .movbl .movwl .movdl))
  | 0b001 => if fi = 0b111 then (fun g => .lfsr g c2) <$> parseOne 4 c1 else pure (.undLFSRFi w)
  | 0b010 => if fi = 0b110 then parseTwo 8 4 c1 c2 .movlf else pure (.undMOVLFFi w)
  | 0b011 => if fi = 0b011 then parseTwo 4 8 c1 c2 .movfl else pure (.undMOVFLFi w)
  | 0b100 => two k n (x.sel (l.sel .roundfb .roundfw .roundfd) (l.sel .roundlb .roundlw .roundld))
  | 0b101 => two k n (x.sel (l.sel .truncfb .truncfw .truncfd) (l.sel .trunclb .trunclw .truncld))
  | 0b110 => if fi = 0b111 then (fun g => .sfsr g c1) <$> parseOne 4 c2 else pure (.undSFSRFi w)
  | _ => two k n (x.sel (l.sel .floorfb .floorfw .floorfd) (l.sel .floorlb .floorlw .floorld))

/-- Format 11 (R136); the Illegal Instruction forms leave bits 9 and 8 open (R122). -/
noncomputable def parseF11 (w : BitVec 24) : Parse Instr :=
  let x := flenOf (w.extractLsb' 8 1)
  let k := x.bytes
  let two (f l : Gen → Gen → Instr) : Parse Instr :=
    if w.extractLsb' 9 1 = 1 then pure (.undF11Bit9 w)
    else parseTwo k k (w.extractLsb' 19 5) (w.extractLsb' 14 5) (x.sel f l)
  match w.extractLsb' 10 4 with
  | 0b0000 => two .addf .addl
  | 0b0001 => two .movf .movl
  | 0b0010 => two .cmpf .cmpl
  | 0b0011 => pure (.fpuILLEGAL0011 w)
  | 0b0100 => two .subf .subl
  | 0b0101 => two .negf .negl
  | 0b1000 => two .divf .divl
  | 0b1001 => pure (.fpuILLEGAL1001 w)
  | 0b1100 => two .mulf .mull
  | 0b1101 => two .absf .absl
  | 0b0110 | 0b0111 => pure (.undF11Op011x w)
  | 0b1010 | 0b1011 => pure (.undF11Op101x w)
  | _ => pure (.undF11Op111x w)

/-- Format 14 (R137), with the rows of R190 in the order of the opcode table. -/
noncomputable def parseF14 (w : BitVec 24) : Parse Instr :=
  let short := w.extractLsb' 15 4
  let low := w.extractLsb' 14 1
  let code := w.extractLsb' 19 5
  if w.extractLsb' 13 1 = 1 then pure (.undF14Op1xxx w)
  else if w.extractLsb' 12 1 = 1 then pure (.undF14OpX1xx w)
  else if w.extractLsb' 8 2 = 0b11 then
    match w.extractLsb' 10 2 with
    | 0b00 => (fun g => .rdval g (short ++ low)) <$> parseOne 0 code
    | 0b01 => (fun g => .wrval g (short ++ low)) <$> parseOne 0 code
    | 0b10 => (fun g => .lmr short g low) <$> parseOne 4 code
    | _ => (fun g => .smr short g low) <$> parseOne 4 code
  else pure (.undF14I w)

/-- The two further bytes of a three-byte Basic Instruction (R121). -/
def basic24 (b0 : Byte) : Parse (BitVec 24) := do
  let b1 ← nextByte
  let b2 ← nextByte
  return b2 ++ b1 ++ b0

/-- First bytes ending in 1110 (R124, R138). -/
noncomputable def parse1110 (b0 : Byte) : Parse Instr :=
  match b0.extractLsb' 4 4 with
  | 0x0 => parseF5 <$> basic24 b0
  | 0x1 => basic24 b0 >>= parseF14
  | 0x3 => basic24 b0 >>= parseF9
  | 0x4 => basic24 b0 >>= parseF6
  | 0x5 => pure .und5E
  | 0x7 => pure .und7E
  | 0x8 => pure .und8E
  | 0x9 => pure .und9E
  | 0xB => basic24 b0 >>= parseF11
  | 0xC => basic24 b0 >>= parseF7
  | 0xD => pure .undDE
  | 0xF => pure .undFE
  | _ => basic24 b0 >>= parseF8

/-- An instruction from the stream (R124). -/
noncomputable def parseInstr : Parse Instr := do
  let b0 ← nextByte
  if b0.extractLsb' 0 2 = 0b10 then
    match b0.extractLsb' 2 2 with
    | 0b10 => parseF0 (b0.extractLsb' 4 4)
    | 0b00 => parseF1 (b0.extractLsb' 4 4)
    | 0b01 =>
      match b0.extractLsb' 4 4 with
      | 0x1 => return .custom16
      | 0x3 => return .custom36
      | 0xB => return .customB6
      | _ => return .undX6Other b0
    | _ => parse1110 b0
  else do
    let b1 ← nextByte
    let w : Word := b1 ++ b0
    if b0.extractLsb' 2 2 = 0b11 then
      if b0.extractLsb' 4 3 = 0b111 then parseF3 w else parseF2 w
    else parseF4 w

/-- The instruction at the head of some bytes, and the bytes after it. -/
noncomputable def decode (bs : List Byte) : Except DecodeError (Instr × List Byte) := parseInstr.run bs

/-! ### The encoder -/

/-- A displacement field (R164). -/
def Disp.encode : Disp → List Byte
  | .d1 v => [0#1 ++ v]
  | .d2 v => [0b10#2 ++ v.extractLsb' 8 6, v.extractLsb' 0 8]
  | .d4 v => [0b11#2 ++ v.extractLsb' 24 6, v.extractLsb' 16 8, v.extractLsb' 8 8, v.extractLsb' 0 8]

/-- The low `n` bytes of a value, most significant first (R86). -/
def immBytes (n : Nat) (v : QWord) : List Byte :=
  match n with
  | 0 => []
  | n + 1 => v.extractLsb' (8 * n) 8 :: immBytes n v

/-- The gen code of a base mode (R178). -/
def Base.code : Base → BitVec 5
  | .reg r => 0b00#2 ++ regCode r
  | .regRel r _ => 0b01#2 ++ regCode r
  | .frameRel _ _ => 0b10000
  | .stackRel _ _ => 0b10001
  | .staticRel _ _ => 0b10010
  | .illegal c => c
  | .abs _ => 0b10101
  | .ext _ _ => 0b10110
  | .tos => 0b10111
  | .frame _ => 0b11000
  | .stack _ => 0b11001
  | .static _ => 0b11010
  | .program _ => 0b11011

/-- The displacements of a base mode (R178). -/
def Base.extension : Base → List Byte
  | .reg _ | .tos | .illegal _ => []
  | .regRel _ d | .abs d | .frame d | .stack d | .static d | .program d => d.encode
  | .frameRel d1 d2 | .stackRel d1 d2 | .staticRel d1 d2 | .ext d1 d2 => d1.encode ++ d2.encode

/-- The code of a scale (R178). -/
def Scale.code : Scale → BitVec 2
  | .b => 0b00
  | .w => 0b01
  | .d => 0b10
  | .q => 0b11

/-- The gen field of an operand (R178). -/
def Gen.code : Gen → BitVec 5
  | .base m => m.code
  | .imm _ => 0b10100
  | .scaled sc _ _ => 0b111#3 ++ sc.code

/-- The index byte of an operand (R188). -/
def Gen.indexByte : Gen → List Byte
  | .scaled _ idx m => [m.code ++ regCode idx]
  | _ => []

/-- The extension of an operand of `n` bytes after the index bytes (R189). -/
def Gen.extension (n : Nat) : Gen → List Byte
  | .base m => m.extension
  | .imm v => immBytes n v
  | .scaled _ _ m => m.extension

/-- The option field of a string instruction without its T bit (R170). -/
def StrOpts.code (o : StrOpts) : BitVec 3 :=
  (match o.matching with
    | .neither => 0b00#2
    | .whileMatch => 0b01#2
    | .reserved => 0b10#2
    | .untilMatch => 0b11#2) ++ BitVec.ofBool o.backward

/-- A two-byte Basic Instruction, little-endian (R121). -/
def le16 (w : Word) : List Byte := [w.extractLsb' 0 8, w.extractLsb' 8 8]

/-- A three-byte Basic Instruction, little-endian (R121). -/
def le24 (w : BitVec 24) : List Byte := [w.extractLsb' 0 8, w.extractLsb' 8 8, w.extractLsb' 16 8]

/-- Format 0 (R126). -/
def f0 (cond : BitVec 4) : Byte := cond ++ 0b1010#4

/-- Format 1 (R127). -/
def f1 (op : BitVec 4) : Byte := op ++ 0b0010#4

/-- Format 2 (R128). -/
def f2 (op : BitVec 3) (l : Len) (short : BitVec 4) (g : Gen) : List Byte :=
  le16 (g.code ++ short ++ op ++ 0b11#2 ++ l.code)

/-- Format 3 (R129). -/
def f3 (op : BitVec 4) (l : Len) (g : Gen) : List Byte := le16 (g.code ++ op ++ 0b11111#5 ++ l.code)

/-- Format 4 (R130). -/
def f4 (op : BitVec 4) (l : Len) (g1 g2 : Gen) : List Byte := le16 (g1.code ++ g2.code ++ op ++ l.code)

/-- Format 5 (R131): the unused field is bits 23..19 followed by bit 14. -/
def f5 (op : BitVec 4) (l : Len) (short : BitVec 4) (unused : BitVec 6) : List Byte :=
  le24 (unused.extractLsb' 1 5 ++ short ++ unused.extractLsb' 0 1 ++ op ++ l.code ++ 0x0E#8)

/-- Formats 6 and 7 (R132, R133), by the first byte. -/
def f67 (first : Byte) (op : BitVec 4) (l : Len) (g1 g2 : Gen) : List Byte :=
  le24 (g1.code ++ g2.code ++ op ++ l.code ++ first)

/-- Format 8 (R134). -/
def f8 (op : BitVec 3) (l : Len) (reg : BitVec 3) (g1 g2 : Gen) : List Byte :=
  le24 (g1.code ++ g2.code ++ reg ++ op.extractLsb' 2 1 ++ l.code ++ op.extractLsb' 0 2 ++ 0b101110#6)

/-- Format 9 (R135). -/
def f9 (op : BitVec 3) (x : FLen) (i : BitVec 2) (c1 c2 : BitVec 5) : List Byte :=
  le24 (c1 ++ c2 ++ op ++ x.code ++ i ++ 0x3E#8)

/-- Format 11 (R136). -/
def f11 (op : BitVec 4) (x : FLen) (g1 g2 : Gen) : List Byte :=
  le24 (g1.code ++ g2.code ++ op ++ 0#1 ++ x.code ++ 0xBE#8)

/-- Format 14 (R137). -/
def f14 (op : BitVec 4) (short : BitVec 4) (unused : BitVec 1) (g : Gen) : List Byte :=
  le24 (g.code ++ short ++ unused ++ op ++ 0b11#2 ++ 0x1E#8)

/-- The Basic Instruction (R121, R126 to R138). -/
def Instr.basic : Instr → List Byte
  | .beq _ => [f0 0x0]
  | .bne _ => [f0 0x1]
  | .bcs _ => [f0 0x2]
  | .bcc _ => [f0 0x3]
  | .bhi _ => [f0 0x4]
  | .bls _ => [f0 0x5]
  | .bgt _ => [f0 0x6]
  | .ble _ => [f0 0x7]
  | .bfs _ => [f0 0x8]
  | .bfc _ => [f0 0x9]
  | .blo _ => [f0 0xA]
  | .bhs _ => [f0 0xB]
  | .blt _ => [f0 0xC]
  | .bge _ => [f0 0xD]
  | .br _ => [f0 0xE]
  | .bcond1111 _ => [f0 0xF]
  | .bsr _ => [f1 0x0]
  | .ret _ => [f1 0x1]
  | .cxp _ => [f1 0x2]
  | .rxp _ => [f1 0x3]
  | .rett _ => [f1 0x4]
  | .reti => [f1 0x5]
  | .save _ => [f1 0x6]
  | .restore _ => [f1 0x7]
  | .enter _ _ => [f1 0x8]
  | .exit _ => [f1 0x9]
  | .nop => [f1 0xA]
  | .wait => [f1 0xB]
  | .dia => [f1 0xC]
  | .flag => [f1 0xD]
  | .svc => [f1 0xE]
  | .bpt => [f1 0xF]
  | .addqb quick gen => f2 0 .b quick gen
  | .addqw quick gen => f2 0 .w quick gen
  | .addqd quick gen => f2 0 .d quick gen
  | .cmpqb quick gen => f2 1 .b quick gen
  | .cmpqw quick gen => f2 1 .w quick gen
  | .cmpqd quick gen => f2 1 .d quick gen
  | .movqb quick gen => f2 5 .b quick gen
  | .movqw quick gen => f2 5 .w quick gen
  | .movqd quick gen => f2 5 .d quick gen
  | .acbb quick gen _ => f2 4 .b quick gen
  | .acbw quick gen _ => f2 4 .w quick gen
  | .acbd quick gen _ => f2 4 .d quick gen
  | .sprb procreg gen => f2 2 .b procreg gen
  | .sprw procreg gen => f2 2 .w procreg gen
  | .sprd procreg gen => f2 2 .d procreg gen
  | .lprb procreg gen => f2 6 .b procreg gen
  | .lprw procreg gen => f2 6 .w procreg gen
  | .lprd procreg gen => f2 6 .d procreg gen
  | .seqb dest => f2 3 .b 0x0 dest
  | .sneb dest => f2 3 .b 0x1 dest
  | .scsb dest => f2 3 .b 0x2 dest
  | .sccb dest => f2 3 .b 0x3 dest
  | .shib dest => f2 3 .b 0x4 dest
  | .slsb dest => f2 3 .b 0x5 dest
  | .sgtb dest => f2 3 .b 0x6 dest
  | .sleb dest => f2 3 .b 0x7 dest
  | .sfsb dest => f2 3 .b 0x8 dest
  | .sfcb dest => f2 3 .b 0x9 dest
  | .slob dest => f2 3 .b 0xA dest
  | .shsb dest => f2 3 .b 0xB dest
  | .sltb dest => f2 3 .b 0xC dest
  | .sgeb dest => f2 3 .b 0xD dest
  | .srb dest => f2 3 .b 0xE dest
  | .s1111b dest => f2 3 .b 0xF dest
  | .seqw dest => f2 3 .w 0x0 dest
  | .snew dest => f2 3 .w 0x1 dest
  | .scsw dest => f2 3 .w 0x2 dest
  | .sccw dest => f2 3 .w 0x3 dest
  | .shiw dest => f2 3 .w 0x4 dest
  | .slsw dest => f2 3 .w 0x5 dest
  | .sgtw dest => f2 3 .w 0x6 dest
  | .slew dest => f2 3 .w 0x7 dest
  | .sfsw dest => f2 3 .w 0x8 dest
  | .sfcw dest => f2 3 .w 0x9 dest
  | .slow dest => f2 3 .w 0xA dest
  | .shsw dest => f2 3 .w 0xB dest
  | .sltw dest => f2 3 .w 0xC dest
  | .sgew dest => f2 3 .w 0xD dest
  | .srw dest => f2 3 .w 0xE dest
  | .s1111w dest => f2 3 .w 0xF dest
  | .seqd dest => f2 3 .d 0x0 dest
  | .sned dest => f2 3 .d 0x1 dest
  | .scsd dest => f2 3 .d 0x2 dest
  | .sccd dest => f2 3 .d 0x3 dest
  | .shid dest => f2 3 .d 0x4 dest
  | .slsd dest => f2 3 .d 0x5 dest
  | .sgtd dest => f2 3 .d 0x6 dest
  | .sled dest => f2 3 .d 0x7 dest
  | .sfsd dest => f2 3 .d 0x8 dest
  | .sfcd dest => f2 3 .d 0x9 dest
  | .slod dest => f2 3 .d 0xA dest
  | .shsd dest => f2 3 .d 0xB dest
  | .sltd dest => f2 3 .d 0xC dest
  | .sged dest => f2 3 .d 0xD dest
  | .srd dest => f2 3 .d 0xE dest
  | .s1111d dest => f2 3 .d 0xF dest
  | .cxpd gen => f3 0x0 .d gen
  | .jump gen => f3 0x4 .d gen
  | .jsr gen => f3 0xC .d gen
  | .bicpsrb gen => f3 0x2 .b gen
  | .bicpsrw gen => f3 0x2 .w gen
  | .bispsrb gen => f3 0x6 .b gen
  | .bispsrw gen => f3 0x6 .w gen
  | .adjspb gen => f3 0xA .b gen
  | .adjspw gen => f3 0xA .w gen
  | .adjspd gen => f3 0xA .d gen
  | .caseb gen => f3 0xE .b gen
  | .casew gen => f3 0xE .w gen
  | .cased gen => f3 0xE .d gen
  | .addb gen1 gen2 => f4 0x0 .b gen1 gen2
  | .addw gen1 gen2 => f4 0x0 .w gen1 gen2
  | .addd gen1 gen2 => f4 0x0 .d gen1 gen2
  | .cmpb gen1 gen2 => f4 0x1 .b gen1 gen2
  | .cmpw gen1 gen2 => f4 0x1 .w gen1 gen2
  | .cmpd gen1 gen2 => f4 0x1 .d gen1 gen2
  | .bicb gen1 gen2 => f4 0x2 .b gen1 gen2
  | .bicw gen1 gen2 => f4 0x2 .w gen1 gen2
  | .bicd gen1 gen2 => f4 0x2 .d gen1 gen2
  | .addcb gen1 gen2 => f4 0x4 .b gen1 gen2
  | .addcw gen1 gen2 => f4 0x4 .w gen1 gen2
  | .addcd gen1 gen2 => f4 0x4 .d gen1 gen2
  | .movb gen1 gen2 => f4 0x5 .b gen1 gen2
  | .movw gen1 gen2 => f4 0x5 .w gen1 gen2
  | .movd gen1 gen2 => f4 0x5 .d gen1 gen2
  | .orb gen1 gen2 => f4 0x6 .b gen1 gen2
  | .orw gen1 gen2 => f4 0x6 .w gen1 gen2
  | .ord gen1 gen2 => f4 0x6 .d gen1 gen2
  | .subb gen1 gen2 => f4 0x8 .b gen1 gen2
  | .subw gen1 gen2 => f4 0x8 .w gen1 gen2
  | .subd gen1 gen2 => f4 0x8 .d gen1 gen2
  | .andb gen1 gen2 => f4 0xA .b gen1 gen2
  | .andw gen1 gen2 => f4 0xA .w gen1 gen2
  | .andd gen1 gen2 => f4 0xA .d gen1 gen2
  | .subcb gen1 gen2 => f4 0xC .b gen1 gen2
  | .subcw gen1 gen2 => f4 0xC .w gen1 gen2
  | .subcd gen1 gen2 => f4 0xC .d gen1 gen2
  | .tbitb gen1 gen2 => f4 0xD .b gen1 gen2
  | .tbitw gen1 gen2 => f4 0xD .w gen1 gen2
  | .tbitd gen1 gen2 => f4 0xD .d gen1 gen2
  | .xorb gen1 gen2 => f4 0xE .b gen1 gen2
  | .xorw gen1 gen2 => f4 0xE .w gen1 gen2
  | .xord gen1 gen2 => f4 0xE .d gen1 gen2
  | .addr gen1 gen2 => f4 9 .d gen1 gen2
  | .lxpd disp1 disp2 dest => f4 9 .d (.base (.ext disp1 disp2)) dest
  | .movsb opts unused => f5 0x0 .b (opts.code ++ 0#1) unused
  | .movsw opts unused => f5 0x0 .w (opts.code ++ 0#1) unused
  | .movsd opts unused => f5 0x0 .d (opts.code ++ 0#1) unused
  | .movst opts unused => f5 0x0 .b (opts.code ++ 1#1) unused
  | .cmpsb opts unused => f5 0x1 .b (opts.code ++ 0#1) unused
  | .cmpsw opts unused => f5 0x1 .w (opts.code ++ 0#1) unused
  | .cmpsd opts unused => f5 0x1 .d (opts.code ++ 0#1) unused
  | .cmpst opts unused => f5 0x1 .b (opts.code ++ 1#1) unused
  | .skpsb opts unused => f5 0x3 .b (opts.code ++ 0#1) unused
  | .skpsw opts unused => f5 0x3 .w (opts.code ++ 0#1) unused
  | .skpsd opts unused => f5 0x3 .d (opts.code ++ 0#1) unused
  | .skpst opts unused => f5 0x3 .b (opts.code ++ 1#1) unused
  | .setcfg cfglist unused => f5 2 .d cfglist unused
  | .rotb gen1 gen2 => f67 0x4E 0x0 .b gen1 gen2
  | .rotw gen1 gen2 => f67 0x4E 0x0 .w gen1 gen2
  | .rotd gen1 gen2 => f67 0x4E 0x0 .d gen1 gen2
  | .ashb gen1 gen2 => f67 0x4E 0x1 .b gen1 gen2
  | .ashw gen1 gen2 => f67 0x4E 0x1 .w gen1 gen2
  | .ashd gen1 gen2 => f67 0x4E 0x1 .d gen1 gen2
  | .cbitb gen1 gen2 => f67 0x4E 0x2 .b gen1 gen2
  | .cbitw gen1 gen2 => f67 0x4E 0x2 .w gen1 gen2
  | .cbitd gen1 gen2 => f67 0x4E 0x2 .d gen1 gen2
  | .cbitib gen1 gen2 => f67 0x4E 0x3 .b gen1 gen2
  | .cbitiw gen1 gen2 => f67 0x4E 0x3 .w gen1 gen2
  | .cbitid gen1 gen2 => f67 0x4E 0x3 .d gen1 gen2
  | .lshb gen1 gen2 => f67 0x4E 0x5 .b gen1 gen2
  | .lshw gen1 gen2 => f67 0x4E 0x5 .w gen1 gen2
  | .lshd gen1 gen2 => f67 0x4E 0x5 .d gen1 gen2
  | .sbitb gen1 gen2 => f67 0x4E 0x6 .b gen1 gen2
  | .sbitw gen1 gen2 => f67 0x4E 0x6 .w gen1 gen2
  | .sbitd gen1 gen2 => f67 0x4E 0x6 .d gen1 gen2
  | .sbitib gen1 gen2 => f67 0x4E 0x7 .b gen1 gen2
  | .sbitiw gen1 gen2 => f67 0x4E 0x7 .w gen1 gen2
  | .sbitid gen1 gen2 => f67 0x4E 0x7 .d gen1 gen2
  | .negb gen1 gen2 => f67 0x4E 0x8 .b gen1 gen2
  | .negw gen1 gen2 => f67 0x4E 0x8 .w gen1 gen2
  | .negd gen1 gen2 => f67 0x4E 0x8 .d gen1 gen2
  | .notb gen1 gen2 => f67 0x4E 0x9 .b gen1 gen2
  | .notw gen1 gen2 => f67 0x4E 0x9 .w gen1 gen2
  | .notd gen1 gen2 => f67 0x4E 0x9 .d gen1 gen2
  | .subpb gen1 gen2 => f67 0x4E 0xB .b gen1 gen2
  | .subpw gen1 gen2 => f67 0x4E 0xB .w gen1 gen2
  | .subpd gen1 gen2 => f67 0x4E 0xB .d gen1 gen2
  | .absb gen1 gen2 => f67 0x4E 0xC .b gen1 gen2
  | .absw gen1 gen2 => f67 0x4E 0xC .w gen1 gen2
  | .absd gen1 gen2 => f67 0x4E 0xC .d gen1 gen2
  | .comb gen1 gen2 => f67 0x4E 0xD .b gen1 gen2
  | .comw gen1 gen2 => f67 0x4E 0xD .w gen1 gen2
  | .comd gen1 gen2 => f67 0x4E 0xD .d gen1 gen2
  | .ibitb gen1 gen2 => f67 0x4E 0xE .b gen1 gen2
  | .ibitw gen1 gen2 => f67 0x4E 0xE .w gen1 gen2
  | .ibitd gen1 gen2 => f67 0x4E 0xE .d gen1 gen2
  | .addpb gen1 gen2 => f67 0x4E 0xF .b gen1 gen2
  | .addpw gen1 gen2 => f67 0x4E 0xF .w gen1 gen2
  | .addpd gen1 gen2 => f67 0x4E 0xF .d gen1 gen2
  | .movmb gen1 gen2 _ => f67 0xCE 0x0 .b gen1 gen2
  | .movmw gen1 gen2 _ => f67 0xCE 0x0 .w gen1 gen2
  | .movmd gen1 gen2 _ => f67 0xCE 0x0 .d gen1 gen2
  | .cmpmb gen1 gen2 _ => f67 0xCE 0x1 .b gen1 gen2
  | .cmpmw gen1 gen2 _ => f67 0xCE 0x1 .w gen1 gen2
  | .cmpmd gen1 gen2 _ => f67 0xCE 0x1 .d gen1 gen2
  | .inssb gen1 gen2 _ _ => f67 0xCE 0x2 .b gen1 gen2
  | .inssw gen1 gen2 _ _ => f67 0xCE 0x2 .w gen1 gen2
  | .inssd gen1 gen2 _ _ => f67 0xCE 0x2 .d gen1 gen2
  | .extsb gen1 gen2 _ _ => f67 0xCE 0x3 .b gen1 gen2
  | .extsw gen1 gen2 _ _ => f67 0xCE 0x3 .w gen1 gen2
  | .extsd gen1 gen2 _ _ => f67 0xCE 0x3 .d gen1 gen2
  | .mulb gen1 gen2 => f67 0xCE 0x8 .b gen1 gen2
  | .mulw gen1 gen2 => f67 0xCE 0x8 .w gen1 gen2
  | .muld gen1 gen2 => f67 0xCE 0x8 .d gen1 gen2
  | .meib gen1 gen2 => f67 0xCE 0x9 .b gen1 gen2
  | .meiw gen1 gen2 => f67 0xCE 0x9 .w gen1 gen2
  | .meid gen1 gen2 => f67 0xCE 0x9 .d gen1 gen2
  | .deib gen1 gen2 => f67 0xCE 0xB .b gen1 gen2
  | .deiw gen1 gen2 => f67 0xCE 0xB .w gen1 gen2
  | .deid gen1 gen2 => f67 0xCE 0xB .d gen1 gen2
  | .quob gen1 gen2 => f67 0xCE 0xC .b gen1 gen2
  | .quow gen1 gen2 => f67 0xCE 0xC .w gen1 gen2
  | .quod gen1 gen2 => f67 0xCE 0xC .d gen1 gen2
  | .remb gen1 gen2 => f67 0xCE 0xD .b gen1 gen2
  | .remw gen1 gen2 => f67 0xCE 0xD .w gen1 gen2
  | .remd gen1 gen2 => f67 0xCE 0xD .d gen1 gen2
  | .modb gen1 gen2 => f67 0xCE 0xE .b gen1 gen2
  | .modw gen1 gen2 => f67 0xCE 0xE .w gen1 gen2
  | .modd gen1 gen2 => f67 0xCE 0xE .d gen1 gen2
  | .divb gen1 gen2 => f67 0xCE 0xF .b gen1 gen2
  | .divw gen1 gen2 => f67 0xCE 0xF .w gen1 gen2
  | .divd gen1 gen2 => f67 0xCE 0xF .d gen1 gen2
  | .movxbw gen1 gen2 => f67 0xCE 4 .b gen1 gen2
  | .movzbw gen1 gen2 => f67 0xCE 5 .b gen1 gen2
  | .movzbd gen1 gen2 => f67 0xCE 6 .b gen1 gen2
  | .movzwd gen1 gen2 => f67 0xCE 6 .w gen1 gen2
  | .movxbd gen1 gen2 => f67 0xCE 7 .b gen1 gen2
  | .movxwd gen1 gen2 => f67 0xCE 7 .w gen1 gen2
  | .extb reg gen1 gen2 _ => f8 0x0 .b (regCode reg) gen1 gen2
  | .extw reg gen1 gen2 _ => f8 0x0 .w (regCode reg) gen1 gen2
  | .extd reg gen1 gen2 _ => f8 0x0 .d (regCode reg) gen1 gen2
  | .insb reg gen1 gen2 _ => f8 0x2 .b (regCode reg) gen1 gen2
  | .insw reg gen1 gen2 _ => f8 0x2 .w (regCode reg) gen1 gen2
  | .insd reg gen1 gen2 _ => f8 0x2 .d (regCode reg) gen1 gen2
  | .checkb reg gen1 gen2 => f8 0x3 .b (regCode reg) gen1 gen2
  | .checkw reg gen1 gen2 => f8 0x3 .w (regCode reg) gen1 gen2
  | .checkd reg gen1 gen2 => f8 0x3 .d (regCode reg) gen1 gen2
  | .indexb reg gen1 gen2 => f8 0x4 .b (regCode reg) gen1 gen2
  | .indexw reg gen1 gen2 => f8 0x4 .w (regCode reg) gen1 gen2
  | .indexd reg gen1 gen2 => f8 0x4 .d (regCode reg) gen1 gen2
  | .cvtp reg gen1 gen2 => f8 1 .d (regCode reg) gen1 gen2
  | .ffsb gen1 gen2 unused => f8 5 .b unused gen1 gen2
  | .ffsw gen1 gen2 unused => f8 5 .w unused gen1 gen2
  | .ffsd gen1 gen2 unused => f8 5 .d unused gen1 gen2
  | .movsub gen1 gen2 => f8 6 .b 1 gen1 gen2
  | .movsuw gen1 gen2 => f8 6 .w 1 gen1 gen2
  | .movsud gen1 gen2 => f8 6 .d 1 gen1 gen2
  | .movusb gen1 gen2 => f8 6 .b 3 gen1 gen2
  | .movusw gen1 gen2 => f8 6 .w 3 gen1 gen2
  | .movusd gen1 gen2 => f8 6 .d 3 gen1 gen2
  | .movbf gen1 gen2 => f9 0 .f (Len.code .b) gen1.code gen2.code
  | .movbl gen1 gen2 => f9 0 .l (Len.code .b) gen1.code gen2.code
  | .movwf gen1 gen2 => f9 0 .f (Len.code .w) gen1.code gen2.code
  | .movwl gen1 gen2 => f9 0 .l (Len.code .w) gen1.code gen2.code
  | .movdf gen1 gen2 => f9 0 .f (Len.code .d) gen1.code gen2.code
  | .movdl gen1 gen2 => f9 0 .l (Len.code .d) gen1.code gen2.code
  | .roundfb gen1 gen2 => f9 4 .f (Len.code .b) gen1.code gen2.code
  | .roundfw gen1 gen2 => f9 4 .f (Len.code .w) gen1.code gen2.code
  | .roundfd gen1 gen2 => f9 4 .f (Len.code .d) gen1.code gen2.code
  | .roundlb gen1 gen2 => f9 4 .l (Len.code .b) gen1.code gen2.code
  | .roundlw gen1 gen2 => f9 4 .l (Len.code .w) gen1.code gen2.code
  | .roundld gen1 gen2 => f9 4 .l (Len.code .d) gen1.code gen2.code
  | .truncfb gen1 gen2 => f9 5 .f (Len.code .b) gen1.code gen2.code
  | .truncfw gen1 gen2 => f9 5 .f (Len.code .w) gen1.code gen2.code
  | .truncfd gen1 gen2 => f9 5 .f (Len.code .d) gen1.code gen2.code
  | .trunclb gen1 gen2 => f9 5 .l (Len.code .b) gen1.code gen2.code
  | .trunclw gen1 gen2 => f9 5 .l (Len.code .w) gen1.code gen2.code
  | .truncld gen1 gen2 => f9 5 .l (Len.code .d) gen1.code gen2.code
  | .floorfb gen1 gen2 => f9 7 .f (Len.code .b) gen1.code gen2.code
  | .floorfw gen1 gen2 => f9 7 .f (Len.code .w) gen1.code gen2.code
  | .floorfd gen1 gen2 => f9 7 .f (Len.code .d) gen1.code gen2.code
  | .floorlb gen1 gen2 => f9 7 .l (Len.code .b) gen1.code gen2.code
  | .floorlw gen1 gen2 => f9 7 .l (Len.code .w) gen1.code gen2.code
  | .floorld gen1 gen2 => f9 7 .l (Len.code .d) gen1.code gen2.code
  | .movlf gen1 gen2 => f9 2 .f 2 gen1.code gen2.code
  | .movfl gen1 gen2 => f9 3 .l 3 gen1.code gen2.code
  | .lfsr gen unused => f9 1 .f 3 gen.code unused
  | .sfsr gen unused => f9 6 .f 3 unused gen.code
  | .addf gen1 gen2 => f11 0x0 .f gen1 gen2
  | .addl gen1 gen2 => f11 0x0 .l gen1 gen2
  | .movf gen1 gen2 => f11 0x1 .f gen1 gen2
  | .movl gen1 gen2 => f11 0x1 .l gen1 gen2
  | .cmpf gen1 gen2 => f11 0x2 .f gen1 gen2
  | .cmpl gen1 gen2 => f11 0x2 .l gen1 gen2
  | .subf gen1 gen2 => f11 0x4 .f gen1 gen2
  | .subl gen1 gen2 => f11 0x4 .l gen1 gen2
  | .negf gen1 gen2 => f11 0x5 .f gen1 gen2
  | .negl gen1 gen2 => f11 0x5 .l gen1 gen2
  | .divf gen1 gen2 => f11 0x8 .f gen1 gen2
  | .divl gen1 gen2 => f11 0x8 .l gen1 gen2
  | .mulf gen1 gen2 => f11 0xC .f gen1 gen2
  | .mull gen1 gen2 => f11 0xC .l gen1 gen2
  | .absf gen1 gen2 => f11 0xD .f gen1 gen2
  | .absl gen1 gen2 => f11 0xD .l gen1 gen2
  | .rdval loc unused => f14 0 (unused.extractLsb' 1 4) (unused.extractLsb' 0 1) loc
  | .wrval loc unused => f14 1 (unused.extractLsb' 1 4) (unused.extractLsb' 0 1) loc
  | .lmr mmureg gen unused => f14 2 mmureg unused gen
  | .smr mmureg gen unused => f14 3 mmureg unused gen
  | .custom16 => [0x16]
  | .custom36 => [0x36]
  | .customB6 => [0xB6]
  | .und7E => [0x7E]
  | .undFE => [0xFE]
  | .und9E => [0x9E]
  | .und5E => [0x5E]
  | .undDE => [0xDE]
  | .und8E => [0x8E]
  | .undX6Other raw => [raw]
  | .undF3Op1000B raw | .undF3OpOddB raw | .undCXPDIB raw | .undJUMPIB raw | .undJSRIB raw | .undF3Op1000W raw
  | .undF3OpOddW raw | .undCXPDIW raw | .undJUMPIW raw | .undJSRIW raw | .undF3Op1000D raw | .undF3OpOddD raw
  | .undBICPSRD raw | .undBISPSRD raw | .undADDRIB raw | .undADDRIW raw => le16 raw
  | .undF5Op1xxx raw | .undF5OpX1xx raw | .undSETCFGI raw | .faultF5TI raw | .faultF5I10 raw | .undF6Op0100 raw
  | .undF6Op1010 raw | .faultF6I10 raw | .undF7Op1010 raw | .undMOVXBWI raw | .undMOVZBWI raw | .undMOVZiDD raw
  | .undMOVXiDD raw | .faultF7I10 raw | .undF8Op111 raw | .undCVTPI raw | .undF8Op110Reg000 raw
  | .undF8Op110Reg010 raw | .undF8Op110Reg100 raw | .undF8Op110Reg101 raw | .undF8Op110Reg110 raw
  | .undF8Op110Reg111 raw | .faultF8I10 raw | .undLFSRFi raw | .undMOVLFFi raw | .undMOVFLFi raw | .undSFSRFi raw
  | .faultF9I10 raw | .fpuILLEGAL0011 raw | .fpuILLEGAL1001 raw | .undF11Op011x raw | .undF11Op101x raw
  | .undF11Op111x raw | .undF11Bit9 raw | .undF14Op1xxx raw | .undF14OpX1xx raw | .undF14I raw => le24 raw

/-- The bytes of an instruction in address order (R189). -/
def encode (i : Instr) : List Byte :=
  i.basic ++ i.operands.flatMap (fun o => o.gen.indexByte) ++
    i.operands.flatMap (fun o => o.gen.extension o.bytes) ++ i.immByte.toList ++
    i.disp.toList.flatMap Disp.encode

/-- The length of an instruction in bytes: the Basic Instruction and all extensions (R27, R189). -/
def Instr.length (i : Instr) : Nat := (encode i).length

/-! ### The length of an instruction from its operands (R189) -/

/-- The bytes an operand of `n` bytes adds to an instruction: its index byte and its extension. -/
def Gen.size (n : Nat) (g : Gen) : Nat := g.indexByte.length + (g.extension n).length

/-- The length of a displacement field (R164). -/
def Disp.size (d : Disp) : Nat := d.encode.length

/-- The length of an instruction with a Basic Instruction of `b` bytes and one general operand. -/
def size1 (b n : Nat) (g : Gen) : Nat := b + Gen.size n g

/-- The length of an instruction with a Basic Instruction of `b` bytes and two general operands. -/
def size2 (b n1 n2 : Nat) (g1 g2 : Gen) : Nat := b + Gen.size n1 g1 + Gen.size n2 g2

/-! ### Bytes of a number -/

/-- The longest instruction: three bytes, two index bytes, four displacements and one more, all of four bytes. -/
def maxLength : Nat := 25

/-- The bytes of a number in address order, the least significant first (R121), `n` of them. -/
def littleEndian (n w : Nat) : List Byte :=
  match n with
  | 0 => []
  | n + 1 => BitVec.ofNat 8 w :: littleEndian n (w / 256)

/-- The instruction read from the `nbits` low bits of `w`, every later bit of it zero (spec/opcode_table.json's
numbering: bit 0 is bit 0 of the byte at the lowest address). -/
noncomputable def decodeTableWord (nbits w : Nat) : Option Instr :=
  match decode (littleEndian maxLength (w % 2 ^ nbits)) with
  | .ok (i, _) => some i
  | .error _ => none

end Sys2Proof
end

