-- ==== Sys2Proof/Config.lean ====
section
/-! DEFINITION. What an implementation or a platform fixes and the sources do not: the parameters of
spec/92_eei_decisions.md that are functions or truth values, and the source of free values. Each is an opaque constant
without a body, so that nothing can be proved of its value: a statement that mentions one holds for every value. -/

namespace Sys2Proof

/-- The ten memory-management registers, 32 bits each (R63). Their field layouts are in no source (N14). `eia` is what
reading EIA gives: the address of the most recent translation error. -/
structure MmuRegs where
  msr : DWord
  ptb0 : DWord
  ptb1 : DWord
  eia : DWord
  bpr0 : DWord
  bpr1 : DWord
  bcnt : DWord
  pf0 : DWord
  pf1 : DWord
  sc : DWord
deriving DecidableEq, Repr, Inhabited

/-- The privilege state under which an access is made (R102, R514). -/
inductive Mode
  | user
  | supervisor
deriving DecidableEq, Repr, Inhabited

/-- The kind of an access, as the MMU sees it (R102). -/
inductive AccessKind
  | read
  | write
  | execute
deriving DecidableEq, Repr, Inhabited

/-- What `translate` of R102 answers: a physical address; a refusal because of the page's protection; or no valid
mapping at all. The two refusals both abort an access (R437); RDVAL and WRVAL tell them apart (R432, R433). -/
inductive Translation
  | mapped (pa : Addr)
  | refused
  | invalid
deriving DecidableEq, Repr, Inhabited

/-- What the breakpoint registers make of an access (R63, R591): it goes on, with a count left in BCNT, or the processor
breaks program execution. -/
inductive Watch
  | goesOn (bcnt : DWord)
  | breaks
deriving DecidableEq, Repr, Inhabited

/-- The four floating-point instructions whose exact zero result has an open sign (D8). -/
inductive ArithOp
  | add
  | sub
  | mul
  | div
deriving DecidableEq, Repr, Inhabited

/-- Free values: the n-th value that no source fixes (`draw` of R10). DESIGN CHOICE of form, log 8. -/
opaque Config.freeValue : Nat → QWord

/-- `fp_zero_sign` (D8): whether an exactly zero result of ADDf, SUBf, MULf, DIVf is Negative Zero, by operation,
operation length, the two operand patterns and the rounding mode. Log 9. -/
opaque Config.fpZeroSign : ArithOp → FLen → QWord → QWord → BitVec 2 → Bool

/-- `FP_TINY_BEFORE_ROUNDING` (D9): how the smallness that defines underflow is judged. Log 10. -/
opaque Config.tinyBeforeRounding : Bool

/-- `ROUND_TIE` (D13): whether ROUNDfi rounds an exact half away from zero (else to even). Log 11. -/
opaque Config.roundTieAway : Bool

/-- `translate` (D17, R102): the MMU's mapping of a virtual address, as a function of its registers, of its Translation
Buffer (R71) and of memory, where the page tables are (R101). Log 14. -/
opaque Config.translate : MmuRegs → Nat → List Host.Cell → Addr → Mode → AccessKind → Translation

/-- What the Translation Buffer holds after an access of some bytes from an address on: which entries are kept there, and
for how long, is in no source (R71, R109). Log 14. -/
opaque Config.bufferAfterAccess : MmuRegs → Nat → List Host.Cell → Addr → Nat → Mode → AccessKind → Nat

/-- What the Translation Buffer holds after a value is written to EIA, which removes an invalid Page Table entry from it
(R63, R430). Log 14. -/
opaque Config.bufferAfterRemoval : MmuRegs → Nat → DWord → Nat

/-- What the Translation Buffer holds after Reset, which the sources do not say (R72, R109). Log 14. -/
opaque Config.bufferAfterReset : Nat → Nat

/-- Whether an access of some bytes from an address on meets the addresses and conditions of BPR0 and BPR1, and what BCNT
then holds (R63, R591): the layouts of the three registers and the bits that enable them are in no source (N14). Log 48. -/
opaque Config.watch : MmuRegs → Addr → Nat → Mode → AccessKind → Watch

/-- Whether the flow of the program is being traced (R591): the bits of MSR that enable it are in no source (N14). Log 49. -/
opaque Config.flowTracing : MmuRegs → Mode → Bool

/-- Which of PF0 and PF1 holds the more recent address is in no source (R63, N14): whether PF0 does. Log 49. -/
opaque Config.pf0Newest : Bool

/-- Which half of SC is SC1 is in no source (R63, N14): whether it is the high one. Log 49. -/
opaque Config.sc1High : Bool

/-- What SC0 holds after one more instruction than a 16-bit field can count, which the sources do not say (R63). Log 49. -/
opaque Config.countAfterLast : Word

/-- What the MMU leaves in MSR when an access aborts: it "records its own status in MSR and EIA on an abort, by means
the sources do not give" (R554), so any value. Log 15. -/
opaque Config.msrAfterAbort : MmuRegs → Addr → Mode → AccessKind → DWord

end Sys2Proof
end

