-- ==== Sys2Proof/Machine/State.lean ====
section
/-! DEFINITION. The machine's state as plain data (spec/10_state.md, spec/20_memory.md), why a step can stop, and the
state right after Reset. INVENTORY.md lists every field with its rule. -/

namespace Sys2Proof.Machine

/-- Behaviours to which the spec gives no outcome, or which it says a model faults on. Every one is safe: the machine
stops where real hardware would do something that no source states. -/
inductive Fault
  /-- An address outside 0 .. 2^24 - 1 (U32, D2), raised by every access, effective address and program counter. Safe. -/
  | outsideSpace
  /-- An access to an address the memory map marks absent (D28, R587). Safe. -/
  | absentAddress
  /-- Immediate mode under an access class other than read (U1), raised by operand evaluation. Safe. -/
  | immediateOperand
  /-- Gen code 10011, or an illegal base mode of a Scaled Index (U2), raised by operand evaluation. Safe. -/
  | illegalMode
  /-- A displacement outside -16,277,215 .. +16,277,215 (U3, D27), raised where it is used. Safe. -/
  | displacementRange
  /-- String option UW = 10 (U6), raised by the string instructions. Safe. -/
  | stringOptions
  /-- String option T = 1 with a length other than Byte (U7), raised by that row's meaning. Safe. -/
  | translateLength
  /-- A MOVMi or CMPMi length that R171 does not list (U8). Safe. -/
  | blockLength
  /-- Length field 10 in an instruction with a length suffix (U9), raised by those rows' meanings. Safe. -/
  | lengthField
  /-- A bit-field length outside 1 to 32 (U10). Safe. -/
  | fieldLength
  /-- A bit or bit field outside its register, or needing more than four bytes of memory (U12). Safe. -/
  | bitLocation
  /-- An odd-numbered F register for a Long operand (U13). Safe. -/
  | oddFloatPair
  /-- An odd-numbered R register for an operand of length 2i (U14). Safe. -/
  | oddRegisterPair
  /-- A string instruction with R0 negative (U16). Safe. -/
  | negativeCount
  /-- An acknowledge or End-of-Interrupt byte below -16 in Vectored mode (U19). Safe. -/
  | cascadeIndex
  /-- LPRi or SPRi with a length that does not go with the register (U20). Safe. -/
  | procregLength
  /-- LMR or SMR with an unassigned register selector (U22). Safe. -/
  | mmuRegister
  /-- A reserved MOD value, FFF1 to FFFF, used as a module address (U30). Safe. -/
  | reservedModule
  /-- A must-be-zero field that selects nothing is not zero (U41). Safe. -/
  | unusedField
  /-- A trap raised inside an interrupt or trap sequence (U39, D23). Safe. -/
  | insideSequence
deriving DecidableEq, Repr, Inhabited

/-- Why the machine gives an instruction no meaning at all. Every one is safe: no next state is claimed. -/
inductive Refusal
  /-- An instruction whose meaning is not written: raised by Dispatch.lean's refused arms only. Safe. -/
  | notModelled (mnemonic : String)
  /-- A unit that CFG enables but that is not attached (D1, R49), raised by the floating-point and memory-management
  instructions. Safe. -/
  | unitAbsent
  /-- A custom instruction with CFG.C = 1, whose effect is the custom slave's own (D18, R442, U23). Safe. -/
  | customSlave
  /-- An instruction byte stored to since the last queue flush (D7, R103, U38), raised by the fetch. Safe. -/
  | storedIntoQueue
  /-- The addresses and conditions of a breakpoint register are met: the processor breaks program execution, and how that
  is reported to the CPU is in no source (R591, N14), raised by an access while the MMU is active. Safe. -/
  | breakpoint
deriving DecidableEq, Repr, Inhabited

/-- What lies at an address (`MEMORY_MAP`, D28). -/
inductive RegionKind
  | ram
  | rom
  | device
  | absent
deriving DecidableEq, Repr, Inhabited

/-- One entry of the memory map: the addresses from `first` to `last`. -/
structure Region where
  first : Nat
  last : Nat
  kind : RegionKind
deriving DecidableEq, Repr, Inhabited

/-- The platform parameters `HAS_FPU`, `HAS_MMU`, `HAS_CUSTOM` (D1) and `MEMORY_MAP` (D28). The first region that holds
an address decides; an address in none is RAM. Log 7. R6 names `HAS_ICU` too, which no decision uses: the model has no such
field, and the environment answers the acknowledge and End of Interrupt reads whether or not an ICU is attached. DESIGN
CHOICE, log 7. -/
structure Platform where
  hasFpu : Bool
  hasMmu : Bool
  hasCustom : Bool
  memoryMap : List Region
deriving DecidableEq, Repr, Inhabited

/-- What the environment does before one step (R511, D5, D22): the RST input, a falling edge on NMI, the level of INT,
and writes by other bus masters. Log 12. -/
structure Inputs where
  rst : Bool
  nmiEdge : Bool
  intLevel : Bool
  writes : List (Addr × Byte)
deriving DecidableEq, Repr, Inhabited

/-- An access the environment sees (R99, R100, D28, D30), with the byte that was carried. -/
inductive Event
  /-- An Interrupt Acknowledge read (`IORead_INTA`, R527). -/
  | acknowledge (a : Addr) (answer : Byte)
  /-- An End of Interrupt read (`IORead_EOI`, R527). -/
  | endOfInterrupt (a : Addr) (answer : Byte)
  | deviceRead (a : Addr) (answer : Byte)
  | deviceWrite (a : Addr) (v : Byte)
deriving DecidableEq, Repr, Inhabited

/-- What the CPU is in the middle of between two steps. -/
inductive Activity
  /-- About to execute the instruction at PC. -/
  | running
  /-- Between two passes of the string instruction at PC, which is not complete (R312, D19). -/
  | inString
  /-- Suspended by the WAIT at PC until an interrupt (R404). -/
  | waiting
  /-- In the self-branch of the DIA at PC (R405). -/
  | diagnosing
  /-- An exception sequence has just ended, which is itself an instruction boundary (D29). -/
  | afterException
deriving DecidableEq, Repr, Inhabited

/-- How the instruction at PC came to be the next one, as far as the memory-management unit has not traced it yet (R63,
R103). -/
inductive Flow
  /-- In sequence. -/
  | sequential
  /-- By a non-sequential fetch. -/
  | nonSequential
  /-- Its fetch has been traced. -/
  | traced
deriving DecidableEq, Repr, Inhabited

/-- The state of the machine. -/
structure State where
  /-- R0..R7 (R20). -/
  regs : Vector DWord 8
  /-- The program counter: the address of the current instruction's first byte (R26). -/
  pc : Addr
  /-- Static Base (R29). -/
  sb : Addr
  /-- The Interrupt Stack Pointer (R30). -/
  sp0 : Addr
  /-- The User Stack Pointer (R30). -/
  sp1 : Addr
  /-- Frame Pointer (R31). -/
  fp : Addr
  /-- Interrupt Base (R32). -/
  intbase : Addr
  /-- The Module register (R33). -/
  mod : Word
  /-- The Processor Status Register (R34, R35). -/
  psr : Word
  /-- The Configuration register, C M F I from the most significant bit (R47). -/
  cfg : BitVec 4
  /-- F0..F7 (R51). -/
  fregs : Vector DWord 8
  /-- The retained half of the Floating-Point Status Register (R53). -/
  fsr : Word
  /-- The memory-management registers (R63). -/
  mmu : MmuRegs
  /-- The MMU's Translation Buffer (R71), as a number: the form of its entries is in no source, and only `Config` reads it.
  Log 14. -/
  buffer : Nat
  /-- How the instruction at PC was reached, for the tracing of program flow (R63). -/
  flow : Flow
  /-- The bytes at physical addresses, in canonical form (Memory.lean). -/
  mem : List Host.Cell
  /-- The Non-Maskable Interrupt pending latch (R65). -/
  nmiPending : Bool
  /-- The level of the INT input (R66). -/
  intLine : Bool
  activity : Activity
  /-- Physical addresses stored to since the instruction queue was last flushed (R69, R103, D7). -/
  queueDirty : List Nat
  platform : Platform
  /-- What the environment will do before each of the next steps; nothing once it is empty. -/
  inputs : List Inputs
  /-- The environment's answers to the next device and acknowledge reads (D30). -/
  answers : List Byte
  /-- The accesses the environment has seen, oldest first. -/
  events : List Event
  /-- How many free values have been drawn (`draw` of R10). -/
  draws : Nat
deriving DecidableEq, Repr, Inhabited

/-- The memory-management registers after Reset: the MSR fields that Reset clears are 0 (R72), the rest is DESIGN CHOICE,
log 5. -/
def mmuReset : MmuRegs :=
  { msr := 0, ptb0 := 0, ptb1 := 0, eia := 0, bpr0 := 0, bpr1 := 0, bcnt := 0, pf0 := 0, pf1 := 0, sc := 0 }

/-- The machine right after Reset (R72, R580): PC, PSR and FSR are 0. Every other register is undefined there and has
the value its log entry names (logs 1 to 5); the Translation Buffer, the platform and the environment are the model's
(logs 7, 12, 13, 14, 44). -/
def State.reset : State :=
  { regs := Vector.replicate 8 0
    pc := 0
    sb := 0
    sp0 := 0x007000
    sp1 := 0x008000
    fp := 0
    intbase := 0
    mod := 0
    psr := 0
    cfg := 0
    fregs := Vector.replicate 8 0
    fsr := 0
    mmu := mmuReset
    buffer := 0
    flow := .nonSequential
    mem := []
    nmiPending := false
    intLine := false
    activity := .running
    queueDirty := []
    platform := { hasFpu := true, hasMmu := true, hasCustom := false, memoryMap := [] }
    inputs := []
    answers := []
    events := []
    draws := 0 }

end Sys2Proof.Machine
end

