-- ==== Sys2Proof/Machine/Flags.lean ====
section
/-! DEFINITION. Integer values of operands (R9), the PSR's bits and their computation (R34 to R46, R174), and the FSR's
fields (R53 to R61). The PSR bit positions and the condition codes are general knowledge (G1, G6): PRESUMED, log 28. -/

namespace Sys2Proof.Machine

/-! ### Values -/

/-- `u(v)` of R9: the low `n` bytes of a value as an unsigned number. -/
def uval (n : Nat) (v : QWord) : Nat := v.toNat % 2 ^ (8 * n)

/-- `s(v)` of R9: the low `n` bytes of a value as a two's-complement number. -/
def sval (n : Nat) (v : QWord) : Int :=
  if uval n v < 2 ^ (8 * n - 1) then uval n v else (uval n v : Int) - 2 ^ (8 * n)

/-- `trunc` of R9: an integer kept to `n` bytes. -/
def narrow (n : Nat) (x : Int) : QWord := BitVec.ofNat 64 (x % 2 ^ (8 * n)).toNat

/-! ### The Processor Status Register -/

/-- C, Carry (R36). -/
abbrev bitC : Nat := 0
/-- T, Trace (R37). -/
abbrev bitT : Nat := 1
/-- L, Low (R38). -/
abbrev bitL : Nat := 2
/-- F, Flag (R39). -/
abbrev bitF : Nat := 5
/-- Z, Zero (R40). -/
abbrev bitZ : Nat := 6
/-- N, Negative (R41). -/
abbrev bitN : Nat := 7
/-- U, User Mode (R43). -/
abbrev bitU : Nat := 8
/-- S, Stack (R44). -/
abbrev bitS : Nat := 9
/-- P, Trace Trap Pending (R45). -/
abbrev bitP : Nat := 10
/-- I, Interrupt Enable (R46). -/
abbrev bitI : Nat := 11

/-- The implemented bits of the PSR (R34, R35). -/
def psrMask : Word := 0x0FE7

/-- What the PSR retains of a word written to it: the reserved bits read as 0 (R34, D3). -/
def psrKeep (w : Word) : Word := w &&& psrMask

/-- A word with one bit set or cleared. -/
def putBit (w : Word) (k : Nat) (b : Bool) : Word :=
  if b then w ||| (1#16 <<< k) else w &&& ~~~(1#16 <<< k)

/-- A bit of the PSR. -/
def State.flag (s : State) (k : Nat) : Bool := s.psr.getLsbD k

/-- The state with one bit of the PSR set or cleared. -/
def State.setFlag (s : State) (k : Nat) (b : Bool) : State := { s with psr := putBit s.psr k b }

/-- The state with the whole PSR loaded. -/
def State.setPsr (s : State) (w : Word) : State := { s with psr := psrKeep w }

/-- The privilege state (R514). -/
def State.mode (s : State) : Mode := if s.flag bitU then .user else .supervisor

/-- A PSR with the Z, N and L bits that a comparison sets (R38, R40, R41). -/
def putZNL (w : Word) (z n l : Bool) : Word := putBit (putBit (putBit w bitZ z) bitN n) bitL l

/-- The state with the Z, N and L bits that a comparison sets. -/
def State.setZNL (s : State) (z n l : Bool) : State := { s with psr := putZNL s.psr z n l }

/-- The state with C and F set, as additions and subtractions do (R36, R39). -/
def State.setCF (s : State) (c f : Bool) : State := { s with psr := putBit (putBit s.psr bitC c) bitF f }

/-- The condition of a Bcond or Scondi (R174), by its code. -/
def condition (psr : Word) (code : BitVec 4) : Bool :=
  let c := psr.getLsbD bitC
  let l := psr.getLsbD bitL
  let f := psr.getLsbD bitF
  let z := psr.getLsbD bitZ
  let n := psr.getLsbD bitN
  match code with
  | 0x0 => z
  | 0x1 => !z
  | 0x2 => c
  | 0x3 => !c
  | 0x4 => l
  | 0x5 => !l
  | 0x6 => n
  | 0x7 => !n
  | 0x8 => f
  | 0x9 => !f
  | 0xA => !l && !z
  | 0xB => l || z
  | 0xC => !n && !z
  | 0xD => n || z
  | 0xE => true
  | _ => false

/-! ### Carry and overflow of `n`-byte additions and subtractions (R123, R451) -/

/-- The carry out of an addition with a carry in (R36). -/
def addCarry (n : Nat) (a b : QWord) (c : Bool) : Bool := 2 ^ (8 * n) ≤ uval n a + uval n b + c.toNat

/-- The overflow of an addition with a carry in (R39). -/
def addOverflow (n : Nat) (a b : QWord) (c : Bool) : Bool :=
  sval n (narrow n (sval n a + sval n b + c.toNat)) != sval n a + sval n b + c.toNat

/-- The borrow of a subtraction `b - a` with a borrow in (R36). -/
def subBorrow (n : Nat) (a b : QWord) (c : Bool) : Bool := uval n b < uval n a + c.toNat

/-- The overflow of a subtraction `b - a` with a borrow in (R39). -/
def subOverflow (n : Nat) (a b : QWord) (c : Bool) : Bool :=
  sval n (narrow n (sval n b - sval n a - c.toNat)) != sval n b - sval n a - c.toNat

/-! ### The Floating-Point Status Register -/

/-- UEN, Underflow Trap Enable (R55). -/
abbrev bitUEN : Nat := 3
/-- UF, Underflow Flag (R56). -/
abbrev bitUF : Nat := 4
/-- IEN, Inexact Result Trap Enable (R57). -/
abbrev bitIEN : Nat := 5
/-- IF, Inexact Result Flag (R58). -/
abbrev bitIF : Nat := 6

/-- The reasons for a Trap(FPU) (R54). -/
inductive TrapType
  | underflow
  | overflow
  | divideByZero
  | illegalInstruction
  | invalidOperation
  | inexactResult
deriving DecidableEq, Repr, Inhabited

/-- The TT code of a trap type (R54). -/
def TrapType.code : TrapType → BitVec 3
  | .underflow => 0b001
  | .overflow => 0b010
  | .divideByZero => 0b011
  | .illegalInstruction => 0b100
  | .invalidOperation => 0b101
  | .inexactResult => 0b110

/-- An FSR with its TT field set (R54). -/
def putTT (w : Word) (t : BitVec 3) : Word := (w &&& 0xFFF8) ||| t.setWidth 16

/-- The RM field (R59). -/
def rounding (fsr : Word) : BitVec 2 := fsr.extractLsb' 7 2

end Sys2Proof.Machine
end

