-- ==== Sys2Proof/Machine/Memory.lean ====
section
/-! DEFINITION. Memory as a list of cells in one canonical form (R80, R81): addresses strictly rising, every address
implemented, no cell equal to what an unlisted address reads as. -/

namespace Sys2Proof.Machine

/-- What a byte that no cell lists reads as. DESIGN CHOICE, log 6: the sources give memory no contents at Reset (R581). -/
def Memory.unlisted : Byte := 0

/-- The byte at an address. -/
def Memory.read : List Host.Cell → Nat → Byte
  | [], _ => Memory.unlisted
  | c :: m, a => if c.1 = a then c.2 else Memory.read m a

/-- The cells with one more, in its place by address. -/
def Memory.insert (a : Nat) (v : Byte) : List Host.Cell → List Host.Cell
  | [] => [(a, v)]
  | c :: m => if a < c.1 then (a, v) :: c :: m else c :: Memory.insert a v m

/-- The memory after one byte is written: writing what an unlisted address reads as removes the cell. -/
def Memory.write (m : List Host.Cell) (a : Nat) (v : Byte) : List Host.Cell :=
  let rest := m.filter fun c => c.1 != a
  if v = Memory.unlisted then rest else Memory.insert a v rest

/-- The cells' addresses rise strictly. -/
def Memory.rising : List Host.Cell → Bool
  | [] => true
  | [_] => true
  | c :: d :: m => c.1 < d.1 && Memory.rising (d :: m)

/-- The canonical form of memory. -/
def Memory.wf (m : List Host.Cell) : Bool :=
  Memory.rising m && m.all fun c => c.1 < 2 ^ 24 && c.2 != Memory.unlisted

end Sys2Proof.Machine
end

