-- ==== Sys2Proof/Machine/Ops.lean ====
section
/-! DEFINITION. The operations the meanings share: registers, memory, stacks, the environment, and the exception
sequences (spec/00_scope.md R10, spec/20_memory.md, spec/60_exceptions.md). -/

namespace Sys2Proof.Machine

/-- The traps an instruction can raise (R512); Trace is tested at the boundary and is not among them. -/
inductive Trap
  | abt
  | fpu
  | ill
  | svc
  | dvz
  | flg
  | bpt
  | und
deriving DecidableEq, Repr, Inhabited

/-- The vector number of a trap (R512). -/
def Trap.vector : Trap → Nat
  | .abt => 2
  | .fpu => 3
  | .ill => 4
  | .svc => 5
  | .dvz => 6
  | .flg => 7
  | .bpt => 8
  | .und => 10

/-- Why an instruction is abandoned. -/
inductive Stop
  | trap (t : Trap)
  | fault (f : Fault)
  | refused (r : Refusal)
deriving DecidableEq, Repr, Inhabited

/-- What a step answers. -/
abbrev Result := Host.Outcome State Fault Refusal

/-- An action of the machine: it changes the state, answers a value, or is abandoned with the state it had reached. -/
abbrev Act := EStateM Stop State

/-- Abandon the instruction and take a trap (`raise Trap(XXX)` of R10). -/
def raise {α : Type} (t : Trap) : Act α := throw (.trap t)

/-- Stop with a fault. -/
def stop {α : Type} (f : Fault) : Act α := throw (.fault f)

/-- Stop with a refusal. -/
def refuse {α : Type} (r : Refusal) : Act α := throw (.refused r)

/-- Stop with a fault unless a condition holds. -/
def ensure (b : Bool) (f : Fault) : Act Unit := if b then pure () else stop f

/-! ### Registers -/

/-- `R[n]` (R10). -/
def State.reg (s : State) (r : Reg) : DWord := s.regs.get r

/-- `R[n] <- v` (R10). -/
def State.setReg (s : State) (r : Reg) (v : DWord) : State := { s with regs := s.regs.set r.val v r.isLt }

/-- `F[n]` (R10). -/
def State.freg (s : State) (r : Reg) : DWord := s.fregs.get r

/-- `F[n] <- v` (R10). -/
def State.setFreg (s : State) (r : Reg) (v : DWord) : State := { s with fregs := s.fregs.set r.val v r.isLt }

/-- The other register of a pair named by its even register (R22, R52). -/
def pairOf (r : Reg) : Reg := if r.val = 7 then 7 else r + 1

/-- SP: the stack pointer that PSR.S selects (R30, R44). -/
def State.sp (s : State) : Addr := if s.flag bitS then s.sp1 else s.sp0

/-- The selected stack pointer written (R30). -/
def State.setSp (s : State) (a : Addr) : State := if s.flag bitS then { s with sp1 := a } else { s with sp0 := a }

/-- The implemented part of a 32-bit address register (R81): the high eight bits are not kept. Log 17. -/
def toAddr (v : QWord) : Addr := v.setWidth 24

/-! ### The environment and free values -/

/-- `draw` of R10: a value that no source fixes. Log 8. -/
def draw : Act QWord := fun s => .ok (Config.freeValue s.draws) { s with draws := s.draws + 1 }

/-- The environment's answer to a device or acknowledge read (D30): the next byte it has ready, else any byte. Log 13. -/
def answer : Act Byte := do
  match (← get).answers with
  | b :: rest => modify fun s => { s with answers := rest }; return b
  | [] => return (← draw).setWidth 8

/-- An access the environment sees (D30). -/
def emit (e : Event) : Act Unit := modify fun s => { s with events := s.events ++ [e] }

/-! ### Memory -/

/-- Whether `n` bytes at an exact address lie in the implemented space (R81, R82, D2). -/
def inSpace (a : Int) (n : Nat) : Bool := 0 ≤ a && a + n ≤ 2 ^ 24

/-- What the memory map says lies at a physical address (D28): RAM where no region does. -/
def Platform.kindAt (p : Platform) (a : Nat) : RegionKind :=
  match p.memoryMap.find? fun r => r.first ≤ a && a ≤ r.last with
  | some r => r.kind
  | none => .ram

/-- Whether addresses are translated, and accesses watched and traced (R101, R102, R591): CFG.M set and an MMU attached; a
zero MSR leaves all three off, as after Reset (R582: DEDUCED, log 14). -/
def State.translating (s : State) : Bool := s.cfg.getLsbD 2 && s.platform.hasMmu && s.mmu.msr != 0

/-- What the MMU records of an access it refuses (R63, R554): EIA is the virtual address; MSR and the Translation Buffer hold
what no source fixes (logs 14 and 15). -/
def State.recordAbort (s : State) (a : Addr) (mode : Mode) (kind : AccessKind) : State :=
  { s with
    mmu := { s.mmu with eia := a.setWidth 32, msr := Config.msrAfterAbort s.mmu a mode kind }
    buffer := Config.bufferAfterAccess s.mmu s.buffer s.mem a 1 mode kind }

/-- The physical address of a virtual one (R102); a refused access is recorded and aborts (R437). -/
def physical (a : Addr) (mode : Mode) (kind : AccessKind) : Act Addr := do
  let s ← get
  if s.translating then
    match Config.translate s.mmu s.buffer s.mem a mode kind with
    | .mapped pa => return pa
    | _ =>
      set (s.recordAbort a mode kind)
      raise .abt
  else return a

/-- The physical addresses of `n` bytes from a virtual address on; none is accessed before all are translated (log 15). -/
def physicals (mode : Mode) (kind : AccessKind) : Nat → Nat → Act (List Addr)
  | _, 0 => return []
  | a, n + 1 => do
    let pa ← physical (BitVec.ofNat 24 a) mode kind
    let rest ← physicals mode kind (a + 1) n
    return pa :: rest

/-- What an access that the MMU maps leaves in it: a count in BCNT (R591), and entries in the Translation Buffer (R71). -/
def State.recordAccess (s : State) (a : Addr) (n : Nat) (mode : Mode) (kind : AccessKind) (bcnt : DWord) : State :=
  { s with
    mmu := { s.mmu with bcnt }
    buffer := Config.bufferAfterAccess s.mmu s.buffer s.mem a n mode kind }

/-- The MMU's part in an access of `n` bytes, all of them mapped: it goes on, or a breakpoint is met (R63, R591, log 48). -/
def observe (a : Addr) (n : Nat) (mode : Mode) (kind : AccessKind) : Act Unit := do
  let s ← get
  if s.translating then
    match Config.watch s.mmu a n mode kind with
    | .goesOn bcnt => set (s.recordAccess a n mode kind bcnt)
    | .breaks => refuse .breakpoint

/-- The physical addresses of an access of `n` bytes to a virtual address (R102, R437), observed by the MMU. -/
def access (mode : Mode) (kind : AccessKind) (a n : Nat) : Act (List Addr) := do
  let pas ← physicals mode kind a n
  observe (BitVec.ofNat 24 a) n mode kind
  return pas

/-- One byte read at a physical address (R100, R587). -/
def readByte (pa : Addr) : Act Byte := do
  let s ← get
  match s.platform.kindAt pa.toNat with
  | .ram | .rom => return Memory.read s.mem pa.toNat
  | .device => do
    let b ← answer
    emit (.deviceRead pa b)
    return b
  | .absent => stop .absentAddress

/-- The bytes at some physical addresses as one value, the first least significant (R84). -/
def readBytes : List Addr → Act QWord
  | [] => return 0
  | pa :: rest => do
    let b ← readByte pa
    let v ← readBytes rest
    return v <<< 8 ||| b.setWidth 64

/-- The addresses stored to since the queue flush, with one more (R103). -/
def State.dirtied (s : State) (a : Nat) : List Nat := if a ∈ s.queueDirty then s.queueDirty else a :: s.queueDirty

/-- Memory after one byte is stored. -/
def State.storeByte (s : State) (a : Nat) (v : Byte) : State :=
  { s with mem := Memory.write s.mem a v, queueDirty := s.dirtied a }

/-- One byte written at a physical address (R100, R587); a write to ROM has no effect (log 32). -/
def writeByte (pa : Addr) (v : Byte) : Act Unit := do
  let s ← get
  match s.platform.kindAt pa.toNat with
  | .ram => set (s.storeByte pa.toNat v)
  | .rom => return ()
  | .device => do
    emit (.deviceWrite pa v)
    modify fun s => { s with queueDirty := s.dirtied pa.toNat }
  | .absent => stop .absentAddress

/-- A value written at some physical addresses, its least significant byte first (R84). -/
def writeBytes : List Addr → QWord → Act Unit
  | [], _ => return ()
  | pa :: rest, v => do
    writeByte pa (v.setWidth 8)
    writeBytes rest (v >>> 8)

/-- `MemRead_as(mode, a, n)` (R10, R434): `n` bytes, little-endian (R84). -/
def memReadAs (mode : Mode) (a : Int) (n : Nat) : Act QWord := do
  ensure (inSpace a n) .outsideSpace
  readBytes (← access mode .read a.toNat n)

/-- `MemWrite_as(mode, a, n, v)` (R10, R434). -/
def memWriteAs (mode : Mode) (a : Int) (n : Nat) (v : QWord) : Act Unit := do
  ensure (inSpace a n) .outsideSpace
  writeBytes (← access mode .write a.toNat n) v

/-- `MemRead(a, n)` (R10), in the current mode. -/
def memRead (a : Int) (n : Nat) : Act QWord := do memReadAs (← get).mode a n

/-- `MemWrite(a, n, v)` (R10), in the current mode. -/
def memWrite (a : Int) (n : Nat) (v : QWord) : Act Unit := do memWriteAs (← get).mode a n v

/-- A byte read that the environment tells from a data read (R527): Interrupt Acknowledge or End of Interrupt, the cascaded
ones among them. An address that the memory map marks absent faults, as any access to it (R587, D28). At any other the
environment answers (D30), also where the map has RAM or ROM: there D28 and D30 do not say which of them answers, and
that is DESIGN CHOICE, log 13. -/
def ioRead (event : Addr → Byte → Event) (a : Int) : Act Byte := do
  ensure (inSpace a 1) .outsideSpace
  let va : Addr := BitVec.ofInt 24 a
  let pa ← physical va (← get).mode .read
  observe va 1 (← get).mode .read
  ensure ((← get).platform.kindAt pa.toNat != .absent) .absentAddress
  let b ← answer
  emit (event pa b)
  return b

/-- The selected stack pointer set to an exact address (R93, D2). -/
def moveSp (a : Int) : Act Unit := do
  ensure (inSpace a 1) .outsideSpace
  modify fun s => s.setSp (BitVec.ofInt 24 a)

/-- `Push(n, v)` (R10, R93), as a store of the low `n` bytes of `v` in a slot of `slot` bytes. -/
def pushSlot (slot n : Nat) (v : QWord) : Act Unit := do
  moveSp ((← get).sp.toNat - slot)
  memWrite (← get).sp.toNat n v

/-- `Push(n, v)` (R10, R93). -/
def push (n : Nat) (v : QWord) : Act Unit := pushSlot n n v

/-- `Pop(n)` (R10, R93). -/
def pop (n : Nat) : Act QWord := do
  let v ← memRead (← get).sp.toNat n
  moveSp ((← get).sp.toNat + n)
  return v

/-- A module's address (R33, R95); the reserved values are no module (U30). -/
def moduleAddress (m : Word) : Act Int := do
  ensure (m.toNat < 0xFFF1) .reservedModule
  return m.toNat

/-- SB loaded from the Module Table entry of the current module (R95). -/
def reloadSb : Act Unit := do
  let m ← moduleAddress (← get).mod
  let v ← memRead m 4
  modify fun s => { s with sb := toAddr v }

/-- The address a procedure descriptor leads to, with MOD and SB loaded for its module (R96, R541). -/
def enterModule (desc : QWord) : Act Int := do
  modify fun s => { s with mod := desc.setWidth 16 }
  reloadSb
  let m ← moduleAddress (desc.setWidth 16)
  let base ← memRead (m + 8) 4
  return (uval 4 base : Int) + (desc.extractLsb' 16 16).toNat

/-! ### Taking an exception -/

/-- The program counter set to an exact address, which is a non-sequential transfer: the instruction queue is flushed
(R28, R103). -/
def jumpTo (a : Int) : Act Unit := do
  ensure (inSpace a 1) .outsideSpace
  modify fun s => { s with pc := BitVec.ofInt 24 a, queueDirty := [], flow := .nonSequential }

/-- The Service sequence (R541). -/
def service (vector : Nat) (ra : Addr) : Act Unit := do
  push 2 ((← get).mod.setWidth 64)
  push 4 (ra.setWidth 64)
  let desc ← memRead ((← get).intbase.toNat + 4 * vector) 4
  jumpTo (← enterModule desc)

/-- The PSR that a sequence leaves (R551): S, U, T and P cleared, and I where the sequence clears it. -/
def psrInService (w : Word) (clearI : Bool) : Word :=
  let w := putBit (putBit (putBit (putBit w bitS false) bitU false) bitT false) bitP false
  if clearI then putBit w bitI false else w

/-- Every interrupt and trap sequence (R520, R551): P is cleared before the PSR is copied if `dropP`; the copy is pushed on
the Interrupt Stack; the vector is acquired; Service is performed. R531, R540, R546 and R550 are its four uses. -/
def takeException (dropP clearI : Bool) (ra : Addr) (vector : Act Nat) : Act Unit := do
  let old := (← get).psr
  let copy := if dropP then putBit old bitP false else old
  modify fun s => { s with psr := psrInService copy clearI }
  push 2 (copy.setWidth 64)
  service (← vector) ra
  modify fun s => { s with activity := .afterException }

/-- The outcome of an exception sequence: a trap inside it has no defined effect (R553, D23). -/
def sequenceOutcome (a : Act Unit) (s : State) : Result :=
  match a.run s with
  | .ok _ t => .next t
  | .error (.trap _) _ => .fault .insideSequence
  | .error (.fault f) _ => .fault f
  | .error (.refused r) _ => .refused r

/-- The stack pointer that was selected when the instruction began, given back what it held then (R70, R540). -/
def restoreSp (start s : State) : State :=
  if start.flag bitS then { s with sp1 := start.sp1 } else { s with sp0 := start.sp0 }

/-- The trap sequence (R540) and the abort sequence (R546), from the state at the start of the instruction and the state
in which it was abandoned. -/
def takeTrap (t : Trap) (start s : State) : Result :=
  let abort := t == .abt
  sequenceOutcome (takeException abort abort start.pc (return t.vector)) (restoreSp start s)

/-- The Trace trap sequence (R550). -/
def takeTrace (s : State) : Result := sequenceOutcome (takeException true false s.pc (return 9)) s

/-- The address read to acknowledge a maskable interrupt, and at its end (R92, R99). -/
def intAddress : Int := 0x00FFFE00

/-- The address read when a Non-Maskable Interrupt is served (R92, R99). -/
def nmiAddress : Int := 0x00FFFF00

/-- The vector of a Non-Maskable Interrupt, with its acknowledge read (R531 step 4). -/
def nmiVector : Act Nat := do
  modify fun s => { s with nmiPending := false }
  let _ ← ioRead .acknowledge nmiAddress
  return 1

/-- The vector of a maskable interrupt, with its acknowledge reads (R531 steps 5 to 8, U19). -/
def intVector : Act Nat := do
  let b ← ioRead .acknowledge intAddress
  let s ← get
  if s.cfg.getLsbD 0 then
    if 0 ≤ b.toInt then return b.toNat
    else do
      ensure (-16 ≤ b.toInt) .cascadeIndex
      let ca ← memRead (s.intbase.toNat + 4 * b.toInt) 4
      return (← ioRead .acknowledge (uval 4 ca)).toNat
  else return 0

/-- The interrupt sequence (R531); `inString` says that a string instruction is interrupted before it is complete. -/
def takeInterrupt (nmi inString : Bool) (ra : Addr) (s : State) : Result :=
  sequenceOutcome (takeException inString true ra (if nmi then nmiVector else intVector)) s

/-- The return from an exception, after any End of Interrupt read (R366, R367): the return address, MOD and PSR are popped
from the selected stack, SB is reloaded, and `constant` bytes are removed from the stack the loaded PSR selects. MOD is loaded
before the PSR is popped, as R366 writes it: a pop of the PSR that aborts leaves it loaded (log 15). -/
def returnFrame (constant : Int) : Act Int := do
  let ra ← pop 4
  let m ← pop 2
  modify fun s => { s with mod := m.setWidth 16 }
  let w ← pop 2
  modify fun s => s.setPsr (w.setWidth 16)
  reloadSb
  moveSp ((← get).sp.toNat + constant)
  return uval 4 ra

/-! ### Performing an instruction -/

/-- How an instruction that is not abandoned ends. -/
inductive Next
  /-- With the next instruction in sequence (R27). -/
  | seq
  /-- In sequence, the instruction queue flushed (log 18). -/
  | seqFlush
  /-- With a transfer of control (R28). -/
  | jump (target : Int)
  /-- With a further pass of the same string instruction to come (R312). -/
  | again
  /-- Suspended until an interrupt (R404). -/
  | suspend
  /-- In a branch to itself until an interrupt (R405). -/
  | diagnose
deriving DecidableEq, Repr, Inhabited

/-- The state that goes on at an exact address, if it is in the implemented space (R28, D2). -/
def continueAt (s : State) (a : Int) (flush : Bool) : Result :=
  if inSpace a 1 then
    .next { s with
      pc := BitVec.ofInt 24 a
      activity := .running
      queueDirty := if flush then [] else s.queueDirty
      flow := if flush then .nonSequential else .sequential }
  else .fault .outsideSpace

/-- The end of an instruction of `length` bytes (R27). -/
def finish (length : Nat) (n : Next) (s : State) : Result :=
  match n with
  | .seq => continueAt s (s.pc.toNat + length) false
  | .seqFlush => continueAt s (s.pc.toNat + length) true
  | .jump a => continueAt s a true
  | .again => .next { s with activity := .inString }
  | .suspend => .next { s with activity := .waiting }
  | .diagnose => .next { s with activity := .diagnosing, queueDirty := [] }

/-- What becomes of an instruction that is abandoned: its trap is taken (R540, R546), or the machine stops. -/
def abandon (start : State) (x : Stop) (s : State) : Result :=
  match x with
  | .trap t => takeTrap t start s
  | .fault f => .fault f
  | .refused r => .refused r

/-- An instruction of `length` bytes with the effect `body`: its end, or the trap it raised, taken (R511). -/
def perform (length : Nat) (body : Act Next) (s : State) : Result :=
  match body.run s with
  | .ok n t => finish length n t
  | .error x u => abandon s x u

/-- Raise Trap(ILL) unless in Supervisor Mode (R515, R516). -/
def privileged : Act Unit := do
  if (← get).flag bitU then raise .ill

/-- Stop unless a must-be-zero field is zero (U41, D15); tested after privilege and availability (log 23). -/
def mustBeZero {n : Nat} (field : BitVec n) : Act Unit := ensure (field == 0) .unusedField

end Sys2Proof.Machine
end

