-- ==== Sys2Proof/Machine/Operands.lean ====
section
/-! DEFINITION. General operands: effective addresses (R178 to R188) and the operand primitives ReadOp, WriteOp, AddrOp
and the rmw and regaddr operands (R150 to R159). An operand is located once per execution (R159); operand A is located
and read before operand B is, and the result is written last (R110, D16: log 34). Addresses are exact integers (R82). -/

namespace Sys2Proof.Machine

/-- The value of a displacement, if it is in the defined range (R164, U3). -/
def dispValue (d : Disp) : Act Int := do
  ensure d.ok .displacementRange
  return d.value

/-- The address of the instruction that follows one of `length` bytes (R27, R350). -/
def nextAddress (length : Nat) : Act Int := do
  let a : Int := (← get).pc.toNat + length
  ensure (inSpace a 1) .outsideSpace
  return a

/-- Entry `index` of the Link Table of the current module (R96). -/
def linkEntry (index : Int) : Act QWord := do
  let m ← moduleAddress (← get).mod
  let lb ← memRead (m + 4) 4
  memRead (uval 4 lb + 4 * index) 4

/-- A pointer in memory and a displacement added to it (R182). -/
def viaPointer (base : Int) (d1 d2 : Disp) : Act Int := do
  let x1 ← dispValue d1
  let x2 ← dispValue d2
  let p ← memRead (base + x1) 4
  return uval 4 p + x2

/-- A base register and a displacement added to it (R178, R181). -/
def viaRegister (base : Int) (d : Disp) : Act Int := do return base + (← dispValue d)

/-- The exact address that a mode gives under access class addr (R154, R178), before any check of its range. -/
def Base.address (m : Base) : Act Int := do
  let s ← get
  match m with
  | .reg r => return (s.reg r).toNat
  | .regRel r d => viaRegister (s.reg r).toNat d
  | .frameRel d1 d2 => viaPointer s.fp.toNat d1 d2
  | .stackRel d1 d2 => viaPointer s.sp.toNat d1 d2
  | .staticRel d1 d2 => viaPointer s.sb.toNat d1 d2
  | .illegal _ => stop .illegalMode
  | .abs d => dispValue d
  | .ext d1 d2 => do
    let x1 ← dispValue d1
    let x2 ← dispValue d2
    return uval 4 (← linkEntry x1) + x2
  | .tos => return s.sp.toNat
  | .frame d => viaRegister s.fp.toNat d
  | .stack d => viaRegister s.sp.toNat d
  | .static d => viaRegister s.sb.toNat d
  | .program d => viaRegister s.pc.toNat d

/-- The factor of a Scaled Index (R188). -/
def scaleFactor : Scale → Int
  | .b => 1
  | .w => 2
  | .d => 4
  | .q => 8

/-- A base address with a scaled index (R188): the index register is signed. -/
def scaledBy (sc : Scale) (idx : Reg) (a : Int) : Act Int := do return a + scaleFactor sc * ((← get).reg idx).toInt

/-- The exact address of a general operand of class addr (R154, R159, R188), whether or not it exists. -/
def exactAddress (g : Gen) : Act Int :=
  match g with
  | .base m => Base.address m
  | .imm _ => stop .immediateOperand
  | .scaled sc idx m => do scaledBy sc idx (← Base.address m)

/-- An exact address, which must lie in the implemented space (R82, D2). -/
def existing (a : Int) : Act Int := do
  ensure (inSpace a 1) .outsideSpace
  return a

/-- `AddrOp(g)` (R159): every effective address computed on the way, the base mode's under a Scaled Index too (R188), must
lie in the implemented space (R28, R82, D2). -/
def addrOp (g : Gen) : Act Int := do
  match g with
  | .scaled sc idx m => existing (← scaledBy sc idx (← existing (← Base.address m)))
  | _ => existing (← exactAddress g)

/-- Where a general operand is, once located: a register of the operand's kind, memory, or a slot still to be pushed. -/
inductive Loc
  | reg (r : Reg)
  | mem (a : Int)
  | push
deriving DecidableEq, Repr, Inhabited

/-- A register operand of a kind and `n` bytes that the rules define: a pair is named by its even register (U13, U14). -/
def legalReg (k : Kind) (n : Nat) (r : Reg) : Act Unit :=
  match k with
  | .int => pure ()
  | .pair => ensure (r.val % 2 == 0) .oddRegisterPair
  | .float => ensure (n == 4 || r.val % 2 == 0) .oddFloatPair

/-- An rmw operand (R153, R159): Top of Stack is the top item in place. -/
def locateRmw (k : Kind) (n : Nat) (g : Gen) : Act Loc :=
  match g with
  | .base (.reg r) => do
    legalReg k n r
    return .reg r
  | _ => return .mem (← addrOp g)

/-- A write operand (R152, R159): Top of Stack is a slot to push. -/
def locateWrite (k : Kind) (n : Nat) (g : Gen) : Act Loc :=
  match g with
  | .base .tos => return .push
  | _ => locateRmw k n g

/-! ### Registers as operands (R21, R22, R52, R157, R158) -/

/-- A general register read as an operand of `n` bytes (R21, R159). -/
def State.readRegBytes (s : State) (n : Nat) (r : Reg) : QWord := BitVec.ofNat 64 ((s.reg r).toNat % 2 ^ (8 * n))

/-- The low `n` bytes of a double-word replaced (R21). -/
def replaceLow (n : Nat) (old : DWord) (v : QWord) : DWord :=
  match n with
  | 1 => old.extractLsb' 8 24 ++ v.extractLsb' 0 8
  | 2 => old.extractLsb' 16 16 ++ v.extractLsb' 0 16
  | _ => v.extractLsb' 0 32

/-- A general register written as an operand of `n` bytes; the rest of it is unchanged (R21, R159). -/
def State.writeRegBytes (s : State) (n : Nat) (r : Reg) (v : QWord) : State := s.setReg r (replaceLow n (s.reg r) v)

/-- A register of a kind read as an operand of `n` bytes (R159). -/
def State.readReg (s : State) (k : Kind) (n : Nat) (r : Reg) : QWord :=
  match k with
  | .int => s.readRegBytes n r
  | .pair => s.readRegBytes (n / 2) (pairOf r) <<< (8 * (n / 2)) ||| s.readRegBytes (n / 2) r
  | .float => if n = 4 then (s.freg r).setWidth 64 else (s.freg (pairOf r) ++ s.freg r : BitVec (32 + 32))

/-- A register of a kind written as an operand of `n` bytes (R159). -/
def State.writeReg (s : State) (k : Kind) (n : Nat) (r : Reg) (v : QWord) : State :=
  match k with
  | .int => s.writeRegBytes n r v
  | .pair => (s.writeRegBytes (n / 2) r v).writeRegBytes (n / 2) (pairOf r) (v >>> (8 * (n / 2)))
  | .float =>
    if n = 4 then s.setFreg r (v.setWidth 32)
    else (s.setFreg r (v.setWidth 32)).setFreg (pairOf r) (v.extractLsb' 32 32)

/-! ### The operand primitives -/

/-- A located operand of `n` bytes read (R159). A slot to push holds nothing to read: no operand that is read is located
so. -/
def readLoc (k : Kind) (n : Nat) (l : Loc) : Act QWord :=
  match l with
  | .reg r => return (← get).readReg k n r
  | .mem a => memRead a n
  | .push => return 0

/-- A located operand of `n` bytes written (R159). -/
def writeLoc (k : Kind) (n : Nat) (l : Loc) (v : QWord) : Act Unit :=
  match l with
  | .reg r => modify fun s => s.writeReg k n r v
  | .mem a => memWrite a n v
  | .push => push n v

/-- `ReadOp(g, n)` (R151, R159): Top of Stack is popped. -/
def readOp (k : Kind) (n : Nat) (g : Gen) : Act QWord :=
  match g with
  | .base (.reg r) => do
    legalReg k n r
    return (← get).readReg k n r
  | .base .tos => pop n
  | .imm v => return v
  | _ => do memRead (← addrOp g) n

/-- An integer operand of class read. -/
abbrev readInt (l : Len) (g : Gen) : Act QWord := readOp .int l.bytes g

/-- A located integer operand written, low bytes only. -/
abbrev writeInt (l : Len) (x : Loc) (v : QWord) : Act Unit := writeLoc .int l.bytes x v

/-- A floating-point operand of class read. -/
abbrev readFloat (x : FLen) (g : Gen) : Act QWord := readOp .float x.bytes g

/-- A located floating-point operand written. -/
abbrev writeFloat (y : FLen) (x : Loc) (v : QWord) : Act Unit := writeLoc .float y.bytes x v

/-- A 4-bit quick operand, sign-extended to the operation length (R161). -/
def quickValue (l : Len) (q : BitVec 4) : QWord := narrow l.bytes q.toInt

end Sys2Proof.Machine
end

