-- ==== Sys2Proof/Machine/Integer.lean ====
section
/-! DEFINITION. Integer instructions (spec/48_integer.md). Which operand an instruction reads and writes, and the flags it
leaves alone, are general knowledge (G5, G12, G14, G18): PRESUMED, log 28. -/

namespace Sys2Proof.Machine

/-! ### Shared operations -/

/-- An addition to operand B (R452, R454 to R456), of a value and, if `withCarry`, of C. The result is written before the
flags are. -/
def addTo (l : Len) (withCarry : Bool) (a : QWord) (dest : Gen) : Act Next := do
  let x ← locateRmw .int l.bytes dest
  let b ← readLoc .int l.bytes x
  let c := withCarry && (← get).flag bitC
  writeInt l x (narrow l.bytes (uval l.bytes b + uval l.bytes a + c.toNat))
  modify fun s => s.setCF (addCarry l.bytes b a c) (addOverflow l.bytes b a c)
  return .seq

/-- ADDi and ADDCi. -/
def addBody (l : Len) (withCarry : Bool) (src dest : Gen) : Act Next := do
  let a ← readInt l src
  addTo l withCarry a dest

/-- SUBi and SUBCi: operand A, and C if `withBorrow`, subtracted from operand B (R452, R457, R458). -/
def subBody (l : Len) (withBorrow : Bool) (src dest : Gen) : Act Next := do
  let a ← readInt l src
  let x ← locateRmw .int l.bytes dest
  let b ← readLoc .int l.bytes x
  let c := withBorrow && (← get).flag bitC
  writeInt l x (narrow l.bytes (uval l.bytes b - uval l.bytes a - c.toNat))
  modify fun s => s.setCF (subBorrow l.bytes a b c) (subOverflow l.bytes a b c)
  return .seq

/-- An operand of class read, of `n` bytes, converted into an operand of class write, of `m` bytes. -/
def convertBody (n m : Nat) (f : QWord → QWord) (src dest : Gen) : Act Next := do
  let a ← readOp .int n src
  let x ← locateWrite .int m dest
  writeLoc .int m x (f a)
  return .seq

/-- A value stored in an operand of class write. -/
def storeBody (l : Len) (v : QWord) (dest : Gen) : Act Next := do
  let x ← locateWrite .int l.bytes dest
  writeInt l x v
  return .seq

/-- NEGi: a subtraction from zero (R459). -/
def negBody (l : Len) (src dest : Gen) : Act Next := do
  let a ← readInt l src
  let x ← locateWrite .int l.bytes dest
  writeInt l x (narrow l.bytes (-(uval l.bytes a : Int)))
  modify fun s => s.setCF (subBorrow l.bytes a 0 false) (subOverflow l.bytes a 0 false)
  return .seq

/-- ABSi (R460): F is set for the most negative value, which the result then is. -/
def absBody (l : Len) (src dest : Gen) : Act Next := do
  let a ← readInt l src
  let x ← locateWrite .int l.bytes dest
  writeInt l x (narrow l.bytes (sval l.bytes a).natAbs)
  modify fun s => s.setFlag bitF (sval l.bytes a == -(2 ^ (l.bits - 1)))
  return .seq

/-- Operand B replaced by a function of both operands, with no flag written. -/
def binaryBody (l : Len) (f : QWord → QWord → QWord) (src dest : Gen) : Act Next := do
  let a ← readInt l src
  let x ← locateRmw .int l.bytes dest
  let b ← readLoc .int l.bytes x
  writeInt l x (f a b)
  return .seq

/-- The product kept to `n` bytes (R461). -/
def product (n : Nat) (a b : QWord) : QWord := narrow n (uval n a * uval n b)

/-- MEIi: the unsigned product of operand A and the low half of operand B replaces all of B (R462). -/
def meiBody (l : Len) (src dest : Gen) : Act Next := do
  let a ← readInt l src
  let x ← locateRmw .pair (2 * l.bytes) dest
  let d ← readLoc .pair (2 * l.bytes) x
  writeLoc .pair (2 * l.bytes) x (BitVec.ofNat 64 (uval l.bytes a * uval l.bytes d))
  return .seq

/-- The four signed divisions (R453, R463): `f` gives the result from the dividend and the divisor. Where the quotient
does not fit, the result of DIVi and QUOi (`quotient`) is a free value (U24, log 25). -/
def divideBody (l : Len) (quotient : Bool) (f : Int → Int → Int) (src dest : Gen) : Act Next := do
  let a ← readInt l src
  let x ← locateRmw .int l.bytes dest
  let b ← readLoc .int l.bytes x
  if uval l.bytes a = 0 then raise .dvz
  if quotient && sval l.bytes b == -(2 ^ (l.bits - 1)) && sval l.bytes a == -1 then
    writeInt l x (← draw)
  else
    writeInt l x (narrow l.bytes (f (sval l.bytes b) (sval l.bytes a)))
  return .seq

/-- DEIi (R468): the unsigned quotient replaces the high half of operand B and the remainder the low half; where the
quotient does not fit, both are free values (U25, log 25). -/
def deiBody (l : Len) (src dest : Gen) : Act Next := do
  let a ← readInt l src
  let x ← locateRmw .pair (2 * l.bytes) dest
  let d ← readLoc .pair (2 * l.bytes) x
  let y := uval l.bytes a
  if y = 0 then raise .dvz
  let q := uval (2 * l.bytes) d / y
  if 2 ^ l.bits ≤ q then
    writeLoc .pair (2 * l.bytes) x (← draw)
  else
    writeLoc .pair (2 * l.bytes) x (BitVec.ofNat 64 (q * 2 ^ l.bits + uval (2 * l.bytes) d % y))
  return .seq

/-- The Z, N and L bits of a comparison of a first and a second operand of `n` bytes (R473). -/
def State.compare (s : State) (n : Nat) (a b : QWord) : State :=
  s.setZNL (uval n a == uval n b) (sval n b < sval n a) (uval n b < uval n a)

/-- CMPi (R473). -/
def cmpBody (l : Len) (src1 src2 : Gen) : Act Next := do
  let a ← readInt l src1
  let b ← readInt l src2
  modify fun s => s.compare l.bytes a b
  return .seq

/-- CMPQi (R474). -/
def cmpqBody (l : Len) (a : QWord) (src2 : Gen) : Act Next := do
  let b ← readInt l src2
  modify fun s => s.compare l.bytes a b
  return .seq

/-! ### The instructions -/

/-- ADDB (R454). -/
def execAddb (gen1 gen2 : Gen) (s : State) : Result := perform (size2 2 1 1 gen1 gen2) (addBody .b false gen1 gen2) s

/-- ADDW (R454). -/
def execAddw (gen1 gen2 : Gen) (s : State) : Result := perform (size2 2 2 2 gen1 gen2) (addBody .w false gen1 gen2) s

/-- ADDD (R454). -/
def execAddd (gen1 gen2 : Gen) (s : State) : Result := perform (size2 2 4 4 gen1 gen2) (addBody .d false gen1 gen2) s

/-- ADDQB (R455). -/
def execAddqb (quick : BitVec 4) (gen : Gen) (s : State) : Result :=
  perform (size1 2 1 gen) (addTo .b false (quickValue .b quick) gen) s

/-- ADDQW (R455). -/
def execAddqw (quick : BitVec 4) (gen : Gen) (s : State) : Result :=
  perform (size1 2 2 gen) (addTo .w false (quickValue .w quick) gen) s

/-- ADDQD (R455). -/
def execAddqd (quick : BitVec 4) (gen : Gen) (s : State) : Result :=
  perform (size1 2 4 gen) (addTo .d false (quickValue .d quick) gen) s

/-- ADDCB (R456). -/
def execAddcb (gen1 gen2 : Gen) (s : State) : Result := perform (size2 2 1 1 gen1 gen2) (addBody .b true gen1 gen2) s

/-- ADDCW (R456). -/
def execAddcw (gen1 gen2 : Gen) (s : State) : Result := perform (size2 2 2 2 gen1 gen2) (addBody .w true gen1 gen2) s

/-- ADDCD (R456). -/
def execAddcd (gen1 gen2 : Gen) (s : State) : Result := perform (size2 2 4 4 gen1 gen2) (addBody .d true gen1 gen2) s

/-- SUBB (R457). -/
def execSubb (gen1 gen2 : Gen) (s : State) : Result := perform (size2 2 1 1 gen1 gen2) (subBody .b false gen1 gen2) s

/-- SUBW (R457). -/
def execSubw (gen1 gen2 : Gen) (s : State) : Result := perform (size2 2 2 2 gen1 gen2) (subBody .w false gen1 gen2) s

/-- SUBD (R457). -/
def execSubd (gen1 gen2 : Gen) (s : State) : Result := perform (size2 2 4 4 gen1 gen2) (subBody .d false gen1 gen2) s

/-- SUBCB (R458). -/
def execSubcb (gen1 gen2 : Gen) (s : State) : Result := perform (size2 2 1 1 gen1 gen2) (subBody .b true gen1 gen2) s

/-- SUBCW (R458). -/
def execSubcw (gen1 gen2 : Gen) (s : State) : Result := perform (size2 2 2 2 gen1 gen2) (subBody .w true gen1 gen2) s

/-- SUBCD (R458). -/
def execSubcd (gen1 gen2 : Gen) (s : State) : Result := perform (size2 2 4 4 gen1 gen2) (subBody .d true gen1 gen2) s

/-- NEGB (R459). -/
def execNegb (gen1 gen2 : Gen) (s : State) : Result := perform (size2 3 1 1 gen1 gen2) (negBody .b gen1 gen2) s

/-- NEGW (R459). -/
def execNegw (gen1 gen2 : Gen) (s : State) : Result := perform (size2 3 2 2 gen1 gen2) (negBody .w gen1 gen2) s

/-- NEGD (R459). -/
def execNegd (gen1 gen2 : Gen) (s : State) : Result := perform (size2 3 4 4 gen1 gen2) (negBody .d gen1 gen2) s

/-- ABSB (R460). -/
def execAbsb (gen1 gen2 : Gen) (s : State) : Result := perform (size2 3 1 1 gen1 gen2) (absBody .b gen1 gen2) s

/-- ABSW (R460). -/
def execAbsw (gen1 gen2 : Gen) (s : State) : Result := perform (size2 3 2 2 gen1 gen2) (absBody .w gen1 gen2) s

/-- ABSD (R460). -/
def execAbsd (gen1 gen2 : Gen) (s : State) : Result := perform (size2 3 4 4 gen1 gen2) (absBody .d gen1 gen2) s

/-- MULB (R461). -/
def execMulb (gen1 gen2 : Gen) (s : State) : Result :=
  perform (size2 3 1 1 gen1 gen2) (binaryBody .b (product 1) gen1 gen2) s

/-- MULW (R461). -/
def execMulw (gen1 gen2 : Gen) (s : State) : Result :=
  perform (size2 3 2 2 gen1 gen2) (binaryBody .w (product 2) gen1 gen2) s

/-- MULD (R461). -/
def execMuld (gen1 gen2 : Gen) (s : State) : Result :=
  perform (size2 3 4 4 gen1 gen2) (binaryBody .d (product 4) gen1 gen2) s

/-- MEIB (R462). -/
def execMeib (gen1 gen2 : Gen) (s : State) : Result := perform (size2 3 1 2 gen1 gen2) (meiBody .b gen1 gen2) s

/-- MEIW (R462). -/
def execMeiw (gen1 gen2 : Gen) (s : State) : Result := perform (size2 3 2 4 gen1 gen2) (meiBody .w gen1 gen2) s

/-- MEID (R462). -/
def execMeid (gen1 gen2 : Gen) (s : State) : Result := perform (size2 3 4 8 gen1 gen2) (meiBody .d gen1 gen2) s

/-- DIVB (R464). -/
def execDivb (gen1 gen2 : Gen) (s : State) : Result :=
  perform (size2 3 1 1 gen1 gen2) (divideBody .b true Int.fdiv gen1 gen2) s

/-- DIVW (R464). -/
def execDivw (gen1 gen2 : Gen) (s : State) : Result :=
  perform (size2 3 2 2 gen1 gen2) (divideBody .w true Int.fdiv gen1 gen2) s

/-- DIVD (R464). -/
def execDivd (gen1 gen2 : Gen) (s : State) : Result :=
  perform (size2 3 4 4 gen1 gen2) (divideBody .d true Int.fdiv gen1 gen2) s

/-- MODB (R465). -/
def execModb (gen1 gen2 : Gen) (s : State) : Result :=
  perform (size2 3 1 1 gen1 gen2) (divideBody .b false Int.fmod gen1 gen2) s

/-- MODW (R465). -/
def execModw (gen1 gen2 : Gen) (s : State) : Result :=
  perform (size2 3 2 2 gen1 gen2) (divideBody .w false Int.fmod gen1 gen2) s

/-- MODD (R465). -/
def execModd (gen1 gen2 : Gen) (s : State) : Result :=
  perform (size2 3 4 4 gen1 gen2) (divideBody .d false Int.fmod gen1 gen2) s

/-- QUOB (R466). -/
def execQuob (gen1 gen2 : Gen) (s : State) : Result :=
  perform (size2 3 1 1 gen1 gen2) (divideBody .b true Int.tdiv gen1 gen2) s

/-- QUOW (R466). -/
def execQuow (gen1 gen2 : Gen) (s : State) : Result :=
  perform (size2 3 2 2 gen1 gen2) (divideBody .w true Int.tdiv gen1 gen2) s

/-- QUOD (R466). -/
def execQuod (gen1 gen2 : Gen) (s : State) : Result :=
  perform (size2 3 4 4 gen1 gen2) (divideBody .d true Int.tdiv gen1 gen2) s

/-- REMB (R467). -/
def execRemb (gen1 gen2 : Gen) (s : State) : Result :=
  perform (size2 3 1 1 gen1 gen2) (divideBody .b false Int.tmod gen1 gen2) s

/-- REMW (R467). -/
def execRemw (gen1 gen2 : Gen) (s : State) : Result :=
  perform (size2 3 2 2 gen1 gen2) (divideBody .w false Int.tmod gen1 gen2) s

/-- REMD (R467). -/
def execRemd (gen1 gen2 : Gen) (s : State) : Result :=
  perform (size2 3 4 4 gen1 gen2) (divideBody .d false Int.tmod gen1 gen2) s

/-- DEIB (R468). -/
def execDeib (gen1 gen2 : Gen) (s : State) : Result := perform (size2 3 1 2 gen1 gen2) (deiBody .b gen1 gen2) s

/-- DEIW (R468). -/
def execDeiw (gen1 gen2 : Gen) (s : State) : Result := perform (size2 3 2 4 gen1 gen2) (deiBody .w gen1 gen2) s

/-- DEID (R468). -/
def execDeid (gen1 gen2 : Gen) (s : State) : Result := perform (size2 3 4 8 gen1 gen2) (deiBody .d gen1 gen2) s

/-- MOVB (R469). -/
def execMovb (gen1 gen2 : Gen) (s : State) : Result :=
  perform (size2 2 1 1 gen1 gen2) (convertBody 1 1 id gen1 gen2) s

/-- MOVW (R469). -/
def execMovw (gen1 gen2 : Gen) (s : State) : Result :=
  perform (size2 2 2 2 gen1 gen2) (convertBody 2 2 id gen1 gen2) s

/-- MOVD (R469). -/
def execMovd (gen1 gen2 : Gen) (s : State) : Result :=
  perform (size2 2 4 4 gen1 gen2) (convertBody 4 4 id gen1 gen2) s

/-- MOVQB (R470). -/
def execMovqb (quick : BitVec 4) (gen : Gen) (s : State) : Result :=
  perform (size1 2 1 gen) (storeBody .b (quickValue .b quick) gen) s

/-- MOVQW (R470). -/
def execMovqw (quick : BitVec 4) (gen : Gen) (s : State) : Result :=
  perform (size1 2 2 gen) (storeBody .w (quickValue .w quick) gen) s

/-- MOVQD (R470). -/
def execMovqd (quick : BitVec 4) (gen : Gen) (s : State) : Result :=
  perform (size1 2 4 gen) (storeBody .d (quickValue .d quick) gen) s

/-- MOVXBW (R471). -/
def execMovxbw (gen1 gen2 : Gen) (s : State) : Result :=
  perform (size2 3 1 2 gen1 gen2) (convertBody 1 2 (fun v => narrow 2 (sval 1 v)) gen1 gen2) s

/-- MOVXBD (R471). -/
def execMovxbd (gen1 gen2 : Gen) (s : State) : Result :=
  perform (size2 3 1 4 gen1 gen2) (convertBody 1 4 (fun v => narrow 4 (sval 1 v)) gen1 gen2) s

/-- MOVXWD (R471). -/
def execMovxwd (gen1 gen2 : Gen) (s : State) : Result :=
  perform (size2 3 2 4 gen1 gen2) (convertBody 2 4 (fun v => narrow 4 (sval 2 v)) gen1 gen2) s

/-- MOVZBW (R472). -/
def execMovzbw (gen1 gen2 : Gen) (s : State) : Result :=
  perform (size2 3 1 2 gen1 gen2) (convertBody 1 2 (fun v => narrow 2 (uval 1 v)) gen1 gen2) s

/-- MOVZBD (R472). -/
def execMovzbd (gen1 gen2 : Gen) (s : State) : Result :=
  perform (size2 3 1 4 gen1 gen2) (convertBody 1 4 (fun v => narrow 4 (uval 1 v)) gen1 gen2) s

/-- MOVZWD (R472). -/
def execMovzwd (gen1 gen2 : Gen) (s : State) : Result :=
  perform (size2 3 2 4 gen1 gen2) (convertBody 2 4 (fun v => narrow 4 (uval 2 v)) gen1 gen2) s

/-- CMPB (R473). -/
def execCmpb (gen1 gen2 : Gen) (s : State) : Result := perform (size2 2 1 1 gen1 gen2) (cmpBody .b gen1 gen2) s

/-- CMPW (R473). -/
def execCmpw (gen1 gen2 : Gen) (s : State) : Result := perform (size2 2 2 2 gen1 gen2) (cmpBody .w gen1 gen2) s

/-- CMPD (R473). -/
def execCmpd (gen1 gen2 : Gen) (s : State) : Result := perform (size2 2 4 4 gen1 gen2) (cmpBody .d gen1 gen2) s

/-- CMPQB (R474). -/
def execCmpqb (quick : BitVec 4) (gen : Gen) (s : State) : Result :=
  perform (size1 2 1 gen) (cmpqBody .b (quickValue .b quick) gen) s

/-- CMPQW (R474). -/
def execCmpqw (quick : BitVec 4) (gen : Gen) (s : State) : Result :=
  perform (size1 2 2 gen) (cmpqBody .w (quickValue .w quick) gen) s

/-- CMPQD (R474). -/
def execCmpqd (quick : BitVec 4) (gen : Gen) (s : State) : Result :=
  perform (size1 2 4 gen) (cmpqBody .d (quickValue .d quick) gen) s

end Sys2Proof.Machine
end

