-- ==== Sys2Proof/Machine/ArraysDecimal.lean ====
section
/-! DEFINITION. Array instructions (spec/44_array.md) and packed decimal instructions (spec/49_packed_decimal.md). Operand
roles, the order of the bounds, signedness and the clearing of F by the decimal instructions are general knowledge (G5,
G12, G15): PRESUMED, log 28. -/

namespace Sys2Proof.Machine

/-- CHECKi (R341): the whole destination register takes the value less the lower bound; out of bounds it takes a free
value (U18, log 25). -/
def checkBody (l : Len) (dest : Reg) (bounds src : Gen) : Act Next := do
  let b ← addrOp bounds
  let upper ← memRead b l.bytes
  let lower ← memRead (b + l.bytes) l.bytes
  let v ← readInt l src
  if sval l.bytes lower ≤ sval l.bytes v ∧ sval l.bytes v ≤ sval l.bytes upper then
    modify fun s => (s.setFlag bitF false).setReg dest (BitVec.ofInt 32 (sval l.bytes v - sval l.bytes lower))
  else
    let free ← draw
    modify fun s => (s.setFlag bitF true).setReg dest (free.setWidth 32)
  return .seq

/-- INDEXi (R342), all unsigned. -/
def indexBody (l : Len) (accum : Reg) (length index : Gen) : Act Next := do
  let a ← readInt l length
  let b ← readInt l index
  modify fun s =>
    s.setReg accum (BitVec.ofNat 32 ((s.reg accum).toNat * (uval l.bytes a + 1) + uval l.bytes b))
  return .seq

/-! ### Packed decimal -/

/-- Digit `j` of a packed decimal number (R500). -/
def bcdDigit (v : QWord) (j : Nat) : Nat := (v.extractLsb' (4 * j) 4).toNat

/-- Whether the low `k` digits are all 0 to 9 (R500). -/
def bcdLegal (v : QWord) (k : Nat) : Bool := (List.range k).all fun j => bcdDigit v j ≤ 9

/-- `bcd_val` of R500: the value of the low `k` digits. -/
def bcdVal (v : QWord) : Nat → Nat
  | 0 => 0
  | k + 1 => bcdVal v k + bcdDigit v k * 10 ^ k

/-- `bcd_enc` of R500: the `k`-digit pattern of a number. -/
def bcdEnc (x : Nat) : Nat → QWord
  | 0 => 0
  | k + 1 => bcdEnc x k ||| BitVec.ofNat 64 (x / 10 ^ k % 10 * 2 ^ (4 * k))

/-- ADDPi and SUBPi (R501, R502): `f` gives the exact sum or difference from operand B, operand A and C. With an illegal
digit the result and C are free values (U17, log 25). -/
def decimalBody (l : Len) (f : Int → Int → Int → Int) (src dest : Gen) : Act Next := do
  let k := 2 * l.bytes
  let a ← readInt l src
  let x ← locateRmw .int l.bytes dest
  let b ← readLoc .int l.bytes x
  if bcdLegal a k && bcdLegal b k then
    let t := f (bcdVal b k) (bcdVal a k) ((← get).flag bitC).toNat
    writeInt l x (bcdEnc (t % 10 ^ k).toNat k)
    modify fun s => s.setCF (t < 0 || 10 ^ k ≤ t) false
  else
    writeInt l x (← draw)
    let c ← draw
    modify fun s => s.setCF (c.getLsbD 0) false
  return .seq

/-! ### The instructions -/

/-- CHECKB (R341). -/
def execCheckb (reg : Reg) (gen1 gen2 : Gen) (s : State) : Result :=
  perform (size2 3 0 1 gen1 gen2) (checkBody .b reg gen1 gen2) s

/-- CHECKW (R341). -/
def execCheckw (reg : Reg) (gen1 gen2 : Gen) (s : State) : Result :=
  perform (size2 3 0 2 gen1 gen2) (checkBody .w reg gen1 gen2) s

/-- CHECKD (R341). -/
def execCheckd (reg : Reg) (gen1 gen2 : Gen) (s : State) : Result :=
  perform (size2 3 0 4 gen1 gen2) (checkBody .d reg gen1 gen2) s

/-- INDEXB (R342). -/
def execIndexb (reg : Reg) (gen1 gen2 : Gen) (s : State) : Result :=
  perform (size2 3 1 1 gen1 gen2) (indexBody .b reg gen1 gen2) s

/-- INDEXW (R342). -/
def execIndexw (reg : Reg) (gen1 gen2 : Gen) (s : State) : Result :=
  perform (size2 3 2 2 gen1 gen2) (indexBody .w reg gen1 gen2) s

/-- INDEXD (R342). -/
def execIndexd (reg : Reg) (gen1 gen2 : Gen) (s : State) : Result :=
  perform (size2 3 4 4 gen1 gen2) (indexBody .d reg gen1 gen2) s

/-- ADDPB (R501). -/
def execAddpb (gen1 gen2 : Gen) (s : State) : Result :=
  perform (size2 3 1 1 gen1 gen2) (decimalBody .b (fun b a c => b + a + c) gen1 gen2) s

/-- ADDPW (R501). -/
def execAddpw (gen1 gen2 : Gen) (s : State) : Result :=
  perform (size2 3 2 2 gen1 gen2) (decimalBody .w (fun b a c => b + a + c) gen1 gen2) s

/-- ADDPD (R501). -/
def execAddpd (gen1 gen2 : Gen) (s : State) : Result :=
  perform (size2 3 4 4 gen1 gen2) (decimalBody .d (fun b a c => b + a + c) gen1 gen2) s

/-- SUBPB (R502). -/
def execSubpb (gen1 gen2 : Gen) (s : State) : Result :=
  perform (size2 3 1 1 gen1 gen2) (decimalBody .b (fun b a c => b - a - c) gen1 gen2) s

/-- SUBPW (R502). -/
def execSubpw (gen1 gen2 : Gen) (s : State) : Result :=
  perform (size2 3 2 2 gen1 gen2) (decimalBody .w (fun b a c => b - a - c) gen1 gen2) s

/-- SUBPD (R502). -/
def execSubpd (gen1 gen2 : Gen) (s : State) : Result :=
  perform (size2 3 4 4 gen1 gen2) (decimalBody .d (fun b a c => b - a - c) gen1 gen2) s

end Sys2Proof.Machine
end

