-- ==== Sys2Proof/Machine/BitField.lean ====
section
/-! DEFINITION. Bit and bit-field instructions (spec/42_bit_bitfield.md). The operand roles of FFSi and CVTP, the zero
extension of extracted fields and the flags left alone are general knowledge (G5, G10, G12, G16, G17, G30): PRESUMED,
log 28. -/

namespace Sys2Proof.Machine

/-- A bit, or the least significant bit of a bit field: bit `k` of a register, or bit `k` of the byte at an address. -/
inductive BitLoc
  | reg (r : Reg) (k : Nat)
  | mem (a : Int) (k : Nat)
deriving DecidableEq, Repr, Inhabited

/-- `bit_loc(base, off)` (R281, R282), also for a field's least significant bit (R295 to R297); in a register, `len` bits
from there on must be inside it (U12). -/
def locateBit (base : Gen) (off : Int) (len : Nat) : Act BitLoc :=
  match base with
  | .base (.reg r) => do
    ensure (0 ≤ off && off + len ≤ 32) .bitLocation
    return .reg r off.toNat
  | _ => do
    let a ← addrOp base
    return .mem (a + Int.fdiv off 8) (Int.fmod off 8).toNat

/-! ### Bit instructions -/

/-- A bit instruction (R280 to R289): F takes the old bit, then the bit takes `change` of it; TBITi writes nothing. -/
def bitBody (l : Len) (change : Option (Bool → Bool)) (offset base : Gen) : Act Next := do
  let off ← readInt l offset
  match ← locateBit base (sval l.bytes off) 1 with
  | .reg r k => do
    let v := (← get).reg r
    modify fun s => s.setFlag bitF (v.getLsbD k)
    match change with
    | none => return .seq
    | some f =>
      modify fun s => s.setReg r (if f (v.getLsbD k) then v ||| (1#32 <<< k) else v &&& ~~~(1#32 <<< k))
      return .seq
  | .mem a k => do
    let v ← memRead a 1
    modify fun s => s.setFlag bitF (v.getLsbD k)
    match change with
    | none => return .seq
    | some f =>
      memWrite a 1 (if f (v.getLsbD k) then v ||| (1#64 <<< k) else v &&& ~~~(1#64 <<< k))
      return .seq

/-- The least bit set in a value from bit `o` on, below bit `w` (R290). -/
def firstSet (v : QWord) (w o : Nat) : Option Nat := (List.range w).find? fun k => o ≤ k && v.getLsbD k

/-- FFSi (R290); its reg field must be zero (U41). -/
def ffsBody (l : Len) (unused : BitVec 3) (base offset : Gen) : Act Next := do
  mustBeZero unused
  let v ← readInt l base
  let x ← locateRmw .int 1 offset
  let o ← readLoc .int 1 x
  match firstSet v l.bits (uval 1 o) with
  | some k =>
    writeLoc .int 1 x (BitVec.ofNat 64 k)
    modify fun s => s.setFlag bitF false
  | none =>
    writeLoc .int 1 x 0
    modify fun s => s.setFlag bitF true
  return .seq

/-- CVTP (R291). -/
def cvtpBody (offset : Reg) (base dest : Gen) : Act Next := do
  let off := ((← get).reg offset).toInt
  let a ← addrOp base
  let x ← locateWrite .int 4 dest
  writeLoc .int 4 x (narrow 4 (8 * a + off))
  return .seq

/-! ### Bit-field instructions -/

/-- `len` bits of a double-word from bit `k` on, as a number. -/
def fieldOf (d : DWord) (k len : Nat) : Nat := d.toNat / 2 ^ k % 2 ^ len

/-- A double-word with `len` bits from bit `k` on replaced by the low bits of a number. -/
def putField (d : DWord) (k len x : Nat) : DWord :=
  let m : DWord := BitVec.ofNat 32 ((2 ^ len - 1) * 2 ^ k)
  (d &&& ~~~m) ||| (BitVec.ofNat 32 (x * 2 ^ k) &&& m)

/-- A field of memory lies in four contiguous bytes (R297 NOTES 1, U12). -/
def fieldInDouble (k len : Nat) : Act Unit := ensure (k + len ≤ 32) .bitLocation

/-- `field_read(base, off, len)` (R296, R297). -/
def fieldRead (base : Gen) (off : Int) (len : Nat) : Act Nat := do
  match ← locateBit base off len with
  | .reg r k => return fieldOf ((← get).reg r) k len
  | .mem a k => do
    fieldInDouble k len
    let d ← memRead a 4
    return fieldOf (d.setWidth 32) k len

/-- `field_write(base, off, len, x)` (R296, R297): in memory a whole double-word is read and rewritten. -/
def fieldWrite (base : Gen) (off : Int) (len : Nat) (x : Nat) : Act Unit := do
  match ← locateBit base off len with
  | .reg r k => modify fun s => s.setReg r (putField (s.reg r) k len x)
  | .mem a k => do
    fieldInDouble k len
    let d ← memRead a 4
    memWrite a 4 ((putField (d.setWidth 32) k len x).setWidth 64)

/-- EXTi and EXTSi (R299, R300): the field right-justified, bits above the destination's length dropped. -/
def extractBody (l : Len) (off : Act Int) (len : Nat) (base dest : Gen) : Act Next := do
  let v ← fieldRead base (← off) len
  let x ← locateWrite .int l.bytes dest
  writeInt l x (narrow l.bytes v)
  return .seq

/-- INSi and INSSi (R301, R302): the low `len` bits of the source; the bits a longer field has above the source's length
are free values (U26, log 25). -/
def insertBody (l : Len) (off : Act Int) (len : Nat) (src base : Gen) : Act Next := do
  let v ← readInt l src
  let o ← off
  if len ≤ l.bits then
    fieldWrite base o len (uval l.bytes v)
  else do
    let free ← draw
    fieldWrite base o len (uval l.bytes v + free.toNat % 2 ^ 32 * 2 ^ l.bits)
  return .seq

/-- The offset of EXTi and INSi: a whole general register, signed (R295). -/
def offsetOf (r : Reg) : Act Int := do return ((← get).reg r).toInt

/-- The length of EXTi and INSi, from its displacement (R173, U10). -/
def fieldLength (d : Disp) : Act Nat := do
  let n ← dispValue d
  ensure (1 ≤ n && n ≤ 32) .fieldLength
  return n.toNat

/-- EXTi (R299). -/
def extBody (l : Len) (offset : Reg) (base dest : Gen) (length : Disp) : Act Next := do
  let len ← fieldLength length
  extractBody l (offsetOf offset) len base dest

/-- INSi (R301). -/
def insBody (l : Len) (offset : Reg) (src base : Gen) (length : Disp) : Act Next := do
  let len ← fieldLength length
  insertBody l (offsetOf offset) len src base

/-! ### The instructions -/

/-- TBITB (R284). -/
def execTbitb (gen1 gen2 : Gen) (s : State) : Result := perform (size2 2 1 0 gen1 gen2) (bitBody .b none gen1 gen2) s

/-- TBITW (R284). -/
def execTbitw (gen1 gen2 : Gen) (s : State) : Result := perform (size2 2 2 0 gen1 gen2) (bitBody .w none gen1 gen2) s

/-- TBITD (R284). -/
def execTbitd (gen1 gen2 : Gen) (s : State) : Result := perform (size2 2 4 0 gen1 gen2) (bitBody .d none gen1 gen2) s

/-- SBITB (R285). -/
def execSbitb (gen1 gen2 : Gen) (s : State) : Result :=
  perform (size2 3 1 0 gen1 gen2) (bitBody .b (some fun _ => true) gen1 gen2) s

/-- SBITW (R285). -/
def execSbitw (gen1 gen2 : Gen) (s : State) : Result :=
  perform (size2 3 2 0 gen1 gen2) (bitBody .w (some fun _ => true) gen1 gen2) s

/-- SBITD (R285). -/
def execSbitd (gen1 gen2 : Gen) (s : State) : Result :=
  perform (size2 3 4 0 gen1 gen2) (bitBody .d (some fun _ => true) gen1 gen2) s

/-- SBITIB (R286). -/
def execSbitib (gen1 gen2 : Gen) (s : State) : Result :=
  perform (size2 3 1 0 gen1 gen2) (bitBody .b (some fun _ => true) gen1 gen2) s

/-- SBITIW (R286). -/
def execSbitiw (gen1 gen2 : Gen) (s : State) : Result :=
  perform (size2 3 2 0 gen1 gen2) (bitBody .w (some fun _ => true) gen1 gen2) s

/-- SBITID (R286). -/
def execSbitid (gen1 gen2 : Gen) (s : State) : Result :=
  perform (size2 3 4 0 gen1 gen2) (bitBody .d (some fun _ => true) gen1 gen2) s

/-- CBITB (R287). -/
def execCbitb (gen1 gen2 : Gen) (s : State) : Result :=
  perform (size2 3 1 0 gen1 gen2) (bitBody .b (some fun _ => false) gen1 gen2) s

/-- CBITW (R287). -/
def execCbitw (gen1 gen2 : Gen) (s : State) : Result :=
  perform (size2 3 2 0 gen1 gen2) (bitBody .w (some fun _ => false) gen1 gen2) s

/-- CBITD (R287). -/
def execCbitd (gen1 gen2 : Gen) (s : State) : Result :=
  perform (size2 3 4 0 gen1 gen2) (bitBody .d (some fun _ => false) gen1 gen2) s

/-- CBITIB (R288). -/
def execCbitib (gen1 gen2 : Gen) (s : State) : Result :=
  perform (size2 3 1 0 gen1 gen2) (bitBody .b (some fun _ => false) gen1 gen2) s

/-- CBITIW (R288). -/
def execCbitiw (gen1 gen2 : Gen) (s : State) : Result :=
  perform (size2 3 2 0 gen1 gen2) (bitBody .w (some fun _ => false) gen1 gen2) s

/-- CBITID (R288). -/
def execCbitid (gen1 gen2 : Gen) (s : State) : Result :=
  perform (size2 3 4 0 gen1 gen2) (bitBody .d (some fun _ => false) gen1 gen2) s

/-- IBITB (R289). -/
def execIbitb (gen1 gen2 : Gen) (s : State) : Result :=
  perform (size2 3 1 0 gen1 gen2) (bitBody .b (some not) gen1 gen2) s

/-- IBITW (R289). -/
def execIbitw (gen1 gen2 : Gen) (s : State) : Result :=
  perform (size2 3 2 0 gen1 gen2) (bitBody .w (some not) gen1 gen2) s

/-- IBITD (R289). -/
def execIbitd (gen1 gen2 : Gen) (s : State) : Result :=
  perform (size2 3 4 0 gen1 gen2) (bitBody .d (some not) gen1 gen2) s

/-- FFSB (R290). -/
def execFfsb (gen1 gen2 : Gen) (unused : BitVec 3) (s : State) : Result :=
  perform (size2 3 1 1 gen1 gen2) (ffsBody .b unused gen1 gen2) s

/-- FFSW (R290). -/
def execFfsw (gen1 gen2 : Gen) (unused : BitVec 3) (s : State) : Result :=
  perform (size2 3 2 1 gen1 gen2) (ffsBody .w unused gen1 gen2) s

/-- FFSD (R290). -/
def execFfsd (gen1 gen2 : Gen) (unused : BitVec 3) (s : State) : Result :=
  perform (size2 3 4 1 gen1 gen2) (ffsBody .d unused gen1 gen2) s

/-- CVTP (R291). -/
def execCvtp (reg : Reg) (gen1 gen2 : Gen) (s : State) : Result :=
  perform (size2 3 0 4 gen1 gen2) (cvtpBody reg gen1 gen2) s

/-- EXTB (R299). -/
def execExtb (reg : Reg) (gen1 gen2 : Gen) (length : Disp) (s : State) : Result :=
  perform (size2 3 0 1 gen1 gen2 + length.size) (extBody .b reg gen1 gen2 length) s

/-- EXTW (R299). -/
def execExtw (reg : Reg) (gen1 gen2 : Gen) (length : Disp) (s : State) : Result :=
  perform (size2 3 0 2 gen1 gen2 + length.size) (extBody .w reg gen1 gen2 length) s

/-- EXTD (R299). -/
def execExtd (reg : Reg) (gen1 gen2 : Gen) (length : Disp) (s : State) : Result :=
  perform (size2 3 0 4 gen1 gen2 + length.size) (extBody .d reg gen1 gen2 length) s

/-- INSB (R301). -/
def execInsb (reg : Reg) (gen1 gen2 : Gen) (length : Disp) (s : State) : Result :=
  perform (size2 3 1 0 gen1 gen2 + length.size) (insBody .b reg gen1 gen2 length) s

/-- INSW (R301). -/
def execInsw (reg : Reg) (gen1 gen2 : Gen) (length : Disp) (s : State) : Result :=
  perform (size2 3 2 0 gen1 gen2 + length.size) (insBody .w reg gen1 gen2 length) s

/-- INSD (R301). -/
def execInsd (reg : Reg) (gen1 gen2 : Gen) (length : Disp) (s : State) : Result :=
  perform (size2 3 4 0 gen1 gen2 + length.size) (insBody .d reg gen1 gen2 length) s

/-- EXTSB (R300). -/
def execExtsb (gen1 gen2 : Gen) (offset : BitVec 3) (lengthM1 : BitVec 5) (s : State) : Result :=
  perform (size2 3 0 1 gen1 gen2 + 1) (extractBody .b (return offset.toNat) (lengthM1.toNat + 1) gen1 gen2) s

/-- EXTSW (R300). -/
def execExtsw (gen1 gen2 : Gen) (offset : BitVec 3) (lengthM1 : BitVec 5) (s : State) : Result :=
  perform (size2 3 0 2 gen1 gen2 + 1) (extractBody .w (return offset.toNat) (lengthM1.toNat + 1) gen1 gen2) s

/-- EXTSD (R300). -/
def execExtsd (gen1 gen2 : Gen) (offset : BitVec 3) (lengthM1 : BitVec 5) (s : State) : Result :=
  perform (size2 3 0 4 gen1 gen2 + 1) (extractBody .d (return offset.toNat) (lengthM1.toNat + 1) gen1 gen2) s

/-- INSSB (R302). -/
def execInssb (gen1 gen2 : Gen) (offset : BitVec 3) (lengthM1 : BitVec 5) (s : State) : Result :=
  perform (size2 3 1 0 gen1 gen2 + 1) (insertBody .b (return offset.toNat) (lengthM1.toNat + 1) gen1 gen2) s

/-- INSSW (R302). -/
def execInssw (gen1 gen2 : Gen) (offset : BitVec 3) (lengthM1 : BitVec 5) (s : State) : Result :=
  perform (size2 3 2 0 gen1 gen2 + 1) (insertBody .w (return offset.toNat) (lengthM1.toNat + 1) gen1 gen2) s

/-- INSSD (R302). -/
def execInssd (gen1 gen2 : Gen) (offset : BitVec 3) (lengthM1 : BitVec 5) (s : State) : Result :=
  perform (size2 3 4 0 gen1 gen2 + 1) (insertBody .d (return offset.toNat) (lengthM1.toNat + 1) gen1 gen2) s

end Sys2Proof.Machine
end

