-- ==== Sys2Proof/Machine/Control.lean ====
section
/-! DEFINITION. Processor control instructions (spec/45_processor_control.md). Operand roles, the base of branch
displacements and the slots of the external call are general knowledge (G4 to G6, G11 to G13, G28): PRESUMED, log 28. -/

namespace Sys2Proof.Machine

/-- `PC + dest` (R350): relative to the instruction's own first byte. -/
def branchTarget (dest : Disp) : Act Int := do
  let d ← dispValue dest
  return (← get).pc.toNat + d

/-- Bcond and BR (R352, R353): the displacement is used only by a branch that is taken (logs 16 and 27). -/
def branchBody (code : BitVec 4) (dest : Disp) : Act Next := do
  if condition (← get).psr code then return .jump (← branchTarget dest) else return .seq

/-- JUMP (R351). -/
def jumpBody (dest : Gen) : Act Next := do return .jump (← addrOp dest)

/-- CASEi (R354). -/
def caseBody (l : Len) (index : Gen) : Act Next := do
  let v ← readInt l index
  return .jump ((← get).pc.toNat + sval l.bytes v)

/-- ACBi (R355). -/
def acbBody (l : Len) (inc : BitVec 4) (index : Gen) (dest : Disp) : Act Next := do
  let x ← locateRmw .int l.bytes index
  let b ← readLoc .int l.bytes x
  let v := narrow l.bytes (uval l.bytes b + uval l.bytes (quickValue l inc))
  writeInt l x v
  if uval l.bytes v = 0 then return .seq else return .jump (← branchTarget dest)

/-- JSR (R356): the target is computed before the return address is pushed. -/
def jsrBody (length : Nat) (dest : Gen) : Act Next := do
  let t ← addrOp dest
  push 4 (BitVec.ofInt 64 (← nextAddress length))
  return .jump t

/-- BSR (R357). -/
def bsrBody (length : Nat) (dest : Disp) : Act Next := do
  let t ← branchTarget dest
  push 4 (BitVec.ofInt 64 (← nextAddress length))
  return .jump t

/-- The selected stack pointer moved by a displacement (R358, R362). -/
def discard (constant : Int) : Act Unit := do moveSp ((← get).sp.toNat + constant)

/-- RET (R358). -/
def retBody (constant : Disp) : Act Next := do
  let c ← dispValue constant
  let a ← pop 4
  discard c
  return .jump (uval 4 a)

/-- `xcall(desc)` (R359): MOD is stored in the low half of a slot of four bytes, whose upper half is not written (D31, log
39). -/
def externalCall (length : Nat) (desc : QWord) : Act Next := do
  let next ← nextAddress length
  pushSlot 4 2 ((← get).mod.setWidth 64)
  push 4 (BitVec.ofInt 64 next)
  return .jump (← enterModule desc)

/-- CXP (R360): the descriptor is read before anything is pushed. -/
def cxpBody (length : Nat) (index : Disp) : Act Next := do
  let k ← dispValue index
  let desc ← linkEntry k
  externalCall length desc

/-- CXPD (R361). -/
def cxpdBody (length : Nat) (desc : Gen) : Act Next := do
  let a ← addrOp desc
  let d ← memRead a 4
  externalCall length d

/-- RXP (R362). -/
def rxpBody (constant : Disp) : Act Next := do
  let c ← dispValue constant
  let a ← pop 4
  let m ← memRead (← get).sp.toNat 2
  moveSp ((← get).sp.toNat + 4)
  modify fun s => { s with mod := m.setWidth 16 }
  reloadSb
  discard c
  return .jump (uval 4 a)

/-- FLAG (R364). -/
def flagBody : Act Next := do
  if (← get).flag bitF then raise .flg
  return .seq

/-- RETT (R366). -/
def rettBody (constant : Disp) : Act Next := do
  privileged
  let c ← dispValue constant
  return .jump (← returnFrame c)

/-- The End of Interrupt reads of RETI (R367): a negative byte names a cascaded ICU (U19). -/
def endOfInterrupt : Act Unit := do
  let b ← ioRead .endOfInterrupt intAddress
  if b.toInt < 0 then
    ensure (-16 ≤ b.toInt) .cascadeIndex
    let ca ← memRead ((← get).intbase.toNat + 4 * b.toInt) 4
    let _ ← ioRead .endOfInterrupt (uval 4 ca)

/-- RETI (R367). -/
def retiBody : Act Next := do
  privileged
  endOfInterrupt
  return .jump (← returnFrame 0)

/-! ### The instructions -/

/-- BEQ (R352). -/
def execBeq (dest : Disp) (s : State) : Result := perform (1 + dest.size) (branchBody 0x0 dest) s

/-- BNE (R352). -/
def execBne (dest : Disp) (s : State) : Result := perform (1 + dest.size) (branchBody 0x1 dest) s

/-- BCS (R352). -/
def execBcs (dest : Disp) (s : State) : Result := perform (1 + dest.size) (branchBody 0x2 dest) s

/-- BCC (R352). -/
def execBcc (dest : Disp) (s : State) : Result := perform (1 + dest.size) (branchBody 0x3 dest) s

/-- BHI (R352). -/
def execBhi (dest : Disp) (s : State) : Result := perform (1 + dest.size) (branchBody 0x4 dest) s

/-- BLS (R352). -/
def execBls (dest : Disp) (s : State) : Result := perform (1 + dest.size) (branchBody 0x5 dest) s

/-- BGT (R352). -/
def execBgt (dest : Disp) (s : State) : Result := perform (1 + dest.size) (branchBody 0x6 dest) s

/-- BLE (R352). -/
def execBle (dest : Disp) (s : State) : Result := perform (1 + dest.size) (branchBody 0x7 dest) s

/-- BFS (R352). -/
def execBfs (dest : Disp) (s : State) : Result := perform (1 + dest.size) (branchBody 0x8 dest) s

/-- BFC (R352). -/
def execBfc (dest : Disp) (s : State) : Result := perform (1 + dest.size) (branchBody 0x9 dest) s

/-- BLO (R352). -/
def execBlo (dest : Disp) (s : State) : Result := perform (1 + dest.size) (branchBody 0xA dest) s

/-- BHS (R352). -/
def execBhs (dest : Disp) (s : State) : Result := perform (1 + dest.size) (branchBody 0xB dest) s

/-- BLT (R352). -/
def execBlt (dest : Disp) (s : State) : Result := perform (1 + dest.size) (branchBody 0xC dest) s

/-- BGE (R352). -/
def execBge (dest : Disp) (s : State) : Result := perform (1 + dest.size) (branchBody 0xD dest) s

/-- BR (R353). -/
def execBr (dest : Disp) (s : State) : Result := perform (1 + dest.size) (branchBody 0xE dest) s

/-- Bcond_1111 (R352). -/
def execBcond1111 (dest : Disp) (s : State) : Result := perform (1 + dest.size) (branchBody 0xF dest) s

/-- JUMP (R351). -/
def execJump (gen : Gen) (s : State) : Result := perform (size1 2 0 gen) (jumpBody gen) s

/-- CASEB (R354). -/
def execCaseb (gen : Gen) (s : State) : Result := perform (size1 2 1 gen) (caseBody .b gen) s

/-- CASEW (R354). -/
def execCasew (gen : Gen) (s : State) : Result := perform (size1 2 2 gen) (caseBody .w gen) s

/-- CASED (R354). -/
def execCased (gen : Gen) (s : State) : Result := perform (size1 2 4 gen) (caseBody .d gen) s

/-- ACBB (R355). -/
def execAcbb (quick : BitVec 4) (gen : Gen) (dest : Disp) (s : State) : Result :=
  perform (size1 2 1 gen + dest.size) (acbBody .b quick gen dest) s

/-- ACBW (R355). -/
def execAcbw (quick : BitVec 4) (gen : Gen) (dest : Disp) (s : State) : Result :=
  perform (size1 2 2 gen + dest.size) (acbBody .w quick gen dest) s

/-- ACBD (R355). -/
def execAcbd (quick : BitVec 4) (gen : Gen) (dest : Disp) (s : State) : Result :=
  perform (size1 2 4 gen + dest.size) (acbBody .d quick gen dest) s

/-- JSR (R356). -/
def execJsr (gen : Gen) (s : State) : Result := perform (size1 2 0 gen) (jsrBody (size1 2 0 gen) gen) s

/-- BSR (R357). -/
def execBsr (dest : Disp) (s : State) : Result := perform (1 + dest.size) (bsrBody (1 + dest.size) dest) s

/-- RET (R358). -/
def execRet (constant : Disp) (s : State) : Result := perform (1 + constant.size) (retBody constant) s

/-- CXP (R360). -/
def execCxp (index : Disp) (s : State) : Result := perform (1 + index.size) (cxpBody (1 + index.size) index) s

/-- CXPD (R361). -/
def execCxpd (gen : Gen) (s : State) : Result := perform (size1 2 0 gen) (cxpdBody (size1 2 0 gen) gen) s

/-- RXP (R362). -/
def execRxp (constant : Disp) (s : State) : Result := perform (1 + constant.size) (rxpBody constant) s

/-- BPT (R363). -/
def execBpt (s : State) : Result := perform 1 (raise .bpt) s

/-- FLAG (R364). -/
def execFlag (s : State) : Result := perform 1 flagBody s

/-- SVC (R365). -/
def execSvc (s : State) : Result := perform 1 (raise .svc) s

/-- RETT (R366). -/
def execRett (constant : Disp) (s : State) : Result := perform (1 + constant.size) (rettBody constant) s

/-- RETI (R367). -/
def execReti (s : State) : Result := perform 1 retiBody s

end Sys2Proof.Machine
end

