-- ==== Sys2Proof/Machine/FloatingPoint.lean ====
section
/-! DEFINITION. Floating-point instructions (spec/40_floating_point.md). Values are exact fractions; one rounding at the end
(R210). The order of the fields of a number and the operand roles are general knowledge (G2, G3, G5, G12, G14): PRESUMED,
log 28. -/

namespace Sys2Proof.Machine

/-! ### Formats and values -/

/-- The width of the F field (R201). -/
def FLen.fracBits : FLen → Nat
  | .f => 23
  | .l => 52

/-- The width of the E field (R201). -/
def FLen.expBits : FLen → Nat
  | .f => 8
  | .l => 11

/-- The bias of the E field (R201). -/
def FLen.bias : FLen → Int
  | .f => 127
  | .l => 1023

/-- The least true exponent of a normalized number (R205). -/
def FLen.emin (y : FLen) : Int := 1 - FLen.bias y

/-- The greatest true exponent of a normalized number (R205). -/
def FLen.emax (y : FLen) : Int := FLen.bias y

/-- An exact value: a sign and the fraction `num / den`. A zero has `num` = 0 and keeps its sign (R206). -/
structure Exact where
  neg : Bool
  num : Nat
  den : Nat
deriving DecidableEq, Repr, Inhabited

/-- The S bit of a pattern (R201). -/
def signOf (y : FLen) (v : QWord) : Bool := v.getLsbD (FLen.expBits y + FLen.fracBits y)

/-- The E field of a pattern (R201). -/
def expOf (y : FLen) (v : QWord) : Nat := v.toNat / 2 ^ FLen.fracBits y % 2 ^ FLen.expBits y

/-- The F field of a pattern (R201). -/
def fracOf (y : FLen) (v : QWord) : Nat := v.toNat % 2 ^ FLen.fracBits y

/-- A pattern from its fields (R201). -/
def pattern (y : FLen) (neg : Bool) (e f : Nat) : QWord :=
  BitVec.ofNat 64 (neg.toNat * 2 ^ (FLen.expBits y + FLen.fracBits y) + e * 2 ^ FLen.fracBits y + f)

/-- `m * 2^k` as a fraction. -/
def scaled (neg : Bool) (m : Nat) (k : Int) : Exact :=
  if 0 ≤ k then { neg, num := m * 2 ^ k.toNat, den := 1 } else { neg, num := m, den := 2 ^ k.natAbs }

/-- `classify` of R207: the value of a pattern, or none for a Reserved operand. -/
def classify (y : FLen) (v : QWord) : Option Exact :=
  let e := expOf y v
  let f := fracOf y v
  if e = 2 ^ FLen.expBits y - 1 then none
  else if e = 0 then
    if f = 0 then some { neg := signOf y v, num := 0, den := 1 } else none
  else some (scaled (signOf y v) (2 ^ FLen.fracBits y + f) (e - FLen.bias y - FLen.fracBits y))

/-- The signed numerator. -/
def Exact.signed (x : Exact) : Int := if x.neg then -(x.num : Int) else x.num

/-- A fraction from a signed numerator. -/
def Exact.ofSigned (n : Int) (den : Nat) : Exact := { neg := n < 0, num := n.natAbs, den }

/-- The exact sum (R230). -/
def Exact.add (x y : Exact) : Exact := Exact.ofSigned (x.signed * y.den + y.signed * x.den) (x.den * y.den)

/-- The exact difference (R231). -/
def Exact.sub (x y : Exact) : Exact := Exact.ofSigned (x.signed * y.den - y.signed * x.den) (x.den * y.den)

/-- The exact product (R232). -/
def Exact.mul (x y : Exact) : Exact := { neg := x.neg != y.neg, num := x.num * y.num, den := x.den * y.den }

/-- The exact quotient by a non-zero value (R233). -/
def Exact.div (x y : Exact) : Exact := { neg := x.neg != y.neg, num := x.num * y.den, den := x.den * y.num }

/-! ### Rounding -/

/-- `floor(log2 x)` of a non-zero fraction (R210). -/
def floorLog2 (num den : Nat) : Int :=
  let e : Int := (num.log2 : Int) - den.log2
  if 0 ≤ e then (if num < den * 2 ^ e.toNat then e - 1 else e)
  else if num * 2 ^ e.natAbs < den then e - 1 else e

/-- `round_sig` of R210, on a fraction: the rounded significand. -/
def roundSig (num den : Nat) (rm : BitVec 2) (neg : Bool) : Nat :=
  let q := num / den
  let r := num % den
  let ceil := if r = 0 then q else q + 1
  match rm with
  | 0b00 => if 2 * r < den then q else if den < 2 * r then q + 1 else if q % 2 = 0 then q else q + 1
  | 0b01 => q
  | 0b10 => if neg then q else ceil
  | _ => if neg then ceil else q

/-- What `fp_round` of R210 answers: the exponent before rounding, the rounded exponent and significand, and whether the
value was altered. -/
structure Rounded where
  exact : Int
  exp : Int
  sig : Nat
  inexact : Bool
deriving DecidableEq, Repr, Inhabited

/-- `fp_round` of R210, of a non-zero value. -/
def fpRound (y : FLen) (x : Exact) (rm : BitVec 2) : Rounded :=
  let e := floorLog2 x.num x.den
  let k : Int := FLen.fracBits y - e
  let num := if 0 ≤ k then x.num * 2 ^ k.toNat else x.num
  let den := if 0 ≤ k then x.den else x.den * 2 ^ k.natAbs
  let m := roundSig num den rm x.neg
  let inexact := num % den != 0
  if m = 2 ^ (FLen.fracBits y + 1) then { exact := e, exp := e + 1, sig := 2 ^ FLen.fracBits y, inexact }
  else { exact := e, exp := e, sig := m, inexact }

/-- `tiny` of R212 (D9, log 10): judged before or after rounding, which differ only where rounding reaches `emin`. -/
def tiny (y : FLen) (r : Rounded) : Bool :=
  r.exp < FLen.emin y || (r.exact < FLen.emin y && Config.tinyBeforeRounding)

/-! ### Conditions and delivery -/

/-- `fpu_trap` of R211: the reason is left in TT before the trap is taken. -/
def fpuTrap {α : Type} (t : TrapType) : Act α := do
  modify fun s => { s with fsr := putTT s.fsr t.code }
  raise .fpu

/-- A status or mode bit of the FSR set (R56, R58). -/
def State.setFsrBit (s : State) (k : Nat) : State := { s with fsr := putBit s.fsr k true }

/-- The availability of the floating-point instructions (R200, D1). -/
def needsFpu : Act Unit := do
  let s ← get
  if !s.cfg.getLsbD 1 then raise .und
  if !s.platform.hasFpu then refuse .unitAbsent

/-- The end of R218's tail: an inexact result sets IF, and traps if IEN is set (R217). -/
def inexactResult (inexact : Bool) : Act Unit := do
  if inexact then
    modify fun s => s.setFsrBit bitIF
    if (← get).fsr.getLsbD bitIEN then fpuTrap .inexactResult

/-- `fp_deliver` of R218: the pattern of an exact value in a format, `zeroNeg` the sign of an exact zero. -/
def fpDeliver (y : FLen) (x : Exact) (zeroNeg : Bool) : Act QWord := do
  if x.num = 0 then return pattern y zeroNeg 0 0
  let r := fpRound y x (rounding (← get).fsr)
  if FLen.emax y < r.exp then fpuTrap .overflow
  if tiny y r then
    modify fun s => s.setFsrBit bitUF
    if (← get).fsr.getLsbD bitUEN then fpuTrap .underflow
    return 0
  inexactResult r.inexact
  return pattern y x.neg (r.exp + FLen.bias y).toNat (r.sig - 2 ^ FLen.fracBits y)

/-- The value of a source operand; a Reserved operand is an Invalid Operation (R216, R219). -/
def fpValue (y : FLen) (v : QWord) : Act Exact :=
  match classify y v with
  | some x => return x
  | none => fpuTrap .invalidOperation

/-! ### Arithmetic -/

/-- ADDf, SUBf, MULf and DIVf (R230 to R233): both operands are read before either is classified (R219). -/
def fpArith (op : ArithOp) (y : FLen) (src dest : Gen) : Act Next := do
  needsFpu
  let a ← readFloat y src
  let x ← locateRmw .float y.bytes dest
  let b ← readLoc .float y.bytes x
  let va ← fpValue y a
  let vb ← fpValue y b
  if op = .div ∧ va.num = 0 then
    if vb.num = 0 then fpuTrap .invalidOperation else fpuTrap .divideByZero
  let v := match op with
    | .add => vb.add va
    | .sub => vb.sub va
    | .mul => vb.mul va
    | .div => vb.div va
  let r ← fpDeliver y v (Config.fpZeroSign op y a b (rounding (← get).fsr))
  writeFloat y x r
  return .seq

/-- NEGf and ABSf (R234, R235): `sign` gives the new S bit from the old. -/
def fpSign (sign : Bool → Bool) (y : FLen) (src dest : Gen) : Act Next := do
  needsFpu
  let a ← readFloat y src
  let x ← locateWrite .float y.bytes dest
  let _ ← fpValue y a
  writeFloat y x (pattern y (sign (signOf y a)) (expOf y a) (fracOf y a))
  return .seq

/-- CMPf (R236). -/
def fpCompare (y : FLen) (src1 src2 : Gen) : Act Next := do
  needsFpu
  let a ← readFloat y src1
  let b ← readFloat y src2
  let va ← fpValue y a
  let vb ← fpValue y b
  let p := va.signed * vb.den
  let q := vb.signed * va.den
  modify fun s => s.setZNL (p == q) (q < p) false
  return .seq

/-- MOVf (R237): a copy of the bits, Reserved operands included. -/
def fpMove (y : FLen) (src dest : Gen) : Act Next := do
  needsFpu
  let a ← readFloat y src
  let x ← locateWrite .float y.bytes dest
  writeFloat y x a
  return .seq

/-! ### Conversions -/

/-- MOVLF (R238): a zero keeps its sign (D8). -/
def movlfBody (src dest : Gen) : Act Next := do
  needsFpu
  let a ← readFloat .l src
  let x ← locateWrite .float 4 dest
  let v ← fpValue .l a
  writeFloat .f x (← fpDeliver .f v v.neg)
  return .seq

/-- The Long pattern of the value of a Single pattern (R239). -/
def widen (a : QWord) : QWord :=
  if expOf .f a = 0 then pattern .l (signOf .f a) 0 0
  else pattern .l (signOf .f a) (expOf .f a + 896) (fracOf .f a * 2 ^ 29)

/-- MOVFL (R239). -/
def movflBody (src dest : Gen) : Act Next := do
  needsFpu
  let a ← readFloat .f src
  let x ← locateWrite .float 8 dest
  let _ ← fpValue .f a
  writeFloat .l x (widen a)
  return .seq

/-- MOVif (R240). -/
def fpFromInt (l : Len) (y : FLen) (src dest : Gen) : Act Next := do
  needsFpu
  let a ← readInt l src
  let x ← locateWrite .float y.bytes dest
  writeFloat y x (← fpDeliver y (Exact.ofSigned (sval l.bytes a) 1) false)
  return .seq

/-- The nearest integer to a fraction, by magnitude; an exact half goes to even or away from zero (R241, D13, log 11). -/
def roundNearest (x : Exact) : Nat :=
  let q := x.num / x.den
  let r := x.num % x.den
  if 2 * r < x.den then q
  else if x.den < 2 * r then q + 1
  else if q % 2 = 0 && !Config.roundTieAway then q else q + 1

/-- The integer ROUNDfi delivers (R241). -/
def roundInt (x : Exact) : Int := if x.neg then -(roundNearest x : Int) else roundNearest x

/-- The integer TRUNCfi delivers (R242). -/
def truncInt (x : Exact) : Int := if x.neg then -((x.num / x.den : Nat) : Int) else (x.num / x.den : Nat)

/-- The integer FLOORfi delivers (R243). -/
def floorInt (x : Exact) : Int := Int.fdiv x.signed x.den

/-- ROUNDfi, TRUNCfi and FLOORfi (R241 to R243): `f` gives the integer; `to_int` of R241 follows. -/
def fpToInt (f : Exact → Int) (y : FLen) (l : Len) (src dest : Gen) : Act Next := do
  needsFpu
  let a ← readFloat y src
  let x ← locateWrite .int l.bytes dest
  let v ← fpValue y a
  let n := f v
  if n < -(2 ^ (l.bits - 1)) ∨ 2 ^ (l.bits - 1) ≤ n then fpuTrap .overflow
  inexactResult (n * v.den != v.signed)
  writeInt l x (narrow l.bytes n)
  return .seq

/-! ### The FSR -/

/-- LFSR (R252): bits 31..16 are not retained (R61, D3). -/
def lfsrBody (src : Gen) (unused : BitVec 5) : Act Next := do
  needsFpu
  mustBeZero unused
  let v ← readInt .d src
  modify fun s => { s with fsr := v.setWidth 16 }
  return .seq

/-- SFSR (R253). -/
def sfsrBody (dest : Gen) (unused : BitVec 5) : Act Next := do
  needsFpu
  mustBeZero unused
  let v := (← get).fsr
  let x ← locateWrite .int 4 dest
  writeInt .d x (v.setWidth 64)
  return .seq

/-- The two floating-point forms that are an Illegal Instruction (R215). -/
def fpIllegal : Act Next := do
  needsFpu
  fpuTrap .illegalInstruction

/-! ### The instructions -/

/-- ADDF (R230). -/
def execAddf (gen1 gen2 : Gen) (s : State) : Result := perform (size2 3 4 4 gen1 gen2) (fpArith .add .f gen1 gen2) s

/-- ADDL (R230). -/
def execAddl (gen1 gen2 : Gen) (s : State) : Result := perform (size2 3 8 8 gen1 gen2) (fpArith .add .l gen1 gen2) s

/-- SUBF (R231). -/
def execSubf (gen1 gen2 : Gen) (s : State) : Result := perform (size2 3 4 4 gen1 gen2) (fpArith .sub .f gen1 gen2) s

/-- SUBL (R231). -/
def execSubl (gen1 gen2 : Gen) (s : State) : Result := perform (size2 3 8 8 gen1 gen2) (fpArith .sub .l gen1 gen2) s

/-- MULF (R232). -/
def execMulf (gen1 gen2 : Gen) (s : State) : Result := perform (size2 3 4 4 gen1 gen2) (fpArith .mul .f gen1 gen2) s

/-- MULL (R232). -/
def execMull (gen1 gen2 : Gen) (s : State) : Result := perform (size2 3 8 8 gen1 gen2) (fpArith .mul .l gen1 gen2) s

/-- DIVF (R233). -/
def execDivf (gen1 gen2 : Gen) (s : State) : Result := perform (size2 3 4 4 gen1 gen2) (fpArith .div .f gen1 gen2) s

/-- DIVL (R233). -/
def execDivl (gen1 gen2 : Gen) (s : State) : Result := perform (size2 3 8 8 gen1 gen2) (fpArith .div .l gen1 gen2) s

/-- NEGF (R234). -/
def execNegf (gen1 gen2 : Gen) (s : State) : Result := perform (size2 3 4 4 gen1 gen2) (fpSign not .f gen1 gen2) s

/-- NEGL (R234). -/
def execNegl (gen1 gen2 : Gen) (s : State) : Result := perform (size2 3 8 8 gen1 gen2) (fpSign not .l gen1 gen2) s

/-- ABSF (R235). -/
def execAbsf (gen1 gen2 : Gen) (s : State) : Result :=
  perform (size2 3 4 4 gen1 gen2) (fpSign (fun _ => false) .f gen1 gen2) s

/-- ABSL (R235). -/
def execAbsl (gen1 gen2 : Gen) (s : State) : Result :=
  perform (size2 3 8 8 gen1 gen2) (fpSign (fun _ => false) .l gen1 gen2) s

/-- CMPF (R236). -/
def execCmpf (gen1 gen2 : Gen) (s : State) : Result := perform (size2 3 4 4 gen1 gen2) (fpCompare .f gen1 gen2) s

/-- CMPL (R236). -/
def execCmpl (gen1 gen2 : Gen) (s : State) : Result := perform (size2 3 8 8 gen1 gen2) (fpCompare .l gen1 gen2) s

/-- MOVF (R237). -/
def execMovf (gen1 gen2 : Gen) (s : State) : Result := perform (size2 3 4 4 gen1 gen2) (fpMove .f gen1 gen2) s

/-- MOVL (R237). -/
def execMovl (gen1 gen2 : Gen) (s : State) : Result := perform (size2 3 8 8 gen1 gen2) (fpMove .l gen1 gen2) s

/-- MOVLF (R238). -/
def execMovlf (gen1 gen2 : Gen) (s : State) : Result := perform (size2 3 8 4 gen1 gen2) (movlfBody gen1 gen2) s

/-- MOVFL (R239). -/
def execMovfl (gen1 gen2 : Gen) (s : State) : Result := perform (size2 3 4 8 gen1 gen2) (movflBody gen1 gen2) s

/-- MOVBF (R240). -/
def execMovbf (gen1 gen2 : Gen) (s : State) : Result := perform (size2 3 1 4 gen1 gen2) (fpFromInt .b .f gen1 gen2) s

/-- MOVBL (R240). -/
def execMovbl (gen1 gen2 : Gen) (s : State) : Result := perform (size2 3 1 8 gen1 gen2) (fpFromInt .b .l gen1 gen2) s

/-- MOVWF (R240). -/
def execMovwf (gen1 gen2 : Gen) (s : State) : Result := perform (size2 3 2 4 gen1 gen2) (fpFromInt .w .f gen1 gen2) s

/-- MOVWL (R240). -/
def execMovwl (gen1 gen2 : Gen) (s : State) : Result := perform (size2 3 2 8 gen1 gen2) (fpFromInt .w .l gen1 gen2) s

/-- MOVDF (R240). -/
def execMovdf (gen1 gen2 : Gen) (s : State) : Result := perform (size2 3 4 4 gen1 gen2) (fpFromInt .d .f gen1 gen2) s

/-- MOVDL (R240). -/
def execMovdl (gen1 gen2 : Gen) (s : State) : Result := perform (size2 3 4 8 gen1 gen2) (fpFromInt .d .l gen1 gen2) s

/-- ROUNDFB (R241). -/
def execRoundfb (gen1 gen2 : Gen) (s : State) : Result :=
  perform (size2 3 4 1 gen1 gen2) (fpToInt roundInt .f .b gen1 gen2) s

/-- ROUNDFW (R241). -/
def execRoundfw (gen1 gen2 : Gen) (s : State) : Result :=
  perform (size2 3 4 2 gen1 gen2) (fpToInt roundInt .f .w gen1 gen2) s

/-- ROUNDFD (R241). -/
def execRoundfd (gen1 gen2 : Gen) (s : State) : Result :=
  perform (size2 3 4 4 gen1 gen2) (fpToInt roundInt .f .d gen1 gen2) s

/-- ROUNDLB (R241). -/
def execRoundlb (gen1 gen2 : Gen) (s : State) : Result :=
  perform (size2 3 8 1 gen1 gen2) (fpToInt roundInt .l .b gen1 gen2) s

/-- ROUNDLW (R241). -/
def execRoundlw (gen1 gen2 : Gen) (s : State) : Result :=
  perform (size2 3 8 2 gen1 gen2) (fpToInt roundInt .l .w gen1 gen2) s

/-- ROUNDLD (R241). -/
def execRoundld (gen1 gen2 : Gen) (s : State) : Result :=
  perform (size2 3 8 4 gen1 gen2) (fpToInt roundInt .l .d gen1 gen2) s

/-- TRUNCFB (R242). -/
def execTruncfb (gen1 gen2 : Gen) (s : State) : Result :=
  perform (size2 3 4 1 gen1 gen2) (fpToInt truncInt .f .b gen1 gen2) s

/-- TRUNCFW (R242). -/
def execTruncfw (gen1 gen2 : Gen) (s : State) : Result :=
  perform (size2 3 4 2 gen1 gen2) (fpToInt truncInt .f .w gen1 gen2) s

/-- TRUNCFD (R242). -/
def execTruncfd (gen1 gen2 : Gen) (s : State) : Result :=
  perform (size2 3 4 4 gen1 gen2) (fpToInt truncInt .f .d gen1 gen2) s

/-- TRUNCLB (R242). -/
def execTrunclb (gen1 gen2 : Gen) (s : State) : Result :=
  perform (size2 3 8 1 gen1 gen2) (fpToInt truncInt .l .b gen1 gen2) s

/-- TRUNCLW (R242). -/
def execTrunclw (gen1 gen2 : Gen) (s : State) : Result :=
  perform (size2 3 8 2 gen1 gen2) (fpToInt truncInt .l .w gen1 gen2) s

/-- TRUNCLD (R242). -/
def execTruncld (gen1 gen2 : Gen) (s : State) : Result :=
  perform (size2 3 8 4 gen1 gen2) (fpToInt truncInt .l .d gen1 gen2) s

/-- FLOORFB (R243). -/
def execFloorfb (gen1 gen2 : Gen) (s : State) : Result :=
  perform (size2 3 4 1 gen1 gen2) (fpToInt floorInt .f .b gen1 gen2) s

/-- FLOORFW (R243). -/
def execFloorfw (gen1 gen2 : Gen) (s : State) : Result :=
  perform (size2 3 4 2 gen1 gen2) (fpToInt floorInt .f .w gen1 gen2) s

/-- FLOORFD (R243). -/
def execFloorfd (gen1 gen2 : Gen) (s : State) : Result :=
  perform (size2 3 4 4 gen1 gen2) (fpToInt floorInt .f .d gen1 gen2) s

/-- FLOORLB (R243). -/
def execFloorlb (gen1 gen2 : Gen) (s : State) : Result :=
  perform (size2 3 8 1 gen1 gen2) (fpToInt floorInt .l .b gen1 gen2) s

/-- FLOORLW (R243). -/
def execFloorlw (gen1 gen2 : Gen) (s : State) : Result :=
  perform (size2 3 8 2 gen1 gen2) (fpToInt floorInt .l .w gen1 gen2) s

/-- FLOORLD (R243). -/
def execFloorld (gen1 gen2 : Gen) (s : State) : Result :=
  perform (size2 3 8 4 gen1 gen2) (fpToInt floorInt .l .d gen1 gen2) s

/-- LFSR (R252). -/
def execLfsr (gen : Gen) (unused : BitVec 5) (s : State) : Result := perform (size1 3 4 gen) (lfsrBody gen unused) s

/-- SFSR (R253). -/
def execSfsr (gen : Gen) (unused : BitVec 5) (s : State) : Result := perform (size1 3 4 gen) (sfsrBody gen unused) s

/-- FPU_ILLEGAL_0011 (R215). -/
def execFpuILLEGAL0011 (_raw : BitVec 24) (s : State) : Result := perform 3 fpIllegal s

/-- FPU_ILLEGAL_1001 (R215). -/
def execFpuILLEGAL1001 (_raw : BitVec 24) (s : State) : Result := perform 3 fpIllegal s

end Sys2Proof.Machine
end

