-- ==== Sys2Proof/Machine/Logical.lean ====
section
/-! DEFINITION. Logical, shift and Boolean instructions (spec/41_logical.md). That they write no PSR flag, and the
byte-long count of the shifts, are general knowledge (G5, G12): PRESUMED, log 28. -/

namespace Sys2Proof.Machine

/-- A shift by a signed count (R265): the result `f` gives from the count and the operand, or a free value if the count's
magnitude is not below the operand's length in bits (U11, log 25). -/
def shiftBody (l : Len) (f : Int → QWord → QWord) (count dest : Gen) : Act Next := do
  let a ← readOp .int 1 count
  let x ← locateRmw .int l.bytes dest
  let v ← readLoc .int l.bytes x
  if l.bits ≤ (sval 1 a).natAbs then
    writeInt l x (← draw)
  else
    writeInt l x (f (sval 1 a) v)
  return .seq

/-- An arithmetic shift of `n` bytes (R266). -/
def shiftArith (n : Nat) (c : Int) (v : QWord) : QWord :=
  if 0 ≤ c then narrow n (uval n v * 2 ^ c.toNat) else narrow n (Int.fdiv (sval n v) (2 ^ c.natAbs))

/-- A logical shift of `n` bytes (R267). -/
def shiftLogical (n : Nat) (c : Int) (v : QWord) : QWord :=
  if 0 ≤ c then narrow n (uval n v * 2 ^ c.toNat) else narrow n (uval n v / 2 ^ c.natAbs : Nat)

/-- A rotation of `n` bytes (R268): a right rotation is a left rotation by the rest of the length. -/
def rotate (n : Nat) (c : Int) (v : QWord) : QWord :=
  let k := if 0 ≤ c then c.toNat else (c + 8 * n).toNat
  narrow n (uval n v * 2 ^ k + uval n v / 2 ^ (8 * n - k) : Nat)

/-- Scondi (R271): the condition's truth as a Boolean integer (R269). -/
def scondBody (l : Len) (code : BitVec 4) (dest : Gen) : Act Next := do
  let x ← locateWrite .int l.bytes dest
  writeInt l x (if condition (← get).psr code then 1 else 0)
  return .seq

/-! ### The instructions -/

/-- ANDB (R260). -/
def execAndb (gen1 gen2 : Gen) (s : State) : Result :=
  perform (size2 2 1 1 gen1 gen2) (binaryBody .b (fun a b => b &&& a) gen1 gen2) s

/-- ANDW (R260). -/
def execAndw (gen1 gen2 : Gen) (s : State) : Result :=
  perform (size2 2 2 2 gen1 gen2) (binaryBody .w (fun a b => b &&& a) gen1 gen2) s

/-- ANDD (R260). -/
def execAndd (gen1 gen2 : Gen) (s : State) : Result :=
  perform (size2 2 4 4 gen1 gen2) (binaryBody .d (fun a b => b &&& a) gen1 gen2) s

/-- ORB (R261). -/
def execOrb (gen1 gen2 : Gen) (s : State) : Result :=
  perform (size2 2 1 1 gen1 gen2) (binaryBody .b (fun a b => b ||| a) gen1 gen2) s

/-- ORW (R261). -/
def execOrw (gen1 gen2 : Gen) (s : State) : Result :=
  perform (size2 2 2 2 gen1 gen2) (binaryBody .w (fun a b => b ||| a) gen1 gen2) s

/-- ORD (R261). -/
def execOrd (gen1 gen2 : Gen) (s : State) : Result :=
  perform (size2 2 4 4 gen1 gen2) (binaryBody .d (fun a b => b ||| a) gen1 gen2) s

/-- BICB (R262). -/
def execBicb (gen1 gen2 : Gen) (s : State) : Result :=
  perform (size2 2 1 1 gen1 gen2) (binaryBody .b (fun a b => b &&& ~~~a) gen1 gen2) s

/-- BICW (R262). -/
def execBicw (gen1 gen2 : Gen) (s : State) : Result :=
  perform (size2 2 2 2 gen1 gen2) (binaryBody .w (fun a b => b &&& ~~~a) gen1 gen2) s

/-- BICD (R262). -/
def execBicd (gen1 gen2 : Gen) (s : State) : Result :=
  perform (size2 2 4 4 gen1 gen2) (binaryBody .d (fun a b => b &&& ~~~a) gen1 gen2) s

/-- XORB (R263). -/
def execXorb (gen1 gen2 : Gen) (s : State) : Result :=
  perform (size2 2 1 1 gen1 gen2) (binaryBody .b (fun a b => b ^^^ a) gen1 gen2) s

/-- XORW (R263). -/
def execXorw (gen1 gen2 : Gen) (s : State) : Result :=
  perform (size2 2 2 2 gen1 gen2) (binaryBody .w (fun a b => b ^^^ a) gen1 gen2) s

/-- XORD (R263). -/
def execXord (gen1 gen2 : Gen) (s : State) : Result :=
  perform (size2 2 4 4 gen1 gen2) (binaryBody .d (fun a b => b ^^^ a) gen1 gen2) s

/-- COMB (R264). -/
def execComb (gen1 gen2 : Gen) (s : State) : Result :=
  perform (size2 3 1 1 gen1 gen2) (convertBody 1 1 (fun v => ~~~v) gen1 gen2) s

/-- COMW (R264). -/
def execComw (gen1 gen2 : Gen) (s : State) : Result :=
  perform (size2 3 2 2 gen1 gen2) (convertBody 2 2 (fun v => ~~~v) gen1 gen2) s

/-- COMD (R264). -/
def execComd (gen1 gen2 : Gen) (s : State) : Result :=
  perform (size2 3 4 4 gen1 gen2) (convertBody 4 4 (fun v => ~~~v) gen1 gen2) s

/-- ASHB (R266). -/
def execAshb (gen1 gen2 : Gen) (s : State) : Result :=
  perform (size2 3 1 1 gen1 gen2) (shiftBody .b (shiftArith 1) gen1 gen2) s

/-- ASHW (R266). -/
def execAshw (gen1 gen2 : Gen) (s : State) : Result :=
  perform (size2 3 1 2 gen1 gen2) (shiftBody .w (shiftArith 2) gen1 gen2) s

/-- ASHD (R266). -/
def execAshd (gen1 gen2 : Gen) (s : State) : Result :=
  perform (size2 3 1 4 gen1 gen2) (shiftBody .d (shiftArith 4) gen1 gen2) s

/-- LSHB (R267). -/
def execLshb (gen1 gen2 : Gen) (s : State) : Result :=
  perform (size2 3 1 1 gen1 gen2) (shiftBody .b (shiftLogical 1) gen1 gen2) s

/-- LSHW (R267). -/
def execLshw (gen1 gen2 : Gen) (s : State) : Result :=
  perform (size2 3 1 2 gen1 gen2) (shiftBody .w (shiftLogical 2) gen1 gen2) s

/-- LSHD (R267). -/
def execLshd (gen1 gen2 : Gen) (s : State) : Result :=
  perform (size2 3 1 4 gen1 gen2) (shiftBody .d (shiftLogical 4) gen1 gen2) s

/-- ROTB (R268). -/
def execRotb (gen1 gen2 : Gen) (s : State) : Result :=
  perform (size2 3 1 1 gen1 gen2) (shiftBody .b (rotate 1) gen1 gen2) s

/-- ROTW (R268). -/
def execRotw (gen1 gen2 : Gen) (s : State) : Result :=
  perform (size2 3 1 2 gen1 gen2) (shiftBody .w (rotate 2) gen1 gen2) s

/-- ROTD (R268). -/
def execRotd (gen1 gen2 : Gen) (s : State) : Result :=
  perform (size2 3 1 4 gen1 gen2) (shiftBody .d (rotate 4) gen1 gen2) s

/-- NOTB (R270). -/
def execNotb (gen1 gen2 : Gen) (s : State) : Result :=
  perform (size2 3 1 1 gen1 gen2) (convertBody 1 1 (fun v => v ^^^ 1) gen1 gen2) s

/-- NOTW (R270). -/
def execNotw (gen1 gen2 : Gen) (s : State) : Result :=
  perform (size2 3 2 2 gen1 gen2) (convertBody 2 2 (fun v => v ^^^ 1) gen1 gen2) s

/-- NOTD (R270). -/
def execNotd (gen1 gen2 : Gen) (s : State) : Result :=
  perform (size2 3 4 4 gen1 gen2) (convertBody 4 4 (fun v => v ^^^ 1) gen1 gen2) s

/-- SEQB (R271). -/
def execSeqb (dest : Gen) (s : State) : Result := perform (size1 2 1 dest) (scondBody .b 0x0 dest) s

/-- SEQW (R271). -/
def execSeqw (dest : Gen) (s : State) : Result := perform (size1 2 2 dest) (scondBody .w 0x0 dest) s

/-- SEQD (R271). -/
def execSeqd (dest : Gen) (s : State) : Result := perform (size1 2 4 dest) (scondBody .d 0x0 dest) s

/-- SNEB (R271). -/
def execSneb (dest : Gen) (s : State) : Result := perform (size1 2 1 dest) (scondBody .b 0x1 dest) s

/-- SNEW (R271). -/
def execSnew (dest : Gen) (s : State) : Result := perform (size1 2 2 dest) (scondBody .w 0x1 dest) s

/-- SNED (R271). -/
def execSned (dest : Gen) (s : State) : Result := perform (size1 2 4 dest) (scondBody .d 0x1 dest) s

/-- SCSB (R271). -/
def execScsb (dest : Gen) (s : State) : Result := perform (size1 2 1 dest) (scondBody .b 0x2 dest) s

/-- SCSW (R271). -/
def execScsw (dest : Gen) (s : State) : Result := perform (size1 2 2 dest) (scondBody .w 0x2 dest) s

/-- SCSD (R271). -/
def execScsd (dest : Gen) (s : State) : Result := perform (size1 2 4 dest) (scondBody .d 0x2 dest) s

/-- SCCB (R271). -/
def execSccb (dest : Gen) (s : State) : Result := perform (size1 2 1 dest) (scondBody .b 0x3 dest) s

/-- SCCW (R271). -/
def execSccw (dest : Gen) (s : State) : Result := perform (size1 2 2 dest) (scondBody .w 0x3 dest) s

/-- SCCD (R271). -/
def execSccd (dest : Gen) (s : State) : Result := perform (size1 2 4 dest) (scondBody .d 0x3 dest) s

/-- SHIB (R271). -/
def execShib (dest : Gen) (s : State) : Result := perform (size1 2 1 dest) (scondBody .b 0x4 dest) s

/-- SHIW (R271). -/
def execShiw (dest : Gen) (s : State) : Result := perform (size1 2 2 dest) (scondBody .w 0x4 dest) s

/-- SHID (R271). -/
def execShid (dest : Gen) (s : State) : Result := perform (size1 2 4 dest) (scondBody .d 0x4 dest) s

/-- SLSB (R271). -/
def execSlsb (dest : Gen) (s : State) : Result := perform (size1 2 1 dest) (scondBody .b 0x5 dest) s

/-- SLSW (R271). -/
def execSlsw (dest : Gen) (s : State) : Result := perform (size1 2 2 dest) (scondBody .w 0x5 dest) s

/-- SLSD (R271). -/
def execSlsd (dest : Gen) (s : State) : Result := perform (size1 2 4 dest) (scondBody .d 0x5 dest) s

/-- SGTB (R271). -/
def execSgtb (dest : Gen) (s : State) : Result := perform (size1 2 1 dest) (scondBody .b 0x6 dest) s

/-- SGTW (R271). -/
def execSgtw (dest : Gen) (s : State) : Result := perform (size1 2 2 dest) (scondBody .w 0x6 dest) s

/-- SGTD (R271). -/
def execSgtd (dest : Gen) (s : State) : Result := perform (size1 2 4 dest) (scondBody .d 0x6 dest) s

/-- SLEB (R271). -/
def execSleb (dest : Gen) (s : State) : Result := perform (size1 2 1 dest) (scondBody .b 0x7 dest) s

/-- SLEW (R271). -/
def execSlew (dest : Gen) (s : State) : Result := perform (size1 2 2 dest) (scondBody .w 0x7 dest) s

/-- SLED (R271). -/
def execSled (dest : Gen) (s : State) : Result := perform (size1 2 4 dest) (scondBody .d 0x7 dest) s

/-- SFSB (R271). -/
def execSfsb (dest : Gen) (s : State) : Result := perform (size1 2 1 dest) (scondBody .b 0x8 dest) s

/-- SFSW (R271). -/
def execSfsw (dest : Gen) (s : State) : Result := perform (size1 2 2 dest) (scondBody .w 0x8 dest) s

/-- SFSD (R271). -/
def execSfsd (dest : Gen) (s : State) : Result := perform (size1 2 4 dest) (scondBody .d 0x8 dest) s

/-- SFCB (R271). -/
def execSfcb (dest : Gen) (s : State) : Result := perform (size1 2 1 dest) (scondBody .b 0x9 dest) s

/-- SFCW (R271). -/
def execSfcw (dest : Gen) (s : State) : Result := perform (size1 2 2 dest) (scondBody .w 0x9 dest) s

/-- SFCD (R271). -/
def execSfcd (dest : Gen) (s : State) : Result := perform (size1 2 4 dest) (scondBody .d 0x9 dest) s

/-- SLOB (R271). -/
def execSlob (dest : Gen) (s : State) : Result := perform (size1 2 1 dest) (scondBody .b 0xA dest) s

/-- SLOW (R271). -/
def execSlow (dest : Gen) (s : State) : Result := perform (size1 2 2 dest) (scondBody .w 0xA dest) s

/-- SLOD (R271). -/
def execSlod (dest : Gen) (s : State) : Result := perform (size1 2 4 dest) (scondBody .d 0xA dest) s

/-- SHSB (R271). -/
def execShsb (dest : Gen) (s : State) : Result := perform (size1 2 1 dest) (scondBody .b 0xB dest) s

/-- SHSW (R271). -/
def execShsw (dest : Gen) (s : State) : Result := perform (size1 2 2 dest) (scondBody .w 0xB dest) s

/-- SHSD (R271). -/
def execShsd (dest : Gen) (s : State) : Result := perform (size1 2 4 dest) (scondBody .d 0xB dest) s

/-- SLTB (R271). -/
def execSltb (dest : Gen) (s : State) : Result := perform (size1 2 1 dest) (scondBody .b 0xC dest) s

/-- SLTW (R271). -/
def execSltw (dest : Gen) (s : State) : Result := perform (size1 2 2 dest) (scondBody .w 0xC dest) s

/-- SLTD (R271). -/
def execSltd (dest : Gen) (s : State) : Result := perform (size1 2 4 dest) (scondBody .d 0xC dest) s

/-- SGEB (R271). -/
def execSgeb (dest : Gen) (s : State) : Result := perform (size1 2 1 dest) (scondBody .b 0xD dest) s

/-- SGEW (R271). -/
def execSgew (dest : Gen) (s : State) : Result := perform (size1 2 2 dest) (scondBody .w 0xD dest) s

/-- SGED (R271). -/
def execSged (dest : Gen) (s : State) : Result := perform (size1 2 4 dest) (scondBody .d 0xD dest) s

/-- SRB (R271). -/
def execSrb (dest : Gen) (s : State) : Result := perform (size1 2 1 dest) (scondBody .b 0xE dest) s

/-- SRW (R271). -/
def execSrw (dest : Gen) (s : State) : Result := perform (size1 2 2 dest) (scondBody .w 0xE dest) s

/-- SRD (R271). -/
def execSrd (dest : Gen) (s : State) : Result := perform (size1 2 4 dest) (scondBody .d 0xE dest) s

/-- S_1111B (R271). -/
def execS1111b (dest : Gen) (s : State) : Result := perform (size1 2 1 dest) (scondBody .b 0xF dest) s

/-- S_1111W (R271). -/
def execS1111w (dest : Gen) (s : State) : Result := perform (size1 2 2 dest) (scondBody .w 0xF dest) s

/-- S_1111D (R271). -/
def execS1111d (dest : Gen) (s : State) : Result := perform (size1 2 4 dest) (scondBody .d 0xF dest) s

end Sys2Proof.Machine
end

