-- ==== Sys2Proof/Machine/NotInstructions.lean ====
section
/-! DEFINITION. The rows of spec/opcode_table.json that are no instruction (R190): an encoding assigned to no instruction
raises Trap(UND) (U34, D14); an encoding with a length or option field that has no meaning is undefined, and a model
faults (U7, U9, D15). The custom instructions and the Illegal Instruction forms stand with their families. -/

namespace Sys2Proof.Machine

/-- A Format 9 encoding with `i` = 10 in an instruction with a length suffix (U9): while CFG.F is 0 it raises Trap(UND) like
every encoding of that first byte (R200). -/
def format9Length : Act Next := do
  if !(← get).cfg.getLsbD 1 then raise .und
  stop .lengthField

/-- UND_x6_other (R124). -/
def execUndX6Other (_raw : Byte) (s : State) : Result := perform 1 (raise .und) s

/-- UND_7E (R138). -/
def execUnd7E (s : State) : Result := perform 1 (raise .und) s

/-- UND_FE (R138). -/
def execUndFE (s : State) : Result := perform 1 (raise .und) s

/-- UND_9E (R138). -/
def execUnd9E (s : State) : Result := perform 1 (raise .und) s

/-- UND_5E (R138). -/
def execUnd5E (s : State) : Result := perform 1 (raise .und) s

/-- UND_DE (R138). -/
def execUndDE (s : State) : Result := perform 1 (raise .und) s

/-- UND_8E (R138). -/
def execUnd8E (s : State) : Result := perform 1 (raise .und) s

/-- UND_F3_op1000_B (R129). -/
def execUndF3Op1000B (_raw : Word) (s : State) : Result := perform 2 (raise .und) s

/-- UND_F3_op_odd_B (R129). -/
def execUndF3OpOddB (_raw : Word) (s : State) : Result := perform 2 (raise .und) s

/-- UND_CXPD_i_B (R129). -/
def execUndCXPDIB (_raw : Word) (s : State) : Result := perform 2 (raise .und) s

/-- UND_JUMP_i_B (R129). -/
def execUndJUMPIB (_raw : Word) (s : State) : Result := perform 2 (raise .und) s

/-- UND_JSR_i_B (R129). -/
def execUndJSRIB (_raw : Word) (s : State) : Result := perform 2 (raise .und) s

/-- UND_F3_op1000_W (R129). -/
def execUndF3Op1000W (_raw : Word) (s : State) : Result := perform 2 (raise .und) s

/-- UND_F3_op_odd_W (R129). -/
def execUndF3OpOddW (_raw : Word) (s : State) : Result := perform 2 (raise .und) s

/-- UND_CXPD_i_W (R129). -/
def execUndCXPDIW (_raw : Word) (s : State) : Result := perform 2 (raise .und) s

/-- UND_JUMP_i_W (R129). -/
def execUndJUMPIW (_raw : Word) (s : State) : Result := perform 2 (raise .und) s

/-- UND_JSR_i_W (R129). -/
def execUndJSRIW (_raw : Word) (s : State) : Result := perform 2 (raise .und) s

/-- UND_F3_op1000_D (R129). -/
def execUndF3Op1000D (_raw : Word) (s : State) : Result := perform 2 (raise .und) s

/-- UND_F3_op_odd_D (R129). -/
def execUndF3OpOddD (_raw : Word) (s : State) : Result := perform 2 (raise .und) s

/-- UND_BICPSRD (R398). -/
def execUndBICPSRD (_raw : Word) (s : State) : Result := perform 2 (raise .und) s

/-- UND_BISPSRD (R399). -/
def execUndBISPSRD (_raw : Word) (s : State) : Result := perform 2 (raise .und) s

/-- UND_ADDR_i_B (R130). -/
def execUndADDRIB (_raw : Word) (s : State) : Result := perform 2 (raise .und) s

/-- UND_ADDR_i_W (R130). -/
def execUndADDRIW (_raw : Word) (s : State) : Result := perform 2 (raise .und) s

/-- UND_F5_op_1xxx (R131). -/
def execUndF5Op1xxx (_raw : BitVec 24) (s : State) : Result := perform 3 (raise .und) s

/-- UND_F5_op_x1xx (R131). -/
def execUndF5OpX1xx (_raw : BitVec 24) (s : State) : Result := perform 3 (raise .und) s

/-- UND_SETCFG_i (R131). -/
def execUndSETCFGI (_raw : BitVec 24) (s : State) : Result := perform 3 (raise .und) s

/-- FAULT_F5_T_i (R170). -/
def execFaultF5TI (_raw : BitVec 24) (s : State) : Result := perform 3 (stop .translateLength) s

/-- FAULT_F5_i10 (R125). -/
def execFaultF5I10 (_raw : BitVec 24) (s : State) : Result := perform 3 (stop .lengthField) s

/-- UND_F6_op0100 (R132). -/
def execUndF6Op0100 (_raw : BitVec 24) (s : State) : Result := perform 3 (raise .und) s

/-- UND_F6_op1010 (R132). -/
def execUndF6Op1010 (_raw : BitVec 24) (s : State) : Result := perform 3 (raise .und) s

/-- FAULT_F6_i10 (R125). -/
def execFaultF6I10 (_raw : BitVec 24) (s : State) : Result := perform 3 (stop .lengthField) s

/-- UND_F7_op1010 (R133). -/
def execUndF7Op1010 (_raw : BitVec 24) (s : State) : Result := perform 3 (raise .und) s

/-- UND_MOVXBW_i (R133). -/
def execUndMOVXBWI (_raw : BitVec 24) (s : State) : Result := perform 3 (raise .und) s

/-- UND_MOVZBW_i (R133). -/
def execUndMOVZBWI (_raw : BitVec 24) (s : State) : Result := perform 3 (raise .und) s

/-- UND_MOVZiD_D (R133). -/
def execUndMOVZiDD (_raw : BitVec 24) (s : State) : Result := perform 3 (raise .und) s

/-- UND_MOVXiD_D (R133). -/
def execUndMOVXiDD (_raw : BitVec 24) (s : State) : Result := perform 3 (raise .und) s

/-- FAULT_F7_i10 (R125). -/
def execFaultF7I10 (_raw : BitVec 24) (s : State) : Result := perform 3 (stop .lengthField) s

/-- UND_F8_op111 (R134). -/
def execUndF8Op111 (_raw : BitVec 24) (s : State) : Result := perform 3 (raise .und) s

/-- UND_CVTP_i (R134). -/
def execUndCVTPI (_raw : BitVec 24) (s : State) : Result := perform 3 (raise .und) s

/-- UND_F8_op110_reg000 (R134). -/
def execUndF8Op110Reg000 (_raw : BitVec 24) (s : State) : Result := perform 3 (raise .und) s

/-- UND_F8_op110_reg010 (R134). -/
def execUndF8Op110Reg010 (_raw : BitVec 24) (s : State) : Result := perform 3 (raise .und) s

/-- UND_F8_op110_reg100 (R134). -/
def execUndF8Op110Reg100 (_raw : BitVec 24) (s : State) : Result := perform 3 (raise .und) s

/-- UND_F8_op110_reg101 (R134). -/
def execUndF8Op110Reg101 (_raw : BitVec 24) (s : State) : Result := perform 3 (raise .und) s

/-- UND_F8_op110_reg110 (R134). -/
def execUndF8Op110Reg110 (_raw : BitVec 24) (s : State) : Result := perform 3 (raise .und) s

/-- UND_F8_op110_reg111 (R134). -/
def execUndF8Op110Reg111 (_raw : BitVec 24) (s : State) : Result := perform 3 (raise .und) s

/-- FAULT_F8_i10 (R125). -/
def execFaultF8I10 (_raw : BitVec 24) (s : State) : Result := perform 3 (stop .lengthField) s

/-- UND_LFSR_fi (R135). -/
def execUndLFSRFi (_raw : BitVec 24) (s : State) : Result := perform 3 (raise .und) s

/-- UND_MOVLF_fi (R135). -/
def execUndMOVLFFi (_raw : BitVec 24) (s : State) : Result := perform 3 (raise .und) s

/-- UND_MOVFL_fi (R135). -/
def execUndMOVFLFi (_raw : BitVec 24) (s : State) : Result := perform 3 (raise .und) s

/-- UND_SFSR_fi (R135). -/
def execUndSFSRFi (_raw : BitVec 24) (s : State) : Result := perform 3 (raise .und) s

/-- FAULT_F9_i10 (R125). -/
def execFaultF9I10 (_raw : BitVec 24) (s : State) : Result := perform 3 format9Length s

/-- UND_F11_op011x (R136). -/
def execUndF11Op011x (_raw : BitVec 24) (s : State) : Result := perform 3 (raise .und) s

/-- UND_F11_op101x (R136). -/
def execUndF11Op101x (_raw : BitVec 24) (s : State) : Result := perform 3 (raise .und) s

/-- UND_F11_op111x (R136). -/
def execUndF11Op111x (_raw : BitVec 24) (s : State) : Result := perform 3 (raise .und) s

/-- UND_F11_bit9 (R136). -/
def execUndF11Bit9 (_raw : BitVec 24) (s : State) : Result := perform 3 (raise .und) s

/-- UND_F14_op_1xxx (R137). -/
def execUndF14Op1xxx (_raw : BitVec 24) (s : State) : Result := perform 3 (raise .und) s

/-- UND_F14_op_x1xx (R137). -/
def execUndF14OpX1xx (_raw : BitVec 24) (s : State) : Result := perform 3 (raise .und) s

/-- UND_F14_i (R137). -/
def execUndF14I (_raw : BitVec 24) (s : State) : Result := perform 3 (raise .und) s

end Sys2Proof.Machine
end

