-- ==== Sys2Proof/Machine/Service.lean ====
section
/-! DEFINITION. Processor service instructions (spec/46_processor_service.md), and the memory-management and custom
instructions (spec/47_memory_management_custom.md). Register selectors, register lists, operand roles and the polarity of
RDVAL and WRVAL are general knowledge (G5 to G9, G12, G19, G20, G26): PRESUMED, log 28. -/

namespace Sys2Proof.Machine

/-! ### Effective address -/

/-- The double-word that stands for an exact address: the address itself, or any value where 32 bits do not hold it (R82,
R391: DESIGN CHOICE, log 16). -/
def addressWord (a : Int) : Act QWord := if 0 ≤ a ∧ a < 2 ^ 32 then return BitVec.ofInt 64 a else draw

/-- ADDR and LXPD (R391, R396). R391 itself says that the address is not range-checked. -/
def addrBody (src dest : Gen) : Act Next := do
  let a ← exactAddress src
  let x ← locateWrite .int 4 dest
  writeLoc .int 4 x (← addressWord a)
  return .seq

/-! ### Context -/

/-- The registers whose bit is set, pushed in the order given (R392). -/
def pushRegs (list : Byte) : List Reg → Act Unit
  | [] => return ()
  | r :: rest => do
    if list.getLsbD r.val then push 4 (((← get).reg r).setWidth 64)
    pushRegs list rest

/-- The registers whose bit is set, popped in the order given (R393); bit n stands for R(7-n). -/
def popRegs (list : Byte) : List Reg → Act Unit
  | [] => return ()
  | r :: rest => do
    if list.getLsbD (7 - r.val) then
      let v ← pop 4
      modify fun s => s.setReg r (v.setWidth 32)
    popRegs list rest

/-- SAVE (R392): R0 first. -/
def saveBody (list : Byte) : Act Next := do
  pushRegs list (List.finRange 8)
  return .seq

/-- RESTORE (R393): R7 first. -/
def restoreBody (list : Byte) : Act Next := do
  popRegs list (List.finRange 8).reverse
  return .seq

/-- ENTER (R394). -/
def enterBody (list : Byte) (constant : Disp) : Act Next := do
  let c ← dispValue constant
  push 4 ((← get).fp.setWidth 64)
  modify fun s => { s with fp := s.sp }
  moveSp ((← get).sp.toNat - c)
  pushRegs list (List.finRange 8)
  return .seq

/-- EXIT (R395). -/
def exitBody (list : Byte) : Act Next := do
  popRegs list (List.finRange 8).reverse
  moveSp (← get).fp.toNat
  let v ← pop 4
  modify fun s => { s with fp := toAddr v }
  return .seq

/-! ### Registers and the stack -/

/-- ADJSPi (R397). -/
def adjspBody (l : Len) (src : Gen) : Act Next := do
  let v ← readInt l src
  moveSp ((← get).sp.toNat - sval l.bytes v)
  return .seq

/-- BICPSRi and BISPSRi (R398, R399): bits of the PSR, the low byte of it only for length B, cleared or set. -/
def psrBitsBody (l : Len) (set : Bool) (src : Gen) : Act Next := do
  if l ≠ .b then privileged
  let v ← readInt l src
  let m : Word := BitVec.ofNat 16 (uval l.bytes v)
  modify fun s => s.setPsr (if set then s.psr ||| m else s.psr &&& ~~~m)
  return .seqFlush

/-- The dedicated registers of LPRi and SPRi (R175). -/
inductive Procreg
  | upsr
  | fp
  | sp
  | sb
  | psr
  | intbase
  | mod
deriving DecidableEq, Repr, Inhabited

/-- The dedicated register of a `procreg` code (R175). -/
def procregOf (code : BitVec 4) : Option Procreg :=
  match code with
  | 0b0000 => some .upsr
  | 0b1000 => some .fp
  | 0b1001 => some .sp
  | 0b1010 => some .sb
  | 0b1101 => some .psr
  | 0b1110 => some .intbase
  | 0b1111 => some .mod
  | _ => none

/-- Whether a length goes with a dedicated register (R400, U20). -/
def procregFits (p : Procreg) (l : Len) : Bool :=
  match p with
  | .upsr => true
  | .psr | .mod => l = .w
  | .fp | .sp | .sb | .intbase => l = .d

/-- The register an LPRi or SPRi names, after its checks: privilege, then an assigned code, then the length (R400, D24). -/
def selectProcreg (code : BitVec 4) (l : Len) : Act Procreg := do
  match procregOf code with
  | none => raise .und
  | some p => do
    if p = .psr ∨ p = .intbase then privileged
    ensure (procregFits p l) .procregLength
    return p

/-- A dedicated register's contents (R401); reserved PSR bits read as 0 (D3). -/
def State.procreg (s : State) (p : Procreg) : QWord :=
  match p with
  | .upsr => (s.psr &&& psrMask &&& 0x00FF).setWidth 64
  | .fp => s.fp.setWidth 64
  | .sp => s.sp.setWidth 64
  | .sb => s.sb.setWidth 64
  | .psr => (psrKeep s.psr).setWidth 64
  | .intbase => s.intbase.setWidth 64
  | .mod => s.mod.setWidth 64

/-- A dedicated register loaded (R400); the address registers keep the implemented 24 bits (log 17). -/
def State.setProcreg (s : State) (p : Procreg) (v : QWord) : State :=
  match p with
  | .upsr => s.setPsr (s.psr.extractLsb' 8 8 ++ v.extractLsb' 0 8 : BitVec (8 + 8))
  | .fp => { s with fp := toAddr v }
  | .sp => s.setSp (toAddr v)
  | .sb => { s with sb := toAddr v }
  | .psr => s.setPsr (v.setWidth 16)
  | .intbase => { s with intbase := toAddr v }
  | .mod => { s with mod := v.setWidth 16 }

/-- LPRi (R400). -/
def lprBody (l : Len) (code : BitVec 4) (src : Gen) : Act Next := do
  let p ← selectProcreg code l
  let v ← readInt l src
  modify fun s => s.setProcreg p v
  return .seq

/-- SPRi (R401): the contents from before any push of the destination (G7). -/
def sprBody (l : Len) (code : BitVec 4) (dest : Gen) : Act Next := do
  let p ← selectProcreg code l
  let v := (← get).procreg p
  let x ← locateWrite .int l.bytes dest
  writeInt l x v
  return .seq

/-- SETCFG (R402). -/
def setcfgBody (cfglist : BitVec 4) (unused : BitVec 6) : Act Next := do
  privileged
  mustBeZero unused
  modify fun s => { s with cfg := cfglist }
  return .seq

/-! ### Memory management -/

/-- `mm_check(true)` (R436): privilege, then CFG.M, then the attached unit (D1). -/
def needsMmu : Act Unit := do
  privileged
  let s ← get
  if !s.cfg.getLsbD 2 then raise .und
  if !s.platform.hasMmu then refuse .unitAbsent

/-- A memory-management register by its `mmureg` code (R176), U22. -/
def MmuRegs.get (m : MmuRegs) (code : BitVec 4) : Option DWord :=
  match code with
  | 0b0000 => some m.bpr0
  | 0b0001 => some m.bpr1
  | 0b0100 => some m.pf0
  | 0b0101 => some m.pf1
  | 0b1000 => some m.sc
  | 0b1010 => some m.msr
  | 0b1011 => some m.bcnt
  | 0b1100 => some m.ptb0
  | 0b1101 => some m.ptb1
  | 0b1111 => some m.eia
  | _ => none

/-- The memory-management registers with one loaded, by its `mmureg` code (R176, R430); EIA is not one that a load
changes. -/
def MmuRegs.put (m : MmuRegs) (code : BitVec 4) (v : DWord) : MmuRegs :=
  match code with
  | 0b0000 => { m with bpr0 := v }
  | 0b0001 => { m with bpr1 := v }
  | 0b0100 => { m with pf0 := v }
  | 0b0101 => { m with pf1 := v }
  | 0b1000 => { m with sc := v }
  | 0b1010 => { m with msr := v }
  | 0b1011 => { m with bcnt := v }
  | 0b1100 => { m with ptb0 := v }
  | 0b1101 => { m with ptb1 := v }
  | _ => m

/-- A memory-management register loaded (R430). Writing EIA removes an invalid entry from the Translation Buffer (R63); what
reading EIA gives is still the address of the most recent translation error (R431). What else a load does inside the MMU
belongs to `translate` (logs 14 and 47). -/
def State.loadMmu (s : State) (code : BitVec 4) (v : DWord) : State :=
  if code = 0b1111 then { s with buffer := Config.bufferAfterRemoval s.mmu s.buffer v }
  else { s with mmu := MmuRegs.put s.mmu code v }

/-- LMR (R430). -/
def lmrBody (code : BitVec 4) (src : Gen) (unused : BitVec 1) : Act Next := do
  needsMmu
  mustBeZero unused
  ensure (mmuregOk code) .mmuRegister
  let v ← readInt .d src
  modify fun s => s.loadMmu code (v.setWidth 32)
  return .seqFlush

/-- SMR (R431). -/
def smrBody (code : BitVec 4) (dest : Gen) (unused : BitVec 1) : Act Next := do
  needsMmu
  mustBeZero unused
  match MmuRegs.get (← get).mmu code with
  | none => stop .mmuRegister
  | some v => do
    let x ← locateWrite .int 4 dest
    writeInt .d x (v.setWidth 64)
    return .seq

/-- What a protection test leaves in the Translation Buffer (R71, log 14). -/
def State.recordProbe (s : State) (a : Addr) (kind : AccessKind) : State :=
  { s with buffer := Config.bufferAfterAccess s.mmu s.buffer s.mem a 1 .user kind }

/-- RDVAL and WRVAL (R432, R433): F is set if User Mode may not access the location; the location is not accessed. A page
without a valid mapping aborts (log 14). -/
def validateBody (kind : AccessKind) (loc : Gen) (unused : BitVec 5) : Act Next := do
  needsMmu
  mustBeZero unused
  let a ← addrOp loc
  let s ← get
  let allowed ← (
    if s.translating then
      let va : Addr := BitVec.ofInt 24 a
      match Config.translate s.mmu s.buffer s.mem va .user kind with
      | .mapped _ => do
        set (s.recordProbe va kind)
        pure true
      | .refused => do
        set (s.recordProbe va kind)
        pure false
      | .invalid => do
        let _ ← physical va .user kind
        pure true
    else pure true)
  modify fun s => s.setFlag bitF (!allowed)
  return .seq

/-- MOVSUi and MOVUSi (R434, R435): a value read in one mode's space and written in the other's. -/
def moveSpaceBody (l : Len) (from_ to_ : Mode) (src dest : Gen) : Act Next := do
  privileged
  let a ← addrOp src
  let b ← addrOp dest
  let v ← memReadAs from_ a l.bytes
  memWriteAs to_ b l.bytes v
  return .seqFlush

/-! ### Custom instructions -/

/-- A custom instruction (R441, R442, D18): Trap(UND) while CFG.C is 0; else the custom slave's own effect, which no source
gives. The form paired with Format 14 is privileged. -/
def customBody (memoryManagement : Bool) : Act Next := do
  if !(← get).cfg.getLsbD 3 then raise .und
  if memoryManagement then privileged
  refuse .customSlave

/-! ### The instructions -/

/-- ADDR (R391). -/
def execAddr (gen1 gen2 : Gen) (s : State) : Result := perform (size2 2 0 4 gen1 gen2) (addrBody gen1 gen2) s

/-- LXPD (R396). -/
def execLxpd (disp1 disp2 : Disp) (dest : Gen) (s : State) : Result :=
  perform (size2 2 0 4 (.base (.ext disp1 disp2)) dest) (addrBody (.base (.ext disp1 disp2)) dest) s

/-- SAVE (R392). -/
def execSave (reglist : Byte) (s : State) : Result := perform (1 + 1) (saveBody reglist) s

/-- RESTORE (R393). -/
def execRestore (reglist : Byte) (s : State) : Result := perform (1 + 1) (restoreBody reglist) s

/-- ENTER (R394). -/
def execEnter (reglist : Byte) (constant : Disp) (s : State) : Result :=
  perform (1 + constant.size + 1) (enterBody reglist constant) s

/-- EXIT (R395). -/
def execExit (reglist : Byte) (s : State) : Result := perform (1 + 1) (exitBody reglist) s

/-- ADJSPB (R397). -/
def execAdjspb (gen : Gen) (s : State) : Result := perform (size1 2 1 gen) (adjspBody .b gen) s

/-- ADJSPW (R397). -/
def execAdjspw (gen : Gen) (s : State) : Result := perform (size1 2 2 gen) (adjspBody .w gen) s

/-- ADJSPD (R397). -/
def execAdjspd (gen : Gen) (s : State) : Result := perform (size1 2 4 gen) (adjspBody .d gen) s

/-- BICPSRB (R398). -/
def execBicpsrb (gen : Gen) (s : State) : Result := perform (size1 2 1 gen) (psrBitsBody .b false gen) s

/-- BICPSRW (R398). -/
def execBicpsrw (gen : Gen) (s : State) : Result := perform (size1 2 2 gen) (psrBitsBody .w false gen) s

/-- BISPSRB (R399). -/
def execBispsrb (gen : Gen) (s : State) : Result := perform (size1 2 1 gen) (psrBitsBody .b true gen) s

/-- BISPSRW (R399). -/
def execBispsrw (gen : Gen) (s : State) : Result := perform (size1 2 2 gen) (psrBitsBody .w true gen) s

/-- LPRB (R400). -/
def execLprb (procreg : BitVec 4) (gen : Gen) (s : State) : Result :=
  perform (size1 2 1 gen) (lprBody .b procreg gen) s

/-- LPRW (R400). -/
def execLprw (procreg : BitVec 4) (gen : Gen) (s : State) : Result :=
  perform (size1 2 2 gen) (lprBody .w procreg gen) s

/-- LPRD (R400). -/
def execLprd (procreg : BitVec 4) (gen : Gen) (s : State) : Result :=
  perform (size1 2 4 gen) (lprBody .d procreg gen) s

/-- SPRB (R401). -/
def execSprb (procreg : BitVec 4) (gen : Gen) (s : State) : Result :=
  perform (size1 2 1 gen) (sprBody .b procreg gen) s

/-- SPRW (R401). -/
def execSprw (procreg : BitVec 4) (gen : Gen) (s : State) : Result :=
  perform (size1 2 2 gen) (sprBody .w procreg gen) s

/-- SPRD (R401). -/
def execSprd (procreg : BitVec 4) (gen : Gen) (s : State) : Result :=
  perform (size1 2 4 gen) (sprBody .d procreg gen) s

/-- SETCFG (R402). -/
def execSetcfg (cfglist : BitVec 4) (unused : BitVec 6) (s : State) : Result :=
  perform 3 (setcfgBody cfglist unused) s

/-- NOP (R403). -/
def execNop (s : State) : Result := perform 1 (return .seq) s

/-- WAIT (R404). -/
def execWait (s : State) : Result := perform 1 (return .suspend) s

/-- DIA (R405). -/
def execDia (s : State) : Result := perform 1 (return .diagnose) s

/-- LMR (R430). -/
def execLmr (mmureg : BitVec 4) (gen : Gen) (unused : BitVec 1) (s : State) : Result :=
  perform (size1 3 4 gen) (lmrBody mmureg gen unused) s

/-- SMR (R431). -/
def execSmr (mmureg : BitVec 4) (gen : Gen) (unused : BitVec 1) (s : State) : Result :=
  perform (size1 3 4 gen) (smrBody mmureg gen unused) s

/-- RDVAL (R432). -/
def execRdval (loc : Gen) (unused : BitVec 5) (s : State) : Result :=
  perform (size1 3 0 loc) (validateBody .read loc unused) s

/-- WRVAL (R433). -/
def execWrval (loc : Gen) (unused : BitVec 5) (s : State) : Result :=
  perform (size1 3 0 loc) (validateBody .write loc unused) s

/-- MOVSUB (R434). -/
def execMovsub (gen1 gen2 : Gen) (s : State) : Result :=
  perform (size2 3 0 0 gen1 gen2) (moveSpaceBody .b .supervisor .user gen1 gen2) s

/-- MOVSUW (R434). -/
def execMovsuw (gen1 gen2 : Gen) (s : State) : Result :=
  perform (size2 3 0 0 gen1 gen2) (moveSpaceBody .w .supervisor .user gen1 gen2) s

/-- MOVSUD (R434). -/
def execMovsud (gen1 gen2 : Gen) (s : State) : Result :=
  perform (size2 3 0 0 gen1 gen2) (moveSpaceBody .d .supervisor .user gen1 gen2) s

/-- MOVUSB (R435). -/
def execMovusb (gen1 gen2 : Gen) (s : State) : Result :=
  perform (size2 3 0 0 gen1 gen2) (moveSpaceBody .b .user .supervisor gen1 gen2) s

/-- MOVUSW (R435). -/
def execMovusw (gen1 gen2 : Gen) (s : State) : Result :=
  perform (size2 3 0 0 gen1 gen2) (moveSpaceBody .w .user .supervisor gen1 gen2) s

/-- MOVUSD (R435). -/
def execMovusd (gen1 gen2 : Gen) (s : State) : Result :=
  perform (size2 3 0 0 gen1 gen2) (moveSpaceBody .d .user .supervisor gen1 gen2) s

/-- CUSTOM_16 (R184). -/
def execCustom16 (s : State) : Result := perform 1 (customBody true) s

/-- CUSTOM_36 (R184). -/
def execCustom36 (s : State) : Result := perform 1 (customBody false) s

/-- CUSTOM_B6 (R184). -/
def execCustomB6 (s : State) : Result := perform 1 (customBody false) s

end Sys2Proof.Machine
end

