-- ==== Sys2Proof/Machine/Strings.lean ====
section
/-! DEFINITION. String and block instructions (spec/43_string_block.md). One pass of Table 3-4's loop is one step (R312,
D19): an instruction that is not complete ends its pass with `Next.again`. -/

namespace Sys2Proof.Machine

/-- The three kinds of string instruction (R312). -/
inductive StrKind
  | cmps
  | movs
  | skps
deriving DecidableEq, Repr, Inhabited

/-- R0, R1 and R2, which the string instructions use implicitly (R310), and R3 and R4. -/
abbrev r0 : Reg := 0
/-- The address of the String 1 element (R310). -/
abbrev r1 : Reg := 1
/-- The address of the String 2 element (R310). -/
abbrev r2 : Reg := 2
/-- The address of the translation table (R310). -/
abbrev r3 : Reg := 3
/-- The match value (R310). -/
abbrev r4 : Reg := 4

/-- Whether step 4 of R312 ends the instruction. -/
def stringMatch (m : StrMatch) (n : Nat) (temp r4 : QWord) : Bool :=
  match m with
  | .untilMatch => uval n temp == uval n r4
  | .whileMatch => uval n temp != uval n r4
  | _ => false

/-- Steps 6 and 7 of R312: R1, and R2 unless String 2 is not used, move by one element, and R0 counts down. -/
def State.nextElement (s : State) (kind : StrKind) (n : Nat) (backward : Bool) : State :=
  let move (v : DWord) : DWord := if backward then v - BitVec.ofNat 32 n else v + BitVec.ofNat 32 n
  let s := s.setReg r1 (move (s.reg r1))
  let s := if kind = .skps then s else s.setReg r2 (move (s.reg r2))
  s.setReg r0 (s.reg r0 - 1)

/-- One pass of a string instruction with elements of `n` bytes (R312); `t` is the Translation option. An element count
below zero is undefined (U16, log 33). -/
def stringPass (kind : StrKind) (n : Nat) (t : Bool) (o : StrOpts) (unused : BitVec 6) : Act Next := do
  mustBeZero unused
  ensure (o.matching != .reserved) .stringOptions
  let s ← get
  ensure (0 ≤ (s.reg r0).toInt) .negativeCount
  if kind = .cmps then modify fun s => s.setZNL true false false
  if s.reg r0 = 0 then
    modify fun s => s.setFlag bitF false
    return .seq
  let element ← memRead (s.reg r1).toNat n
  let temp ← if t then memRead ((s.reg r3).toNat + uval 1 element) 1 else pure element
  if stringMatch o.matching n temp ((s.reg r4).setWidth 64) then
    modify fun s => s.setFlag bitF true
    return .seq
  match kind with
  | .cmps => do
    let m ← memRead (s.reg r2).toNat n
    modify fun s => s.compare n temp m
    if uval n temp ≠ uval n m then
      modify fun s => s.setFlag bitF false
      return .seq
  | .movs => memWrite (s.reg r2).toNat n temp
  | .skps => pure ()
  modify fun s => s.nextElement kind n o.backward
  return .again

/-! ### Blocks -/

/-- The number of elements of a block, from its length displacement (R171, U8). -/
def blockCount (l : Len) (length : Disp) : Act Nat := do
  ensure (blockLengthOk l length) .blockLength
  return length.value.toNat / l.bytes + 1

/-- Elements copied from one block to the other, from the lowest address up (R326); of overlapping blocks, every element
written is a free value (U15, logs 25 and 41). -/
def copyBlock (n : Nat) (overlap : Bool) : Nat → Int → Int → Act Unit
  | 0, _, _ => return ()
  | k + 1, a, b => do
    let v ← memRead a n
    let v ← if overlap then draw else pure v
    memWrite b n v
    copyBlock n overlap k (a + n) (b + n)

/-- MOVMi (R326). -/
def movmBody (l : Len) (block1 block2 : Gen) (length : Disp) : Act Next := do
  let count ← blockCount l length
  let a ← addrOp block1
  let b ← addrOp block2
  copyBlock l.bytes (decide ((a - b).natAbs < count * l.bytes)) count a b
  return .seq

/-- Elements compared from the lowest address up: the first unequal pair decides (R327). -/
def compareBlock (n : Nat) : Nat → Int → Int → Act Unit
  | 0, _, _ => return ()
  | k + 1, a, b => do
    let x ← memRead a n
    let y ← memRead b n
    if uval n x ≠ uval n y then modify fun s => s.compare n x y
    else compareBlock n k (a + n) (b + n)

/-- CMPMi (R327). -/
def cmpmBody (l : Len) (block1 block2 : Gen) (length : Disp) : Act Next := do
  let count ← blockCount l length
  let a ← addrOp block1
  let b ← addrOp block2
  modify fun s => s.setZNL true false false
  compareBlock l.bytes count a b
  return .seq

/-! ### The instructions -/

/-- MOVSB (R315). -/
def execMovsb (opts : StrOpts) (unused : BitVec 6) (s : State) : Result :=
  perform 3 (stringPass .movs 1 false opts unused) s

/-- MOVSW (R315). -/
def execMovsw (opts : StrOpts) (unused : BitVec 6) (s : State) : Result :=
  perform 3 (stringPass .movs 2 false opts unused) s

/-- MOVSD (R315). -/
def execMovsd (opts : StrOpts) (unused : BitVec 6) (s : State) : Result :=
  perform 3 (stringPass .movs 4 false opts unused) s

/-- MOVST (R316). -/
def execMovst (opts : StrOpts) (unused : BitVec 6) (s : State) : Result :=
  perform 3 (stringPass .movs 1 true opts unused) s

/-- CMPSB (R317). -/
def execCmpsb (opts : StrOpts) (unused : BitVec 6) (s : State) : Result :=
  perform 3 (stringPass .cmps 1 false opts unused) s

/-- CMPSW (R317). -/
def execCmpsw (opts : StrOpts) (unused : BitVec 6) (s : State) : Result :=
  perform 3 (stringPass .cmps 2 false opts unused) s

/-- CMPSD (R317). -/
def execCmpsd (opts : StrOpts) (unused : BitVec 6) (s : State) : Result :=
  perform 3 (stringPass .cmps 4 false opts unused) s

/-- CMPST (R318). -/
def execCmpst (opts : StrOpts) (unused : BitVec 6) (s : State) : Result :=
  perform 3 (stringPass .cmps 1 true opts unused) s

/-- SKPSB (R319). -/
def execSkpsb (opts : StrOpts) (unused : BitVec 6) (s : State) : Result :=
  perform 3 (stringPass .skps 1 false opts unused) s

/-- SKPSW (R319). -/
def execSkpsw (opts : StrOpts) (unused : BitVec 6) (s : State) : Result :=
  perform 3 (stringPass .skps 2 false opts unused) s

/-- SKPSD (R319). -/
def execSkpsd (opts : StrOpts) (unused : BitVec 6) (s : State) : Result :=
  perform 3 (stringPass .skps 4 false opts unused) s

/-- SKPST (R320). -/
def execSkpst (opts : StrOpts) (unused : BitVec 6) (s : State) : Result :=
  perform 3 (stringPass .skps 1 true opts unused) s

/-- MOVMB (R326). -/
def execMovmb (gen1 gen2 : Gen) (length : Disp) (s : State) : Result :=
  perform (size2 3 0 0 gen1 gen2 + length.size) (movmBody .b gen1 gen2 length) s

/-- MOVMW (R326). -/
def execMovmw (gen1 gen2 : Gen) (length : Disp) (s : State) : Result :=
  perform (size2 3 0 0 gen1 gen2 + length.size) (movmBody .w gen1 gen2 length) s

/-- MOVMD (R326). -/
def execMovmd (gen1 gen2 : Gen) (length : Disp) (s : State) : Result :=
  perform (size2 3 0 0 gen1 gen2 + length.size) (movmBody .d gen1 gen2 length) s

/-- CMPMB (R327). -/
def execCmpmb (gen1 gen2 : Gen) (length : Disp) (s : State) : Result :=
  perform (size2 3 0 0 gen1 gen2 + length.size) (cmpmBody .b gen1 gen2 length) s

/-- CMPMW (R327). -/
def execCmpmw (gen1 gen2 : Gen) (length : Disp) (s : State) : Result :=
  perform (size2 3 0 0 gen1 gen2 + length.size) (cmpmBody .w gen1 gen2 length) s

/-- CMPMD (R327). -/
def execCmpmd (gen1 gen2 : Gen) (length : Disp) (s : State) : Result :=
  perform (size2 3 0 0 gen1 gen2 + length.size) (cmpmBody .d gen1 gen2 length) s

end Sys2Proof.Machine
end

