-- ==== Sys2Proof/Machine/Dispatch.lean ====
section
/-! DEFINITION. The meaning of every instruction, one arm for each constructor of Instr. -/

namespace Sys2Proof.Machine

def exec (i : Instr) (s : State) : Host.Outcome State Fault Refusal :=
  match i with
  -- Format 0 (R126, R352, R353)
  | .beq dest => Sys2Proof.Machine.execBeq dest s
  | .bne dest => Sys2Proof.Machine.execBne dest s
  | .bcs dest => Sys2Proof.Machine.execBcs dest s
  | .bcc dest => Sys2Proof.Machine.execBcc dest s
  | .bhi dest => Sys2Proof.Machine.execBhi dest s
  | .bls dest => Sys2Proof.Machine.execBls dest s
  | .bgt dest => Sys2Proof.Machine.execBgt dest s
  | .ble dest => Sys2Proof.Machine.execBle dest s
  | .bfs dest => Sys2Proof.Machine.execBfs dest s
  | .bfc dest => Sys2Proof.Machine.execBfc dest s
  | .blo dest => Sys2Proof.Machine.execBlo dest s
  | .bhs dest => Sys2Proof.Machine.execBhs dest s
  | .blt dest => Sys2Proof.Machine.execBlt dest s
  | .bge dest => Sys2Proof.Machine.execBge dest s
  | .br dest => Sys2Proof.Machine.execBr dest s
  | .bcond1111 dest => Sys2Proof.Machine.execBcond1111 dest s
  -- Format 1 (R127)
  | .bsr dest => Sys2Proof.Machine.execBsr dest s
  | .ret constant => Sys2Proof.Machine.execRet constant s
  | .cxp index => Sys2Proof.Machine.execCxp index s
  | .rxp constant => Sys2Proof.Machine.execRxp constant s
  | .rett constant => Sys2Proof.Machine.execRett constant s
  | .reti => Sys2Proof.Machine.execReti s
  | .save reglist => Sys2Proof.Machine.execSave reglist s
  | .restore reglist => Sys2Proof.Machine.execRestore reglist s
  | .enter reglist constant => Sys2Proof.Machine.execEnter reglist constant s
  | .exit reglist => Sys2Proof.Machine.execExit reglist s
  | .nop => Sys2Proof.Machine.execNop s
  | .wait => Sys2Proof.Machine.execWait s
  | .dia => Sys2Proof.Machine.execDia s
  | .flag => Sys2Proof.Machine.execFlag s
  | .svc => Sys2Proof.Machine.execSvc s
  | .bpt => Sys2Proof.Machine.execBpt s
  -- Format 2 (R128)
  | .addqb quick gen => Sys2Proof.Machine.execAddqb quick gen s
  | .addqw quick gen => Sys2Proof.Machine.execAddqw quick gen s
  | .addqd quick gen => Sys2Proof.Machine.execAddqd quick gen s
  | .cmpqb quick gen => Sys2Proof.Machine.execCmpqb quick gen s
  | .cmpqw quick gen => Sys2Proof.Machine.execCmpqw quick gen s
  | .cmpqd quick gen => Sys2Proof.Machine.execCmpqd quick gen s
  | .movqb quick gen => Sys2Proof.Machine.execMovqb quick gen s
  | .movqw quick gen => Sys2Proof.Machine.execMovqw quick gen s
  | .movqd quick gen => Sys2Proof.Machine.execMovqd quick gen s
  | .acbb quick gen dest => Sys2Proof.Machine.execAcbb quick gen dest s
  | .acbw quick gen dest => Sys2Proof.Machine.execAcbw quick gen dest s
  | .acbd quick gen dest => Sys2Proof.Machine.execAcbd quick gen dest s
  | .sprb procreg gen => Sys2Proof.Machine.execSprb procreg gen s
  | .sprw procreg gen => Sys2Proof.Machine.execSprw procreg gen s
  | .sprd procreg gen => Sys2Proof.Machine.execSprd procreg gen s
  | .lprb procreg gen => Sys2Proof.Machine.execLprb procreg gen s
  | .lprw procreg gen => Sys2Proof.Machine.execLprw procreg gen s
  | .lprd procreg gen => Sys2Proof.Machine.execLprd procreg gen s
  -- Save Condition Code (R271)
  | .seqb dest => Sys2Proof.Machine.execSeqb dest s
  | .sneb dest => Sys2Proof.Machine.execSneb dest s
  | .scsb dest => Sys2Proof.Machine.execScsb dest s
  | .sccb dest => Sys2Proof.Machine.execSccb dest s
  | .shib dest => Sys2Proof.Machine.execShib dest s
  | .slsb dest => Sys2Proof.Machine.execSlsb dest s
  | .sgtb dest => Sys2Proof.Machine.execSgtb dest s
  | .sleb dest => Sys2Proof.Machine.execSleb dest s
  | .sfsb dest => Sys2Proof.Machine.execSfsb dest s
  | .sfcb dest => Sys2Proof.Machine.execSfcb dest s
  | .slob dest => Sys2Proof.Machine.execSlob dest s
  | .shsb dest => Sys2Proof.Machine.execShsb dest s
  | .sltb dest => Sys2Proof.Machine.execSltb dest s
  | .sgeb dest => Sys2Proof.Machine.execSgeb dest s
  | .srb dest => Sys2Proof.Machine.execSrb dest s
  | .s1111b dest => Sys2Proof.Machine.execS1111b dest s
  | .seqw dest => Sys2Proof.Machine.execSeqw dest s
  | .snew dest => Sys2Proof.Machine.execSnew dest s
  | .scsw dest => Sys2Proof.Machine.execScsw dest s
  | .sccw dest => Sys2Proof.Machine.execSccw dest s
  | .shiw dest => Sys2Proof.Machine.execShiw dest s
  | .slsw dest => Sys2Proof.Machine.execSlsw dest s
  | .sgtw dest => Sys2Proof.Machine.execSgtw dest s
  | .slew dest => Sys2Proof.Machine.execSlew dest s
  | .sfsw dest => Sys2Proof.Machine.execSfsw dest s
  | .sfcw dest => Sys2Proof.Machine.execSfcw dest s
  | .slow dest => Sys2Proof.Machine.execSlow dest s
  | .shsw dest => Sys2Proof.Machine.execShsw dest s
  | .sltw dest => Sys2Proof.Machine.execSltw dest s
  | .sgew dest => Sys2Proof.Machine.execSgew dest s
  | .srw dest => Sys2Proof.Machine.execSrw dest s
  | .s1111w dest => Sys2Proof.Machine.execS1111w dest s
  | .seqd dest => Sys2Proof.Machine.execSeqd dest s
  | .sned dest => Sys2Proof.Machine.execSned dest s
  | .scsd dest => Sys2Proof.Machine.execScsd dest s
  | .sccd dest => Sys2Proof.Machine.execSccd dest s
  | .shid dest => Sys2Proof.Machine.execShid dest s
  | .slsd dest => Sys2Proof.Machine.execSlsd dest s
  | .sgtd dest => Sys2Proof.Machine.execSgtd dest s
  | .sled dest => Sys2Proof.Machine.execSled dest s
  | .sfsd dest => Sys2Proof.Machine.execSfsd dest s
  | .sfcd dest => Sys2Proof.Machine.execSfcd dest s
  | .slod dest => Sys2Proof.Machine.execSlod dest s
  | .shsd dest => Sys2Proof.Machine.execShsd dest s
  | .sltd dest => Sys2Proof.Machine.execSltd dest s
  | .sged dest => Sys2Proof.Machine.execSged dest s
  | .srd dest => Sys2Proof.Machine.execSrd dest s
  | .s1111d dest => Sys2Proof.Machine.execS1111d dest s
  -- Format 3 (R129)
  | .cxpd gen => Sys2Proof.Machine.execCxpd gen s
  | .jump gen => Sys2Proof.Machine.execJump gen s
  | .jsr gen => Sys2Proof.Machine.execJsr gen s
  | .bicpsrb gen => Sys2Proof.Machine.execBicpsrb gen s
  | .bicpsrw gen => Sys2Proof.Machine.execBicpsrw gen s
  | .bispsrb gen => Sys2Proof.Machine.execBispsrb gen s
  | .bispsrw gen => Sys2Proof.Machine.execBispsrw gen s
  | .adjspb gen => Sys2Proof.Machine.execAdjspb gen s
  | .adjspw gen => Sys2Proof.Machine.execAdjspw gen s
  | .adjspd gen => Sys2Proof.Machine.execAdjspd gen s
  | .caseb gen => Sys2Proof.Machine.execCaseb gen s
  | .casew gen => Sys2Proof.Machine.execCasew gen s
  | .cased gen => Sys2Proof.Machine.execCased gen s
  -- Format 4 (R130)
  | .addb gen1 gen2 => Sys2Proof.Machine.execAddb gen1 gen2 s
  | .addw gen1 gen2 => Sys2Proof.Machine.execAddw gen1 gen2 s
  | .addd gen1 gen2 => Sys2Proof.Machine.execAddd gen1 gen2 s
  | .cmpb gen1 gen2 => Sys2Proof.Machine.execCmpb gen1 gen2 s
  | .cmpw gen1 gen2 => Sys2Proof.Machine.execCmpw gen1 gen2 s
  | .cmpd gen1 gen2 => Sys2Proof.Machine.execCmpd gen1 gen2 s
  | .bicb gen1 gen2 => Sys2Proof.Machine.execBicb gen1 gen2 s
  | .bicw gen1 gen2 => Sys2Proof.Machine.execBicw gen1 gen2 s
  | .bicd gen1 gen2 => Sys2Proof.Machine.execBicd gen1 gen2 s
  | .addcb gen1 gen2 => Sys2Proof.Machine.execAddcb gen1 gen2 s
  | .addcw gen1 gen2 => Sys2Proof.Machine.execAddcw gen1 gen2 s
  | .addcd gen1 gen2 => Sys2Proof.Machine.execAddcd gen1 gen2 s
  | .movb gen1 gen2 => Sys2Proof.Machine.execMovb gen1 gen2 s
  | .movw gen1 gen2 => Sys2Proof.Machine.execMovw gen1 gen2 s
  | .movd gen1 gen2 => Sys2Proof.Machine.execMovd gen1 gen2 s
  | .orb gen1 gen2 => Sys2Proof.Machine.execOrb gen1 gen2 s
  | .orw gen1 gen2 => Sys2Proof.Machine.execOrw gen1 gen2 s
  | .ord gen1 gen2 => Sys2Proof.Machine.execOrd gen1 gen2 s
  | .subb gen1 gen2 => Sys2Proof.Machine.execSubb gen1 gen2 s
  | .subw gen1 gen2 => Sys2Proof.Machine.execSubw gen1 gen2 s
  | .subd gen1 gen2 => Sys2Proof.Machine.execSubd gen1 gen2 s
  | .andb gen1 gen2 => Sys2Proof.Machine.execAndb gen1 gen2 s
  | .andw gen1 gen2 => Sys2Proof.Machine.execAndw gen1 gen2 s
  | .andd gen1 gen2 => Sys2Proof.Machine.execAndd gen1 gen2 s
  | .subcb gen1 gen2 => Sys2Proof.Machine.execSubcb gen1 gen2 s
  | .subcw gen1 gen2 => Sys2Proof.Machine.execSubcw gen1 gen2 s
  | .subcd gen1 gen2 => Sys2Proof.Machine.execSubcd gen1 gen2 s
  | .tbitb gen1 gen2 => Sys2Proof.Machine.execTbitb gen1 gen2 s
  | .tbitw gen1 gen2 => Sys2Proof.Machine.execTbitw gen1 gen2 s
  | .tbitd gen1 gen2 => Sys2Proof.Machine.execTbitd gen1 gen2 s
  | .xorb gen1 gen2 => Sys2Proof.Machine.execXorb gen1 gen2 s
  | .xorw gen1 gen2 => Sys2Proof.Machine.execXorw gen1 gen2 s
  | .xord gen1 gen2 => Sys2Proof.Machine.execXord gen1 gen2 s
  | .addr gen1 gen2 => Sys2Proof.Machine.execAddr gen1 gen2 s
  -- ADDR whose first operand is External (R192)
  | .lxpd disp1 disp2 dest => Sys2Proof.Machine.execLxpd disp1 disp2 dest s
  -- Format 5 (R131)
  | .movsb opts unused => Sys2Proof.Machine.execMovsb opts unused s
  | .movsw opts unused => Sys2Proof.Machine.execMovsw opts unused s
  | .movsd opts unused => Sys2Proof.Machine.execMovsd opts unused s
  | .movst opts unused => Sys2Proof.Machine.execMovst opts unused s
  | .cmpsb opts unused => Sys2Proof.Machine.execCmpsb opts unused s
  | .cmpsw opts unused => Sys2Proof.Machine.execCmpsw opts unused s
  | .cmpsd opts unused => Sys2Proof.Machine.execCmpsd opts unused s
  | .cmpst opts unused => Sys2Proof.Machine.execCmpst opts unused s
  | .skpsb opts unused => Sys2Proof.Machine.execSkpsb opts unused s
  | .skpsw opts unused => Sys2Proof.Machine.execSkpsw opts unused s
  | .skpsd opts unused => Sys2Proof.Machine.execSkpsd opts unused s
  | .skpst opts unused => Sys2Proof.Machine.execSkpst opts unused s
  | .setcfg cfglist unused => Sys2Proof.Machine.execSetcfg cfglist unused s
  -- Format 6 (R132)
  | .rotb gen1 gen2 => Sys2Proof.Machine.execRotb gen1 gen2 s
  | .rotw gen1 gen2 => Sys2Proof.Machine.execRotw gen1 gen2 s
  | .rotd gen1 gen2 => Sys2Proof.Machine.execRotd gen1 gen2 s
  | .ashb gen1 gen2 => Sys2Proof.Machine.execAshb gen1 gen2 s
  | .ashw gen1 gen2 => Sys2Proof.Machine.execAshw gen1 gen2 s
  | .ashd gen1 gen2 => Sys2Proof.Machine.execAshd gen1 gen2 s
  | .cbitb gen1 gen2 => Sys2Proof.Machine.execCbitb gen1 gen2 s
  | .cbitw gen1 gen2 => Sys2Proof.Machine.execCbitw gen1 gen2 s
  | .cbitd gen1 gen2 => Sys2Proof.Machine.execCbitd gen1 gen2 s
  | .cbitib gen1 gen2 => Sys2Proof.Machine.execCbitib gen1 gen2 s
  | .cbitiw gen1 gen2 => Sys2Proof.Machine.execCbitiw gen1 gen2 s
  | .cbitid gen1 gen2 => Sys2Proof.Machine.execCbitid gen1 gen2 s
  | .lshb gen1 gen2 => Sys2Proof.Machine.execLshb gen1 gen2 s
  | .lshw gen1 gen2 => Sys2Proof.Machine.execLshw gen1 gen2 s
  | .lshd gen1 gen2 => Sys2Proof.Machine.execLshd gen1 gen2 s
  | .sbitb gen1 gen2 => Sys2Proof.Machine.execSbitb gen1 gen2 s
  | .sbitw gen1 gen2 => Sys2Proof.Machine.execSbitw gen1 gen2 s
  | .sbitd gen1 gen2 => Sys2Proof.Machine.execSbitd gen1 gen2 s
  | .sbitib gen1 gen2 => Sys2Proof.Machine.execSbitib gen1 gen2 s
  | .sbitiw gen1 gen2 => Sys2Proof.Machine.execSbitiw gen1 gen2 s
  | .sbitid gen1 gen2 => Sys2Proof.Machine.execSbitid gen1 gen2 s
  | .negb gen1 gen2 => Sys2Proof.Machine.execNegb gen1 gen2 s
  | .negw gen1 gen2 => Sys2Proof.Machine.execNegw gen1 gen2 s
  | .negd gen1 gen2 => Sys2Proof.Machine.execNegd gen1 gen2 s
  | .notb gen1 gen2 => Sys2Proof.Machine.execNotb gen1 gen2 s
  | .notw gen1 gen2 => Sys2Proof.Machine.execNotw gen1 gen2 s
  | .notd gen1 gen2 => Sys2Proof.Machine.execNotd gen1 gen2 s
  | .subpb gen1 gen2 => Sys2Proof.Machine.execSubpb gen1 gen2 s
  | .subpw gen1 gen2 => Sys2Proof.Machine.execSubpw gen1 gen2 s
  | .subpd gen1 gen2 => Sys2Proof.Machine.execSubpd gen1 gen2 s
  | .absb gen1 gen2 => Sys2Proof.Machine.execAbsb gen1 gen2 s
  | .absw gen1 gen2 => Sys2Proof.Machine.execAbsw gen1 gen2 s
  | .absd gen1 gen2 => Sys2Proof.Machine.execAbsd gen1 gen2 s
  | .comb gen1 gen2 => Sys2Proof.Machine.execComb gen1 gen2 s
  | .comw gen1 gen2 => Sys2Proof.Machine.execComw gen1 gen2 s
  | .comd gen1 gen2 => Sys2Proof.Machine.execComd gen1 gen2 s
  | .ibitb gen1 gen2 => Sys2Proof.Machine.execIbitb gen1 gen2 s
  | .ibitw gen1 gen2 => Sys2Proof.Machine.execIbitw gen1 gen2 s
  | .ibitd gen1 gen2 => Sys2Proof.Machine.execIbitd gen1 gen2 s
  | .addpb gen1 gen2 => Sys2Proof.Machine.execAddpb gen1 gen2 s
  | .addpw gen1 gen2 => Sys2Proof.Machine.execAddpw gen1 gen2 s
  | .addpd gen1 gen2 => Sys2Proof.Machine.execAddpd gen1 gen2 s
  -- Format 7 (R133)
  | .movmb gen1 gen2 length => Sys2Proof.Machine.execMovmb gen1 gen2 length s
  | .movmw gen1 gen2 length => Sys2Proof.Machine.execMovmw gen1 gen2 length s
  | .movmd gen1 gen2 length => Sys2Proof.Machine.execMovmd gen1 gen2 length s
  | .cmpmb gen1 gen2 length => Sys2Proof.Machine.execCmpmb gen1 gen2 length s
  | .cmpmw gen1 gen2 length => Sys2Proof.Machine.execCmpmw gen1 gen2 length s
  | .cmpmd gen1 gen2 length => Sys2Proof.Machine.execCmpmd gen1 gen2 length s
  | .inssb gen1 gen2 offset lengthM1 => Sys2Proof.Machine.execInssb gen1 gen2 offset lengthM1 s
  | .inssw gen1 gen2 offset lengthM1 => Sys2Proof.Machine.execInssw gen1 gen2 offset lengthM1 s
  | .inssd gen1 gen2 offset lengthM1 => Sys2Proof.Machine.execInssd gen1 gen2 offset lengthM1 s
  | .extsb gen1 gen2 offset lengthM1 => Sys2Proof.Machine.execExtsb gen1 gen2 offset lengthM1 s
  | .extsw gen1 gen2 offset lengthM1 => Sys2Proof.Machine.execExtsw gen1 gen2 offset lengthM1 s
  | .extsd gen1 gen2 offset lengthM1 => Sys2Proof.Machine.execExtsd gen1 gen2 offset lengthM1 s
  | .mulb gen1 gen2 => Sys2Proof.Machine.execMulb gen1 gen2 s
  | .mulw gen1 gen2 => Sys2Proof.Machine.execMulw gen1 gen2 s
  | .muld gen1 gen2 => Sys2Proof.Machine.execMuld gen1 gen2 s
  | .meib gen1 gen2 => Sys2Proof.Machine.execMeib gen1 gen2 s
  | .meiw gen1 gen2 => Sys2Proof.Machine.execMeiw gen1 gen2 s
  | .meid gen1 gen2 => Sys2Proof.Machine.execMeid gen1 gen2 s
  | .deib gen1 gen2 => Sys2Proof.Machine.execDeib gen1 gen2 s
  | .deiw gen1 gen2 => Sys2Proof.Machine.execDeiw gen1 gen2 s
  | .deid gen1 gen2 => Sys2Proof.Machine.execDeid gen1 gen2 s
  | .quob gen1 gen2 => Sys2Proof.Machine.execQuob gen1 gen2 s
  | .quow gen1 gen2 => Sys2Proof.Machine.execQuow gen1 gen2 s
  | .quod gen1 gen2 => Sys2Proof.Machine.execQuod gen1 gen2 s
  | .remb gen1 gen2 => Sys2Proof.Machine.execRemb gen1 gen2 s
  | .remw gen1 gen2 => Sys2Proof.Machine.execRemw gen1 gen2 s
  | .remd gen1 gen2 => Sys2Proof.Machine.execRemd gen1 gen2 s
  | .modb gen1 gen2 => Sys2Proof.Machine.execModb gen1 gen2 s
  | .modw gen1 gen2 => Sys2Proof.Machine.execModw gen1 gen2 s
  | .modd gen1 gen2 => Sys2Proof.Machine.execModd gen1 gen2 s
  | .divb gen1 gen2 => Sys2Proof.Machine.execDivb gen1 gen2 s
  | .divw gen1 gen2 => Sys2Proof.Machine.execDivw gen1 gen2 s
  | .divd gen1 gen2 => Sys2Proof.Machine.execDivd gen1 gen2 s
  | .movxbw gen1 gen2 => Sys2Proof.Machine.execMovxbw gen1 gen2 s
  | .movzbw gen1 gen2 => Sys2Proof.Machine.execMovzbw gen1 gen2 s
  | .movzbd gen1 gen2 => Sys2Proof.Machine.execMovzbd gen1 gen2 s
  | .movzwd gen1 gen2 => Sys2Proof.Machine.execMovzwd gen1 gen2 s
  | .movxbd gen1 gen2 => Sys2Proof.Machine.execMovxbd gen1 gen2 s
  | .movxwd gen1 gen2 => Sys2Proof.Machine.execMovxwd gen1 gen2 s
  -- Format 8 (R134)
  | .extb reg gen1 gen2 length => Sys2Proof.Machine.execExtb reg gen1 gen2 length s
  | .extw reg gen1 gen2 length => Sys2Proof.Machine.execExtw reg gen1 gen2 length s
  | .extd reg gen1 gen2 length => Sys2Proof.Machine.execExtd reg gen1 gen2 length s
  | .insb reg gen1 gen2 length => Sys2Proof.Machine.execInsb reg gen1 gen2 length s
  | .insw reg gen1 gen2 length => Sys2Proof.Machine.execInsw reg gen1 gen2 length s
  | .insd reg gen1 gen2 length => Sys2Proof.Machine.execInsd reg gen1 gen2 length s
  | .checkb reg gen1 gen2 => Sys2Proof.Machine.execCheckb reg gen1 gen2 s
  | .checkw reg gen1 gen2 => Sys2Proof.Machine.execCheckw reg gen1 gen2 s
  | .checkd reg gen1 gen2 => Sys2Proof.Machine.execCheckd reg gen1 gen2 s
  | .indexb reg gen1 gen2 => Sys2Proof.Machine.execIndexb reg gen1 gen2 s
  | .indexw reg gen1 gen2 => Sys2Proof.Machine.execIndexw reg gen1 gen2 s
  | .indexd reg gen1 gen2 => Sys2Proof.Machine.execIndexd reg gen1 gen2 s
  | .cvtp reg gen1 gen2 => Sys2Proof.Machine.execCvtp reg gen1 gen2 s
  | .ffsb gen1 gen2 unused => Sys2Proof.Machine.execFfsb gen1 gen2 unused s
  | .ffsw gen1 gen2 unused => Sys2Proof.Machine.execFfsw gen1 gen2 unused s
  | .ffsd gen1 gen2 unused => Sys2Proof.Machine.execFfsd gen1 gen2 unused s
  | .movsub gen1 gen2 => Sys2Proof.Machine.execMovsub gen1 gen2 s
  | .movsuw gen1 gen2 => Sys2Proof.Machine.execMovsuw gen1 gen2 s
  | .movsud gen1 gen2 => Sys2Proof.Machine.execMovsud gen1 gen2 s
  | .movusb gen1 gen2 => Sys2Proof.Machine.execMovusb gen1 gen2 s
  | .movusw gen1 gen2 => Sys2Proof.Machine.execMovusw gen1 gen2 s
  | .movusd gen1 gen2 => Sys2Proof.Machine.execMovusd gen1 gen2 s
  -- Format 9 (R135)
  | .movbf gen1 gen2 => Sys2Proof.Machine.execMovbf gen1 gen2 s
  | .movbl gen1 gen2 => Sys2Proof.Machine.execMovbl gen1 gen2 s
  | .movwf gen1 gen2 => Sys2Proof.Machine.execMovwf gen1 gen2 s
  | .movwl gen1 gen2 => Sys2Proof.Machine.execMovwl gen1 gen2 s
  | .movdf gen1 gen2 => Sys2Proof.Machine.execMovdf gen1 gen2 s
  | .movdl gen1 gen2 => Sys2Proof.Machine.execMovdl gen1 gen2 s
  | .roundfb gen1 gen2 => Sys2Proof.Machine.execRoundfb gen1 gen2 s
  | .roundfw gen1 gen2 => Sys2Proof.Machine.execRoundfw gen1 gen2 s
  | .roundfd gen1 gen2 => Sys2Proof.Machine.execRoundfd gen1 gen2 s
  | .roundlb gen1 gen2 => Sys2Proof.Machine.execRoundlb gen1 gen2 s
  | .roundlw gen1 gen2 => Sys2Proof.Machine.execRoundlw gen1 gen2 s
  | .roundld gen1 gen2 => Sys2Proof.Machine.execRoundld gen1 gen2 s
  | .truncfb gen1 gen2 => Sys2Proof.Machine.execTruncfb gen1 gen2 s
  | .truncfw gen1 gen2 => Sys2Proof.Machine.execTruncfw gen1 gen2 s
  | .truncfd gen1 gen2 => Sys2Proof.Machine.execTruncfd gen1 gen2 s
  | .trunclb gen1 gen2 => Sys2Proof.Machine.execTrunclb gen1 gen2 s
  | .trunclw gen1 gen2 => Sys2Proof.Machine.execTrunclw gen1 gen2 s
  | .truncld gen1 gen2 => Sys2Proof.Machine.execTruncld gen1 gen2 s
  | .floorfb gen1 gen2 => Sys2Proof.Machine.execFloorfb gen1 gen2 s
  | .floorfw gen1 gen2 => Sys2Proof.Machine.execFloorfw gen1 gen2 s
  | .floorfd gen1 gen2 => Sys2Proof.Machine.execFloorfd gen1 gen2 s
  | .floorlb gen1 gen2 => Sys2Proof.Machine.execFloorlb gen1 gen2 s
  | .floorlw gen1 gen2 => Sys2Proof.Machine.execFloorlw gen1 gen2 s
  | .floorld gen1 gen2 => Sys2Proof.Machine.execFloorld gen1 gen2 s
  | .movlf gen1 gen2 => Sys2Proof.Machine.execMovlf gen1 gen2 s
  | .movfl gen1 gen2 => Sys2Proof.Machine.execMovfl gen1 gen2 s
  | .lfsr gen unused => Sys2Proof.Machine.execLfsr gen unused s
  | .sfsr gen unused => Sys2Proof.Machine.execSfsr gen unused s
  -- Format 11 (R136)
  | .addf gen1 gen2 => Sys2Proof.Machine.execAddf gen1 gen2 s
  | .addl gen1 gen2 => Sys2Proof.Machine.execAddl gen1 gen2 s
  | .movf gen1 gen2 => Sys2Proof.Machine.execMovf gen1 gen2 s
  | .movl gen1 gen2 => Sys2Proof.Machine.execMovl gen1 gen2 s
  | .cmpf gen1 gen2 => Sys2Proof.Machine.execCmpf gen1 gen2 s
  | .cmpl gen1 gen2 => Sys2Proof.Machine.execCmpl gen1 gen2 s
  | .subf gen1 gen2 => Sys2Proof.Machine.execSubf gen1 gen2 s
  | .subl gen1 gen2 => Sys2Proof.Machine.execSubl gen1 gen2 s
  | .negf gen1 gen2 => Sys2Proof.Machine.execNegf gen1 gen2 s
  | .negl gen1 gen2 => Sys2Proof.Machine.execNegl gen1 gen2 s
  | .divf gen1 gen2 => Sys2Proof.Machine.execDivf gen1 gen2 s
  | .divl gen1 gen2 => Sys2Proof.Machine.execDivl gen1 gen2 s
  | .mulf gen1 gen2 => Sys2Proof.Machine.execMulf gen1 gen2 s
  | .mull gen1 gen2 => Sys2Proof.Machine.execMull gen1 gen2 s
  | .absf gen1 gen2 => Sys2Proof.Machine.execAbsf gen1 gen2 s
  | .absl gen1 gen2 => Sys2Proof.Machine.execAbsl gen1 gen2 s
  -- Format 14 (R137)
  | .rdval loc unused => Sys2Proof.Machine.execRdval loc unused s
  | .wrval loc unused => Sys2Proof.Machine.execWrval loc unused s
  | .lmr mmureg gen unused => Sys2Proof.Machine.execLmr mmureg gen unused s
  | .smr mmureg gen unused => Sys2Proof.Machine.execSmr mmureg gen unused s
  -- Rows that are no instruction (R190): first bytes
  | .custom16 => Sys2Proof.Machine.execCustom16 s
  | .custom36 => Sys2Proof.Machine.execCustom36 s
  | .customB6 => Sys2Proof.Machine.execCustomB6 s
  | .und7E => Sys2Proof.Machine.execUnd7E s
  | .undFE => Sys2Proof.Machine.execUndFE s
  | .und9E => Sys2Proof.Machine.execUnd9E s
  | .und5E => Sys2Proof.Machine.execUnd5E s
  | .undDE => Sys2Proof.Machine.execUndDE s
  | .und8E => Sys2Proof.Machine.execUnd8E s
  | .undX6Other raw => Sys2Proof.Machine.execUndX6Other raw s
  -- two-byte encodings, the Basic Instruction kept whole
  | .undF3Op1000B raw => Sys2Proof.Machine.execUndF3Op1000B raw s
  | .undF3OpOddB raw => Sys2Proof.Machine.execUndF3OpOddB raw s
  | .undCXPDIB raw => Sys2Proof.Machine.execUndCXPDIB raw s
  | .undJUMPIB raw => Sys2Proof.Machine.execUndJUMPIB raw s
  | .undJSRIB raw => Sys2Proof.Machine.execUndJSRIB raw s
  | .undF3Op1000W raw => Sys2Proof.Machine.execUndF3Op1000W raw s
  | .undF3OpOddW raw => Sys2Proof.Machine.execUndF3OpOddW raw s
  | .undCXPDIW raw => Sys2Proof.Machine.execUndCXPDIW raw s
  | .undJUMPIW raw => Sys2Proof.Machine.execUndJUMPIW raw s
  | .undJSRIW raw => Sys2Proof.Machine.execUndJSRIW raw s
  | .undF3Op1000D raw => Sys2Proof.Machine.execUndF3Op1000D raw s
  | .undF3OpOddD raw => Sys2Proof.Machine.execUndF3OpOddD raw s
  | .undBICPSRD raw => Sys2Proof.Machine.execUndBICPSRD raw s
  | .undBISPSRD raw => Sys2Proof.Machine.execUndBISPSRD raw s
  | .undADDRIB raw => Sys2Proof.Machine.execUndADDRIB raw s
  | .undADDRIW raw => Sys2Proof.Machine.execUndADDRIW raw s
  -- three-byte encodings, the Basic Instruction kept whole
  | .undF5Op1xxx raw => Sys2Proof.Machine.execUndF5Op1xxx raw s
  | .undF5OpX1xx raw => Sys2Proof.Machine.execUndF5OpX1xx raw s
  | .undSETCFGI raw => Sys2Proof.Machine.execUndSETCFGI raw s
  | .faultF5TI raw => Sys2Proof.Machine.execFaultF5TI raw s
  | .faultF5I10 raw => Sys2Proof.Machine.execFaultF5I10 raw s
  | .undF6Op0100 raw => Sys2Proof.Machine.execUndF6Op0100 raw s
  | .undF6Op1010 raw => Sys2Proof.Machine.execUndF6Op1010 raw s
  | .faultF6I10 raw => Sys2Proof.Machine.execFaultF6I10 raw s
  | .undF7Op1010 raw => Sys2Proof.Machine.execUndF7Op1010 raw s
  | .undMOVXBWI raw => Sys2Proof.Machine.execUndMOVXBWI raw s
  | .undMOVZBWI raw => Sys2Proof.Machine.execUndMOVZBWI raw s
  | .undMOVZiDD raw => Sys2Proof.Machine.execUndMOVZiDD raw s
  | .undMOVXiDD raw => Sys2Proof.Machine.execUndMOVXiDD raw s
  | .faultF7I10 raw => Sys2Proof.Machine.execFaultF7I10 raw s
  | .undF8Op111 raw => Sys2Proof.Machine.execUndF8Op111 raw s
  | .undCVTPI raw => Sys2Proof.Machine.execUndCVTPI raw s
  | .undF8Op110Reg000 raw => Sys2Proof.Machine.execUndF8Op110Reg000 raw s
  | .undF8Op110Reg010 raw => Sys2Proof.Machine.execUndF8Op110Reg010 raw s
  | .undF8Op110Reg100 raw => Sys2Proof.Machine.execUndF8Op110Reg100 raw s
  | .undF8Op110Reg101 raw => Sys2Proof.Machine.execUndF8Op110Reg101 raw s
  | .undF8Op110Reg110 raw => Sys2Proof.Machine.execUndF8Op110Reg110 raw s
  | .undF8Op110Reg111 raw => Sys2Proof.Machine.execUndF8Op110Reg111 raw s
  | .faultF8I10 raw => Sys2Proof.Machine.execFaultF8I10 raw s
  | .undLFSRFi raw => Sys2Proof.Machine.execUndLFSRFi raw s
  | .undMOVLFFi raw => Sys2Proof.Machine.execUndMOVLFFi raw s
  | .undMOVFLFi raw => Sys2Proof.Machine.execUndMOVFLFi raw s
  | .undSFSRFi raw => Sys2Proof.Machine.execUndSFSRFi raw s
  | .faultF9I10 raw => Sys2Proof.Machine.execFaultF9I10 raw s
  | .fpuILLEGAL0011 raw => Sys2Proof.Machine.execFpuILLEGAL0011 raw s
  | .fpuILLEGAL1001 raw => Sys2Proof.Machine.execFpuILLEGAL1001 raw s
  | .undF11Op011x raw => Sys2Proof.Machine.execUndF11Op011x raw s
  | .undF11Op101x raw => Sys2Proof.Machine.execUndF11Op101x raw s
  | .undF11Op111x raw => Sys2Proof.Machine.execUndF11Op111x raw s
  | .undF11Bit9 raw => Sys2Proof.Machine.execUndF11Bit9 raw s
  | .undF14Op1xxx raw => Sys2Proof.Machine.execUndF14Op1xxx raw s
  | .undF14OpX1xx raw => Sys2Proof.Machine.execUndF14OpX1xx raw s
  | .undF14I raw => Sys2Proof.Machine.execUndF14I raw s

end Sys2Proof.Machine
end

