-- ==== Sys2Proof/Machine/Fetch.lean ====
section
/-! DEFINITION. What a step does around the instruction it executes (spec/60_exceptions.md R511, R547): the environment's
inputs, Reset, the fetch, and the tests at the instruction boundary. -/

namespace Sys2Proof.Machine

/-! ### The environment's inputs -/

/-- Memory after a write by another bus master (R105, D5), which the memory map allows in RAM only. -/
def State.otherWrite (s : State) (w : Addr × Byte) : State :=
  match s.platform.kindAt w.1.toNat with
  | .ram => s.storeByte w.1.toNat w.2
  | _ => s

/-- The state with what the environment does before this step: the NMI latch takes a falling edge, INT is a level (R65,
R66, D22). -/
def State.takeInputs (s : State) : State :=
  match s.inputs with
  | [] => s
  | i :: rest =>
    let t := i.writes.foldl State.otherWrite { s with inputs := rest }
    { t with nmiPending := t.nmiPending || i.nmiEdge, intLine := i.intLevel }

/-- Whether RST is received in this step (R580). -/
def State.resetRequested (s : State) : Bool :=
  match s.inputs with
  | [] => false
  | i :: _ => i.rst

/-- Reset (R580): memory, the platform and the environment are not part of it (R581); a register that R72 leaves undefined
has the value it has in `State.reset` (log 29). -/
def State.restart (s : State) : State :=
  { State.reset with
    buffer := Config.bufferAfterReset s.buffer
    mem := s.mem
    intLine := s.intLine
    platform := s.platform
    inputs := s.inputs
    answers := s.answers
    events := s.events
    draws := s.draws }

/-! ### The instruction boundary -/

/-- Whether an interrupt is accepted at an instruction boundary (R530, R547). -/
def State.interrupted (s : State) : Bool := s.nmiPending || (s.intLine && s.flag bitI)

/-- The interrupt of highest priority taken (R547, R531). -/
def serveInterrupt (inString : Bool) (ra : Addr) (s : State) : Result := takeInterrupt s.nmiPending inString ra s

/-- The tests at the boundary that a step ends with (R511, R547): NMI, INT, Trace. Between two passes of a string
instruction only interrupts are tested (R530, log 36); WAIT and DIA give their own return addresses (R404, R405). -/
def boundary (s : State) : Result :=
  match s.activity with
  | .running =>
    if s.interrupted then serveInterrupt false s.pc s
    else if s.flag bitP && s.flag bitT then takeTrace s
    else .next s
  | .inString => if s.interrupted then serveInterrupt true s.pc s else .next s
  | .waiting =>
    if s.interrupted then
      if inSpace (s.pc.toNat + 1) 1 then serveInterrupt false (s.pc + 1) s else .fault .outsideSpace
    else .next s
  | .diagnosing => if s.interrupted then serveInterrupt false s.pc s else .next s
  | .afterException => .next s

/-- The boundary after an instruction's own outcome. -/
def endStep (r : Result) : Result :=
  match r with
  | .next s => boundary s
  | .fault f => .fault f
  | .refused x => .refused x

/-- How a step begins: it is already over, or an instruction is executed in a state. -/
inductive Start
  | done (r : Result)
  | run (s : State)

/-- The state in which the instruction at PC begins: P takes T (R548). -/
def State.begin (s : State) : State := { s.setFlag bitP (s.flag bitT) with activity := .running }

/-- The beginning of a step (R511): the inputs; Reset; the wait for an interrupt; an interrupt at the boundary that the
end of an exception sequence is (D29, log 21). -/
def startStep (s : State) : Start :=
  let t := s.takeInputs
  if s.resetRequested then .done (.next t.restart)
  else
    match t.activity with
    | .waiting => .done (boundary t)
    | .diagnosing => .done (boundary t)
    | .afterException => if t.interrupted then .done (serveInterrupt false t.pc t) else .run t.begin
    | .running => .run t.begin
    | .inString => .run t.begin

/-! ### Fetch -/

/-- One byte of the instruction stream (`IFetch` of R10), which a device answers at its own addresses (R100, log 32). A
byte stored since the last queue flush has no defined value here (R103, D7, log 18). -/
def fetchByte (a : Int) : Act Byte := do
  ensure (inSpace a 1) .outsideSpace
  let pa ← physical (BitVec.ofInt 24 a) (← get).mode .execute
  if pa.toNat ∈ (← get).queueDirty then refuse .storedIntoQueue
  readByte pa

/-- The bytes of the instruction stream from an address on, `n` of them or as many as can be fetched, why the next one
cannot, and the state in which the last was fetched. -/
def fetchWindow : Nat → Int → State → List Byte × Stop × State
  | 0, _, s => ([], .fault .outsideSpace, s)
  | n + 1, a, s =>
    match (fetchByte a).run s with
    | .ok b t =>
      let w := fetchWindow n (a + 1) t
      (b :: w.1, w.2)
    | .error x t => ([], x, t)

/-- SC1 and SC0, the halves of SC (R63). -/
def MmuRegs.counts (m : MmuRegs) : Word × Word :=
  let high := m.sc.extractLsb' 16 16
  let low := m.sc.extractLsb' 0 16
  if Config.sc1High then (high, low) else (low, high)

/-- The registers with other counts SC1 and SC0 (R63). -/
def MmuRegs.setCounts (m : MmuRegs) (sc1 sc0 : Word) : MmuRegs :=
  { m with sc := if Config.sc1High then (sc1 ++ sc0 : BitVec (16 + 16)) else (sc0 ++ sc1 : BitVec (16 + 16)) }

/-- The program flow traced at the fetch of the instruction at `pc` (R63, R591): PF0 and PF1 hold the addresses of the two
most recent non-sequentially fetched instructions, SC0 counts the sequential ones since the last of them, SC1 is the count
between the two. Log 49. -/
def MmuRegs.traceFlow (m : MmuRegs) (flow : Flow) (pc : Addr) : MmuRegs :=
  let (sc1, sc0) := MmuRegs.counts m
  match flow with
  | .traced => m
  | .sequential => MmuRegs.setCounts m sc1 (if sc0 = 0xFFFF then Config.countAfterLast else sc0 + 1)
  | .nonSequential =>
    let n := MmuRegs.setCounts m sc0 0
    if Config.pf0Newest then { n with pf0 := pc.setWidth 32, pf1 := m.pf0 }
    else { n with pf1 := pc.setWidth 32, pf0 := m.pf1 }

/-- The MMU's part in the fetch of an instruction of `n` bytes: its breakpoints, and the tracing of program flow. A further
pass of a string instruction is not traced again. -/
def observeFetch (n : Nat) : Act Unit := do
  let s ← get
  observe s.pc n s.mode .execute
  if s.translating then
    modify fun s => { s with
      mmu := if Config.flowTracing s.mmu s.mode then MmuRegs.traceFlow s.mmu s.flow s.pc else s.mmu
      flow := .traced }

/-- The instruction at PC (R26, R121) and the state in which it has been fetched, or why its bytes cannot all be fetched: a
byte past the instruction's end is no part of the fetch. -/
noncomputable def fetchInstr (s : State) : Except (Stop × State) (Instr × State) :=
  let w := fetchWindow maxLength s.pc.toNat s
  match decode w.1 with
  | .ok (i, _) =>
    match (observeFetch i.length).run (fetchWindow i.length s.pc.toNat s).2.2 with
    | .ok _ t => .ok (i, t)
    | .error x t => .error (x, t)
  | .error _ => .error w.2

/-- Bytes stored one after the other from an address on, as far as the space reaches. -/
def storeBytes : List Byte → Nat → List Host.Cell → List Host.Cell
  | [], _, m => m
  | b :: rest, a, m => storeBytes rest (a + 1) (if a < 2 ^ 24 then Memory.write m a b else m)

end Sys2Proof.Machine
end

