-- ==== Sys2Proof/Machine/Step.lean ====
section
/-! DEFINITION. One step of the machine (spec/60_exceptions.md R511). It is marked noncomputable because the decoder is
(Decode.lean); the kernel evaluates it. -/

namespace Sys2Proof.Machine

/-- One step (R511). -/
noncomputable def step (s : State) : Host.Outcome State Fault Refusal :=
  match startStep s with
  | .done r => r
  | .run t =>
    match fetchInstr t with
    | .ok (i, u) => endStep (exec i u)
    | .error e => abandon t e.1 e.2

/-- The state with an instruction placed where the next step fetches it: its bytes from PC on, the environment quiet, no
instruction unfinished and the instruction queue flushed. In the states after Reset addresses are physical and PC is in
RAM. -/
def State.withFetchWord (s : State) (nbits w : Nat) : State :=
  { s with
    mem := storeBytes (littleEndian maxLength (w % 2 ^ nbits)) s.pc.toNat s.mem
    activity := .running
    queueDirty := []
    inputs := [] }

end Sys2Proof.Machine
end

