-- ==== Sys2Proof/Safety.lean ====
section
/-! DEFINITION. The terms in which statements about the machine are made: what an action gives, what an instruction
leaves unchanged, how an instruction ends, what an exception sequence leaves, and the invariant of every run. -/

namespace Sys2Proof.Machine

/-! ### Actions -/

/-- An action succeeds: from `s` it answers `v` and leaves `t`. -/
def Gives {α : Type} (m : Act α) (s : State) (v : α) (t : State) : Prop := m.run s = .ok v t

/-- An action is abandoned: from `s` it stops for the reason `x`, having reached `t`. -/
def Abandons {α : Type} (m : Act α) (s : State) (x : Stop) (t : State) : Prop := m.run s = .error x t

/-- An rmw operand (R153) is located at `x` and read: from `s` it holds `v`, leaving `t`. -/
def ReadsRmw (k : Kind) (n : Nat) (g : Gen) (s : State) (x : Loc) (v : QWord) (t : State) : Prop :=
  ∃ u, Gives (locateRmw k n g) s x u ∧ Gives (readLoc k n x) u v t

/-! ### What an instruction may touch -/

/-- The dedicated registers. `sp` is the stack pointer that PSR.S selects, `otherSp` the one it does not (R30). -/
inductive Special
  | sp
  | otherSp
  | fp
  | sb
  | mod
  | intbase
  | cfg
  | fsr
  | mmu
deriving DecidableEq, Repr

/-- What an instruction may change: general registers, floating-point registers, bytes at physical addresses, bits of the
PSR, dedicated registers. -/
structure Touched where
  regs : List Reg := []
  fregs : List Reg := []
  cells : List Nat := []
  flags : List Nat := []
  special : List Special := []

/-- From `s` to `t` nothing has changed but what is touched. The program counter, the instruction queue, the Translation
Buffer, the environment's view and the count of free values are not constrained; nor is BCNT while the MMU counts
breakpoints in it (R63). -/
structure Keeps (w : Touched) (s t : State) : Prop where
  regs : ∀ r, r ∉ w.regs → t.reg r = s.reg r
  fregs : ∀ r, r ∉ w.fregs → t.freg r = s.freg r
  cells : ∀ a, a ∉ w.cells → Memory.read t.mem a = Memory.read s.mem a
  flags : ∀ k, k ∉ w.flags → t.psr.getLsbD k = s.psr.getLsbD k
  sp : .sp ∉ w.special → if s.flag bitS then t.sp1 = s.sp1 else t.sp0 = s.sp0
  otherSp : .otherSp ∉ w.special → if s.flag bitS then t.sp0 = s.sp0 else t.sp1 = s.sp1
  fp : .fp ∉ w.special → t.fp = s.fp
  sb : .sb ∉ w.special → t.sb = s.sb
  mod : .mod ∉ w.special → t.mod = s.mod
  intbase : .intbase ∉ w.special → t.intbase = s.intbase
  cfg : .cfg ∉ w.special → t.cfg = s.cfg
  fsr : .fsr ∉ w.special → t.fsr = s.fsr
  mmu : .mmu ∉ w.special → t.mmu = { s.mmu with bcnt := t.mmu.bcnt }
  bcnt : .mmu ∉ w.special → .cfg ∉ w.special → s.translating = false → t.mmu = s.mmu
  platform : t.platform = s.platform
  inputs : t.inputs = s.inputs
  nmi : t.nmiPending = s.nmiPending
  int : t.intLine = s.intLine

/-- The physical address at which a byte is stored (R101, R102). -/
def State.storedAt (s : State) (mode : Mode) (a : Nat) : Nat :=
  if s.translating then
    match Config.translate s.mmu s.buffer s.mem (BitVec.ofNat 24 a) mode .write with
    | .mapped pa => pa.toNat
    | _ => a
  else a

/-- The physical addresses of `n` bytes stored from a virtual address on. -/
def State.cellsAt (s : State) (mode : Mode) (a : Int) (n : Nat) : List Nat :=
  (List.range n).map fun k => s.storedAt mode (a.toNat + k)

/-- The bytes that writing a located operand of `n` bytes stores to, from the state in which it is written. -/
def Loc.cells (n : Nat) (s : State) : Loc → List Nat
  | .reg _ => []
  | .mem a => s.cellsAt s.mode a n
  | .push => s.cellsAt s.mode (s.sp.toNat - n) n

/-- The general registers that writing a located operand changes (R21, R22). -/
def Loc.regs (k : Kind) : Loc → List Reg
  | .reg r =>
    match k with
    | .int => [r]
    | .pair => [r, pairOf r]
    | .float => []
  | _ => []

/-- The floating-point registers that writing a located operand of `n` bytes changes (R51, R52). -/
def Loc.fregs (n : Nat) : Loc → List Reg
  | .reg r => if n = 4 then [r] else [r, pairOf r]
  | _ => []

/-- The stack pointer, for an operand that pops or pushes (R187). -/
def movesSp (g : Gen) : List Special :=
  match g with
  | .base .tos => [.sp]
  | _ => []

/-! ### How an instruction ends -/

/-- The state that goes on at an address, the instruction queue as it was (R27). -/
def State.onwards (s : State) (a : Nat) : State :=
  { s with pc := BitVec.ofNat 24 a, activity := .running, flow := .sequential }

/-- The state that goes on at an address after a transfer of control (R28, R103). -/
def State.jumped (s : State) (a : Nat) : State :=
  { s with pc := BitVec.ofNat 24 a, activity := .running, queueDirty := [], flow := .nonSequential }

/-- The address of the instruction that follows `i` in sequence (R27). -/
def State.nextPc (s : State) (i : Instr) : Nat := s.pc.toNat + i.length

/-- Instruction `i`, executed in `s`, ends with the next instruction in sequence in state `t` (its PC aside), and has
touched nothing but `w`. -/
def Completes (i : Instr) (s t : State) (w : Touched) : Prop :=
  exec i s = .next (t.onwards (s.nextPc i)) ∧ Keeps w s t

/-- There is an instruction address after `i`. -/
def State.fits (s : State) (i : Instr) : Prop := s.nextPc i < 2 ^ 24

/-! ### Memory and exception sequences, where every address is physical and RAM -/

/-- No translation, and every address RAM. -/
def State.plain (s : State) : Prop := s.translating = false ∧ ∀ a, s.platform.kindAt a = .ram

/-- The little-endian value of `n` bytes from an address on (R84). -/
def load (m : List Host.Cell) (a : Nat) : Nat → Nat
  | 0 => 0
  | n + 1 => (Memory.read m a).toNat + 256 * load m (a + 1) n

/-- `n` bytes stored from an address on, least significant first (R84). -/
def State.store (s : State) (a : Nat) : Nat → Nat → State
  | 0, _ => s
  | n + 1, v => (s.storeByte a (BitVec.ofNat 8 v)).store (a + 1) n (v / 256)

/-- The state after the three pushes of an exception sequence (R513), `psr` being the PSR it goes on with. -/
def State.pushed (s : State) (copy psr : Word) (ra : Addr) : State :=
  let s := { s with psr := psr }
  let a := s.sp0.toNat
  { ((s.store (a - 2) 2 copy.toNat).store (a - 4) 2 s.mod.toNat).store (a - 8) 4 ra.toNat with
    sp0 := BitVec.ofNat 24 (a - 8) }

/-- The descriptor in the Interrupt Dispatch Table (R97). -/
def State.descriptor (s : State) (vector : Nat) : Nat := load s.mem (s.intbase.toNat + 4 * vector) 4

/-- The state that the service procedure of a vector begins in (R541): MOD and SB are those of its module, PC is the
module's Program Base and the descriptor's offset. -/
def State.served (s : State) (vector : Nat) : State :=
  let desc := s.descriptor vector
  let m := desc % 2 ^ 16
  { s with
    mod := BitVec.ofNat 16 m
    sb := BitVec.ofNat 24 (load s.mem m 4)
    pc := BitVec.ofNat 24 (load s.mem (m + 8) 4 + desc / 2 ^ 16)
    queueDirty := []
    flow := .nonSequential
    activity := .afterException }

/-- The tables and the Interrupt Stack let a sequence complete (R553): the stack has room for eight bytes, the descriptor
and the module's entry exist, the entry point is in the address space. -/
def State.canServe (s : State) (copy psr : Word) (ra : Addr) (vector : Nat) : Prop :=
  s.plain ∧ 8 ≤ s.sp0.toNat ∧ s.intbase.toNat + 4 * vector + 4 ≤ 2 ^ 24 ∧
    let u := s.pushed copy psr ra
    u.descriptor vector % 2 ^ 16 < 0xFFF1 ∧
      load u.mem (u.descriptor vector % 2 ^ 16 + 8) 4 + u.descriptor vector / 2 ^ 16 < 2 ^ 24

/-- The PSR after a trap other than Abort (R540): bits S, U, P and T cleared. -/
def trapPsr (w : Word) : Word := w &&& 0xF8FD

/-- The PSR after an interrupt or an Abort (R531, R546): bits S, U, P, T and I cleared. -/
def interruptPsr (w : Word) : Word := w &&& 0xF0FD

/-- The state after the trap sequence (R540) of a trap raised in state `u`, the instruction having begun in `s`. -/
def State.trapped (s u : State) (t : Trap) : State :=
  ((restoreSp s u).pushed u.psr (trapPsr u.psr) s.pc).served t.vector

/-- The trap sequence of `State.trapped` can complete. -/
def State.canTrap (s u : State) (t : Trap) : Prop :=
  (restoreSp s u).canServe u.psr (trapPsr u.psr) s.pc t.vector

/-- The PSR copy with its P bit cleared, as an Abort, a Trace trap and the interrupt of an unfinished string instruction
push it (R551). -/
def withoutP (w : Word) : Word := w &&& 0xFBFF

/-- The state after an interrupt (R531) whose acknowledge read of address `a` was answered with `b`. -/
def State.interruptedBy (s : State) (copy : Word) (ra : Addr) (vector : Nat) (a : Nat) (b : Byte) (rest : List Byte) :
    State :=
  { (s.pushed copy (interruptPsr s.psr) ra).served vector with
    answers := rest
    events := s.events ++ [.acknowledge (BitVec.ofNat 24 a) b] }

/-! ### Accesses that the memory-management unit refuses -/

/-- The MMU maps the byte at an address for an access (R102). -/
def State.maps (s : State) (mode : Mode) (kind : AccessKind) (a : Nat) : Prop :=
  ∃ pa, Config.translate s.mmu s.buffer s.mem (BitVec.ofNat 24 a) mode kind = .mapped pa

/-- From `s` to `u` an access has been refused at an address: EIA takes it (R63), MSR and the Translation Buffer may hold
anything, and nothing else has changed. -/
def AbortRecorded (s u : State) (a : Nat) : Prop :=
  u.mmu.eia = BitVec.ofNat 32 a ∧
    u = { s with mmu := { s.mmu with eia := u.mmu.eia, msr := u.mmu.msr }, buffer := u.buffer }

/-- An access of `n` bytes from an address on is either mapped whole, or refused at its first byte that is not, in a state
with the property `p`. -/
def MappedOr (s : State) (mode : Mode) (kind : AccessKind) (a n : Nat) (p : State → Prop) : Prop :=
  (∀ k, k < n → s.maps mode kind (a + k)) ∨
    ∃ k, k < n ∧ (∀ j, j < k → s.maps mode kind (a + j)) ∧ ¬s.maps mode kind (a + k) ∧
      ∃ u, AbortRecorded s u (a + k) ∧ p u

/-- What memory accesses do from an address on, where addresses are physical, by what the memory map says lies there (R100,
R587, D28): first the access of one byte, then of more, which is made byte by byte, the lowest address first. -/
def Accesses (s : State) (a : Int) : Prop :=
  (inSpace a 1 = true → match s.platform.kindAt a.toNat with
    | .ram => ∀ v, Gives (memRead a 1) s ((Memory.read s.mem a.toNat).setWidth 64) s ∧
        Gives (memWrite a 1 v) s () (s.storeByte a.toNat (v.setWidth 8))
    | .rom => ∀ v, Gives (memRead a 1) s ((Memory.read s.mem a.toNat).setWidth 64) s ∧ Gives (memWrite a 1 v) s () s
    | .device =>
      (∀ b rest, s.answers = b :: rest →
        let t := { s with answers := rest, events := s.events ++ [.deviceRead (BitVec.ofInt 24 a) b] }
        Gives (memRead a 1) s (b.setWidth 64) t ∧ (a.toNat ∉ s.queueDirty → Gives (fetchByte a) s b t)) ∧
      (s.answers = [] → ∃ b : Byte, Gives (memRead a 1) s (b.setWidth 64)
        { s with draws := s.draws + 1, events := s.events ++ [.deviceRead (BitVec.ofInt 24 a) b] }) ∧
      ∀ v, Gives (memWrite a 1 v) s ()
        { s with
          events := s.events ++ [.deviceWrite (BitVec.ofInt 24 a) (v.setWidth 8)]
          queueDirty := s.dirtied a.toNat }
    | .absent => ∀ v, Abandons (memRead a 1) s (.fault .absentAddress) s ∧
        Abandons (memWrite a 1 v) s (.fault .absentAddress) s ∧
        (a.toNat ∉ s.queueDirty → Abandons (fetchByte a) s (.fault .absentAddress) s) ∧
        ∀ event, Abandons (ioRead event a) s (.fault .absentAddress) s) ∧
  ∀ (n : Nat) (b v : QWord) (u t : State), n ≤ 7 → inSpace a (n + 1) = true →
    (Gives (memRead a 1) s b u → Gives (memRead (a + 1) n) u v t →
      Gives (memRead a (n + 1)) s (BitVec.ofNat 64 (b.toNat + 256 * v.toNat)) t) ∧
    (Gives (memWrite a 1 v) s () u → Gives (memWrite (a + 1) n (v >>> 8)) u () t → Gives (memWrite a (n + 1) v) s () t)

/-- An operand is a place in memory that it names by an address (R178). -/
def inMemory : Gen → Bool
  | .base (.reg _) | .base .tos | .imm _ => false
  | _ => true

/-! ### Values -/

/-- A number that an operand of length `l` can hold as a signed integer (R8, R9). -/
def inRange (l : Len) (x : Int) : Bool := -(2 ^ (l.bits - 1)) ≤ x && x < 2 ^ (l.bits - 1)

/-- The number an exact value stands for. -/
def Exact.value (x : Exact) : Rat := (x.signed : Rat) / x.den

/-- A number that a floating-point format represents: a normalized number or a zero (R205, R206). -/
def Represents (y : FLen) (v : QWord) (x : Rat) : Prop := ∃ e, classify y v = some e ∧ e.value = x

/-- The rows of spec/opcode_table.json that are no instruction and keep their bytes (R190). -/
def keepsRaw : Instr → Bool
  | .undX6Other _ | .undF3Op1000B _ | .undF3OpOddB _ | .undCXPDIB _ | .undJUMPIB _ | .undJSRIB _ | .undF3Op1000W _
  | .undF3OpOddW _ | .undCXPDIW _ | .undJUMPIW _ | .undJSRIW _ | .undF3Op1000D _ | .undF3OpOddD _ | .undBICPSRD _
  | .undBISPSRD _ | .undADDRIB _ | .undADDRIW _ | .undF5Op1xxx _ | .undF5OpX1xx _ | .undSETCFGI _ | .faultF5TI _
  | .faultF5I10 _ | .undF6Op0100 _ | .undF6Op1010 _ | .faultF6I10 _ | .undF7Op1010 _ | .undMOVXBWI _
  | .undMOVZBWI _ | .undMOVZiDD _ | .undMOVXiDD _ | .faultF7I10 _ | .undF8Op111 _ | .undCVTPI _
  | .undF8Op110Reg000 _ | .undF8Op110Reg010 _ | .undF8Op110Reg100 _ | .undF8Op110Reg101 _ | .undF8Op110Reg110 _
  | .undF8Op110Reg111 _ | .faultF8I10 _ | .undLFSRFi _ | .undMOVLFFi _ | .undMOVFLFi _ | .undSFSRFi _
  | .faultF9I10 _ | .fpuILLEGAL0011 _ | .fpuILLEGAL1001 _ | .undF11Op011x _ | .undF11Op101x _ | .undF11Op111x _
  | .undF11Bit9 _ | .undF14Op1xxx _ | .undF14OpX1xx _ | .undF14I _ => true
  | _ => false

/-- `x` is the number of the `k` low digits of a packed decimal pattern, each of them 0 to 9 (R500). -/
def Decimal (v : QWord) (k x : Nat) : Prop := x < 10 ^ k ∧ ∀ j < k, v.toNat / 16 ^ j % 16 = x / 10 ^ j % 10

/-! ### Shapes of instructions, for statements that cover several -/

/-- Operand B is replaced by a function of operands A and B; no flag changes. -/
def ReplacesSecond (instr : Len → Gen → Gen → Instr) (f : Len → QWord → QWord → QWord) : Prop :=
  ∀ (l : Len) (src dest : Gen) (s s1 s2 w : State) (a b : QWord) (x : Loc),
    Gives (readInt l src) s a s1 → ReadsRmw .int l.bytes dest s1 x b s2 →
    Gives (writeInt l x (f l a b)) s2 () w → s.fits (instr l src dest) →
    Completes (instr l src dest) s w
      { regs := x.regs .int, cells := x.cells l.bytes s2, special := movesSp src }

/-- An operand of `n` bytes is read and a function of it is written as an operand of `m` bytes; no flag changes. -/
def Converts (n m : Nat) (instr : Gen → Gen → Instr) (f : QWord → QWord) : Prop :=
  ∀ (src dest : Gen) (s s1 s2 w : State) (a : QWord) (x : Loc),
    Gives (readOp .int n src) s a s1 → Gives (locateWrite .int m dest) s1 x s2 →
    Gives (writeLoc .int m x (f a)) s2 () w → s.fits (instr src dest) →
    Completes (instr src dest) s w
      { regs := x.regs .int, cells := x.cells m s2, special := movesSp src ++ movesSp dest }

/-- Where `may` holds, a value that depends on the state in which the instruction begins is written as an operand of class
write; no flag changes. -/
def SetsOperand (l : Len) (may : State → Prop) (instr : Gen → Instr) (f : State → QWord) : Prop :=
  ∀ (dest : Gen) (s s1 w : State) (x : Loc), may s →
    Gives (locateWrite .int l.bytes dest) s x s1 → Gives (writeInt l x (f s)) s1 () w → s.fits (instr dest) →
    Completes (instr dest) s w { regs := x.regs .int, cells := x.cells l.bytes s1, special := movesSp dest }

/-- A Boolean integer (R269) is written for a condition on the PSR. -/
def SetsBoolean (instr : Len → Gen → Instr) (cond : State → Bool) : Prop :=
  ∀ l, SetsOperand l (fun _ => True) (instr l) fun s => if cond s then 1 else 0

/-- Control goes to `PC + dest` if a condition on the PSR holds, and in sequence if not (R352). -/
def Branches (instr : Disp → Instr) (cond : State → Bool) : Prop :=
  ∀ (d : Disp) (s : State),
    (cond s = true → d.ok = true → 0 ≤ s.pc.toNat + d.value → s.pc.toNat + d.value < 2 ^ 24 →
      exec (instr d) s = .next (s.jumped (s.pc.toNat + d.value).toNat)) ∧
    (cond s = false → s.fits (instr d) → Completes (instr d) s s {})

/-- A shift by a signed count (R265) that gives `f`, or any value where the count is not below the operand's length. -/
def Shifts (instr : Len → Gen → Gen → Instr) (f : (l : Len) → Int → BitVec l.bits → BitVec l.bits) : Prop :=
  ∀ (l : Len) (count dest : Gen) (s s1 s2 : State) (a b : QWord) (x : Loc),
    Gives (readOp .int 1 count) s a s1 → ReadsRmw .int l.bytes dest s1 x b s2 → s.fits (instr l count dest) →
    let touched : Touched := { regs := x.regs .int, cells := x.cells l.bytes s2, special := movesSp count }
    ((sval 1 a).natAbs < l.bits → ∀ w,
      Gives (writeInt l x ((f l (sval 1 a) (b.setWidth l.bits)).setWidth 64)) s2 () w →
      Completes (instr l count dest) s w touched) ∧
    (l.bits ≤ (sval 1 a).natAbs → ∃ v, ∀ w, Gives (draw >>= fun _ => writeInt l x v) s2 () w →
      Completes (instr l count dest) s w touched)

/-- A signed division (R463) with a divisor other than zero that gives `f`; where the quotient does not fit and the
instruction delivers it, any value (U24). -/
def Divides (quotient : Bool) (instr : Len → Gen → Gen → Instr) (f : Int → Int → Int) : Prop :=
  ∀ (l : Len) (src dest : Gen) (s s1 s2 : State) (a b : QWord) (x : Loc),
    Gives (readInt l src) s a s1 → ReadsRmw .int l.bytes dest s1 x b s2 → sval l.bytes a ≠ 0 →
    s.fits (instr l src dest) →
    let touched : Touched := { regs := x.regs .int, cells := x.cells l.bytes s2, special := movesSp src }
    let overflow := sval l.bytes b = -(2 ^ (l.bits - 1)) ∧ sval l.bytes a = -1
    (¬(quotient = true ∧ overflow) → ∀ w,
      Gives (writeInt l x (BitVec.ofInt 64 (f (sval l.bytes b) (sval l.bytes a) % 2 ^ l.bits))) s2 () w →
      Completes (instr l src dest) s w touched) ∧
    (quotient = true → overflow → ∃ v, ∀ w, Gives (draw >>= fun _ => writeInt l x v) s2 () w →
      Completes (instr l src dest) s w touched)

/-- An integer divisor of zero: Trap(DVZ), with nothing written (R453). -/
def TrapsOnZero (k : Kind) (size : Len → Nat) (instr : Len → Gen → Gen → Instr) : Prop :=
  ∀ (l : Len) (src dest : Gen) (s s1 s2 : State) (a b : QWord) (x : Loc),
    Gives (readInt l src) s a s1 → ReadsRmw k (size l) dest s1 x b s2 → uval l.bytes a = 0 → s.canTrap s2 .dvz →
    exec (instr l src dest) s = .next (s.trapped s2 .dvz) ∧ Keeps { special := movesSp src } s s2

/-- The bits of a value after bit `k` was replaced. -/
def BitReplaced (n : Nat) (old new : BitVec n) (k : Nat) (b : Bool) : Prop :=
  ∀ j, j < n → new.getLsbD j = if j = k then b else old.getLsbD j

/-- A bit instruction with a register base (R281): F takes the old bit, the bit takes `f` of it. -/
def ChangesRegisterBit (instr : Len → Gen → Gen → Instr) (f : Bool → Bool) : Prop :=
  ∀ (l : Len) (offset : Gen) (r : Reg) (s s1 : State) (a : QWord) (new : DWord) (k : Nat),
    Gives (readInt l offset) s a s1 → sval l.bytes a = k → k < 32 → s.fits (instr l offset (.base (.reg r))) →
    BitReplaced 32 (s1.reg r) new k (f ((s1.reg r).getLsbD k)) →
    Completes (instr l offset (.base (.reg r))) s ((s1.setFlag bitF ((s1.reg r).getLsbD k)).setReg r new)
      { regs := [r], flags := [bitF], special := movesSp offset }

/-- A bit instruction with a memory base (R282): bit `offset MOD 8` of the byte at `base + offset DIV 8`. -/
def ChangesMemoryBit (instr : Len → Gen → Gen → Instr) (f : Bool → Bool) : Prop :=
  ∀ (l : Len) (offset base : Gen) (s s1 s2 s3 w : State) (a v new : QWord) (p : Int),
    (∀ r, base ≠ .base (.reg r)) → Gives (readInt l offset) s a s1 → Gives (addrOp base) s1 p s2 →
    Gives (memRead (p + sval l.bytes a / 8) 1) s2 v s3 → s.fits (instr l offset base) →
    let k := (sval l.bytes a % 8).toNat
    BitReplaced 64 v new k (f (v.getLsbD k)) →
    Gives (memWrite (p + sval l.bytes a / 8) 1 new) (s3.setFlag bitF (v.getLsbD k)) () w →
    Completes (instr l offset base) s w
      { cells := s3.cellsAt s3.mode (p + sval l.bytes a / 8) 1, flags := [bitF], special := movesSp offset }

/-- The condition under which step 4 of the string sequence ends the instruction (R312). -/
def stringEnds (o : StrOpts) (n : Nat) (element match' : QWord) : Prop :=
  (o.matching = .untilMatch ∧ uval n element = uval n match') ∨
    (o.matching = .whileMatch ∧ uval n element ≠ uval n match')

/-- An instruction that is executed by a floating-point unit, present and enabled (R200, D1). -/
def State.fpuReady (s : State) : Prop := s.cfg.getLsbD 1 = true ∧ s.platform.hasFpu = true

/-- An instruction that is executed by a memory-management unit, privileged, enabled and present (R436, D1). -/
def State.mmuReady (s : State) : Prop := s.flag bitU = false ∧ s.cfg.getLsbD 2 = true ∧ s.platform.hasMmu = true

/-- The effect for each integer length. -/
def byLen {α : Type} (b w d : α) : Len → α
  | .b => b
  | .w => w
  | .d => d

/-- The effect for each floating-point length. -/
def byFLen {α : Type} (f l : α) : FLen → α
  | .f => f
  | .l => l

/-- An addition to operand B (R452) of a value `a`, with the carry in `c`, from the state `s1` in which `a` is known. -/
def Adds (i : Instr) (l : Len) (a : QWord) (dest : Gen) (c : Bool) (popped : List Special) (s s1 : State) : Prop :=
  ∀ (s2 w : State) (b : QWord) (x : Loc),
    ReadsRmw .int l.bytes dest s1 x b s2 →
    Gives (writeInt l x (BitVec.ofNat 64 ((uval l.bytes b + uval l.bytes a + c.toNat) % 2 ^ l.bits))) s2 () w →
    s.fits i →
    Completes i s
      (w.setCF (decide (2 ^ l.bits ≤ uval l.bytes b + uval l.bytes a + c.toNat))
        (!inRange l (sval l.bytes b + sval l.bytes a + c.toNat)))
      { regs := x.regs .int, cells := x.cells l.bytes s2, flags := [bitC, bitF], special := popped }

/-- A bit field is read (R295 to R297): `len` bits from bit `off` on of a register, or of memory from the addressed byte on,
where its four bytes hold it. -/
def ReadsField (base : Gen) (off : Int) (len : Nat) (s : State) (v : Nat) (t : State) : Prop :=
  match base with
  | .base (.reg r) => 0 ≤ off ∧ off + len ≤ 32 ∧ v = (s.reg r).toNat / 2 ^ off.toNat % 2 ^ len ∧ t = s
  | _ => ∃ a u d, Gives (addrOp base) s a u ∧ off % 8 + len ≤ 32 ∧ Gives (memRead (a + off / 8) 4) u d t ∧
      v = d.toNat / 2 ^ (off % 8).toNat % 2 ^ len

/-- The bits of a value after the field of `len` bits from bit `k` on was replaced by the low bits of `x`. -/
def FieldReplaced (n : Nat) (old new : BitVec n) (k len x : Nat) : Prop :=
  ∀ j, j < n → new.getLsbD j = if k ≤ j ∧ j < k + len then x.testBit (j - k) else old.getLsbD j

/-- INSi or INSSi with a field of `len` bits at bit offset `off` (R295 to R297, R301): `v` is the source's value, read in
`s1`. The field takes a number whose low bits are the source's; the bits that a longer field has above them may be any
(U26). It stands in the base register, or in four bytes of memory from the addressed byte on, where they hold it. -/
def InsertsField (i : Instr) (l : Len) (src base : Gen) (off : Int) (len : Nat) (v : QWord) (s s1 : State) : Prop :=
  let u := if len ≤ l.bits then s1 else { s1 with draws := s1.draws + 1 }
  s.fits i →
  (∀ r, base = .base (.reg r) → 0 ≤ off → off + len ≤ 32 →
    ∃ (x : Nat) (new : DWord), x % 2 ^ l.bits = uval l.bytes v ∧ FieldReplaced 32 (u.reg r) new off.toNat len x ∧
      Completes i s (u.setReg r new) { regs := [r], special := movesSp src }) ∧
  ((∀ r, base ≠ .base (.reg r)) → off % 8 + len ≤ 32 → ∀ a s2 d s3,
    Gives (addrOp base) u a s2 → Gives (memRead (a + off / 8) 4) s2 d s3 →
    ∃ (x : Nat) (new : DWord), x % 2 ^ l.bits = uval l.bytes v ∧
      FieldReplaced 32 (d.setWidth 32) new (off % 8).toNat len x ∧
      ∀ w, Gives (memWrite (a + off / 8) 4 (new.setWidth 64)) s3 () w →
        Completes i s w { cells := s3.cellsAt s3.mode (a + off / 8) 4, special := movesSp src })

/-- The state in which a string instruction of a kind tests its first element: CMPS presets Z, N and L (R317). -/
def State.presetFor (kind : StrKind) (s : State) : State := if kind = .cmps then s.setZNL true false false else s

/-- One element of a string instruction (R312, R313): the element of String 1, or its translation, as it is used. -/
def ReadsElement (n : Nat) (translated : Bool) (s : State) (v : QWord) (t : State) : Prop :=
  if translated then
    ∃ e u, Gives (memRead (s.reg r1).toNat n) s e u ∧ Gives (memRead ((s.reg r3).toNat + uval 1 e) 1) u v t
  else Gives (memRead (s.reg r1).toNat n) s v t

/-- The flags that a string instruction of a kind writes. -/
def stringFlags (kind : StrKind) : List Nat := if kind = .cmps then [bitF, bitZ, bitN, bitL] else [bitF]

/-- A register moved by one element of `n` bytes (R312). -/
def moved (o : StrOpts) (n : Nat) (v : DWord) : DWord :=
  if o.backward then v - BitVec.ofNat 32 n else v + BitVec.ofNat 32 n

/-- A string instruction that goes on to its next element (R312): the addresses move, the count goes down, and the
instruction is still at PC. -/
def State.nextPass (s : State) (kind : StrKind) (o : StrOpts) (n : Nat) : State :=
  let t := s.setReg r1 (moved o n (s.reg r1))
  let t := if kind = .skps then t else t.setReg r2 (moved o n (s.reg r2))
  { t.setReg r0 (s.reg r0 - 1) with activity := .inString }

/-- A string instruction with elements of `n` bytes, from a state between two passes of it or before the first (R312). -/
def StringInstruction (kind : StrKind) (n : Nat) (translated : Bool) (instr : StrOpts → BitVec 6 → Instr) : Prop :=
  ∀ (o : StrOpts) (s : State), o.matching ≠ .reserved →
    let p := s.presetFor kind
    let i := instr o 0
    let flags := stringFlags kind
    (s.reg r0 = 0 → s.fits i → Completes i s (p.setFlag bitF false) { flags }) ∧
    (0 < (s.reg r0).toInt → ∀ v t, ReadsElement n translated p v t →
      (stringEnds o n v ((s.reg r4).setWidth 64) → s.fits i → Completes i s (t.setFlag bitF true) { flags }) ∧
      (¬stringEnds o n v ((s.reg r4).setWidth 64) →
        (kind = .movs → ∀ w, Gives (memWrite (s.reg r2).toNat n v) t () w →
          exec i s = .next (w.nextPass kind o n) ∧
          Keeps { regs := [r0, r1, r2], cells := t.cellsAt t.mode (s.reg r2).toNat n } s (w.nextPass kind o n)) ∧
        (kind = .skps → exec i s = .next (t.nextPass kind o n) ∧ Keeps { regs := [r0, r1] } s (t.nextPass kind o n)) ∧
        (kind = .cmps → ∀ m u, Gives (memRead (s.reg r2).toNat n) t m u →
          let c := u.setZNL (decide (uval n v = uval n m)) (decide (sval n m < sval n v)) (decide (uval n m < uval n v))
          (uval n v ≠ uval n m → s.fits i → Completes i s (c.setFlag bitF false) { flags }) ∧
          (uval n v = uval n m →
            exec i s = .next (c.nextPass kind o n) ∧ Keeps { regs := [r0, r1, r2], flags } s (c.nextPass kind o n)))))

/-- A dedicated register is loaded (R400) where `may` holds: `f` gives the state from the low bytes of the operand. -/
def LoadsRegister (l : Len) (may : State → Prop) (instr : Gen → Instr) (f : QWord → State → State) (flags : List Nat)
    (special : List Special) : Prop :=
  ∀ (src : Gen) (s s1 : State) (v : QWord), may s → Gives (readInt l src) s v s1 → s.fits (instr src) →
    Completes (instr src) s (f v s1) { flags, special := movesSp src ++ special }

/-- A floating-point operation on two operands (R218, R230 to R233): the exact result `e` of the values of A and B,
delivered to operand B. `zero` decides the sign of an exact zero. -/
def Computes (op : ArithOp) (instr : FLen → Gen → Gen → Instr) (f : Exact → Exact → Exact) : Prop :=
  ∀ (y : FLen) (src dest : Gen) (s s1 s2 s3 w : State) (a b r : QWord) (va vb : Exact) (x : Loc),
    s.fpuReady → Gives (readFloat y src) s a s1 → ReadsRmw .float y.bytes dest s1 x b s2 →
    classify y a = some va → classify y b = some vb → (op = .div → va.num ≠ 0) →
    Gives (fpDeliver y (f vb va) (Config.fpZeroSign op y a b (rounding s.fsr))) s2 r s3 →
    Gives (writeFloat y x r) s3 () w → s.fits (instr y src dest) →
    Completes (instr y src dest) s w
      { fregs := x.fregs y.bytes, cells := x.cells y.bytes s3, special := .fsr :: movesSp src }

/-- A floating-point operand that `may` admits is read and a function of its pattern is written; no flag changes. -/
def ConvertsFloat (y z : FLen) (may : QWord → Prop) (instr : Gen → Gen → Instr) (f : QWord → QWord) : Prop :=
  ∀ (src dest : Gen) (s s1 s2 w : State) (a : QWord) (x : Loc),
    s.fpuReady → Gives (readFloat y src) s a s1 → Gives (locateWrite .float z.bytes dest) s1 x s2 → may a →
    Gives (writeFloat z x (f a)) s2 () w → s.fits (instr src dest) →
    Completes (instr src dest) s w
      { fregs := x.fregs z.bytes, cells := x.cells z.bytes s2, special := movesSp src ++ movesSp dest }

/-- A floating-point value becomes an integer that `near` admits for it (R241 to R243); one that does not fit is an Overflow
(R213), one that is not the value itself an Inexact Result, which traps if it is enabled (R217). -/
def ToInteger (instr : FLen → Len → Gen → Gen → Instr) (near : Rat → Int → Prop) : Prop :=
  ∀ (y : FLen) (l : Len) (src dest : Gen) (s s1 s2 : State) (a : QWord) (v : Exact) (x : Loc),
    s.fpuReady → Gives (readFloat y src) s a s1 → Gives (locateWrite .int l.bytes dest) s1 x s2 →
    classify y a = some v →
    ∃ n : Int, near v.value n ∧
      (inRange l n = true → ∀ s3 w, Gives (inexactResult (decide ((n : Rat) ≠ v.value))) s2 () s3 →
        Gives (writeInt l x (BitVec.ofInt 64 (n % 2 ^ l.bits))) s3 () w → s.fits (instr y l src dest) →
        Completes (instr y l src dest) s w
          { regs := x.regs .int, cells := x.cells l.bytes s3, special := .fsr :: movesSp src ++ movesSp dest }) ∧
      (inRange l n = false → let u := { s2 with fsr := putTT s2.fsr 0b010 }
        s.canTrap u .fpu → exec (instr y l src dest) s = .next (s.trapped u .fpu)) ∧
      (inRange l n = true → (n : Rat) ≠ v.value → s2.fsr.getLsbD bitIEN = true →
        let u := { s2 with fsr := putTT (s2.setFsrBit bitIF).fsr 0b110 }
        s.canTrap u .fpu → exec (instr y l src dest) s = .next (s.trapped u .fpu))

/-- Rounded to a format's precision (R210), with no bound on its exponent, a number reaches the magnitude of 2^e. -/
def RoundsTo (y : FLen) (rm : BitVec 2) (x : Rat) (e : Int) : Prop :=
  let step : Rat := 2 ^ (e - 1 - byFLen 23 52 y)
  2 ^ e ≤ |x| ∨
    match rm with
    | 0b00 => 2 ^ e - step / 2 ≤ |x|
    | 0b01 => False
    | 0b10 => 2 ^ e - step < x
    | _ => x < -(2 ^ e - step)

/-- A result is too small for a format (R212): below the least normalized number, rounded or, if the parameter of D9 says
so, not yet rounded. -/
def TooSmall (y : FLen) (rm : BitVec 2) (x : Rat) : Prop :=
  let emin : Int := byFLen (-126) (-1022) y
  ¬RoundsTo y rm x emin ∨ (Config.tinyBeforeRounding = true ∧ |x| < 2 ^ emin)

/-- A result is too great for a format, once it is rounded (R213). -/
def TooGreat (y : FLen) (rm : BitVec 2) (x : Rat) : Prop := RoundsTo y rm x (byFLen 128 1024 y)

/-- An instruction with one floating-point source and a destination of `n` bytes that is only written: a Reserved operand is
an Invalid Operation (R216). -/
def TrapsOnReserved (y : FLen) (k : Kind) (n : Nat) (instr : Gen → Gen → Instr) : Prop :=
  ∀ (src dest : Gen) (s s1 s2 : State) (a : QWord) (x : Loc), s.fpuReady → Gives (readFloat y src) s a s1 →
    Gives (locateWrite k n dest) s1 x s2 → classify y a = none →
    let u := { s2 with fsr := putTT s2.fsr 0b101 }
    s.canTrap u .fpu → exec (instr src dest) s = .next (s.trapped u .fpu)

/-- The instructions that CFG.F enables (R200). -/
def usesFpu : Instr → Bool
  | .movbf _ _ | .movbl _ _ | .movwf _ _ | .movwl _ _ | .movdf _ _ | .movdl _ _ | .roundfb _ _ | .roundfw _ _
  | .roundfd _ _ | .roundlb _ _ | .roundlw _ _ | .roundld _ _ | .truncfb _ _ | .truncfw _ _ | .truncfd _ _
  | .trunclb _ _ | .trunclw _ _ | .truncld _ _ | .floorfb _ _ | .floorfw _ _ | .floorfd _ _ | .floorlb _ _
  | .floorlw _ _ | .floorld _ _ | .movlf _ _ | .movfl _ _ | .lfsr _ _ | .sfsr _ _ | .addf _ _ | .addl _ _ | .movf _ _
  | .movl _ _ | .cmpf _ _ | .cmpl _ _ | .subf _ _ | .subl _ _ | .negf _ _ | .negl _ _ | .divf _ _ | .divl _ _
  | .mulf _ _ | .mull _ _ | .absf _ _ | .absl _ _ | .fpuILLEGAL0011 _ | .fpuILLEGAL1001 _ | .faultF9I10 _ => true
  | _ => false

/-- The instructions that CFG.M enables (R436). -/
def usesMmu : Instr → Bool
  | .lmr _ _ _ | .smr _ _ _ | .rdval _ _ | .wrval _ _ => true
  | _ => false

/-- The instructions that CFG.C enables (R441). -/
def usesCustom : Instr → Bool
  | .custom16 | .custom36 | .customB6 => true
  | _ => false

/-- The instructions that User Mode may not use (R515): the code of LPRi and SPRi names PSR or INTBASE. -/
def isPrivileged : Instr → Bool
  | .lmr _ _ _ | .smr _ _ _ | .rdval _ _ | .wrval _ _ | .movsub _ _ | .movsuw _ _ | .movsud _ _ | .movusb _ _
  | .movusw _ _ | .movusd _ _ | .setcfg _ _ | .bicpsrw _ | .bispsrw _ | .rett _ | .reti => true
  | .lprb p _ | .lprw p _ | .lprd p _ | .sprb p _ | .sprw p _ | .sprd p _ => p = 0b1101 || p = 0b1110
  | _ => false

/-- The codes of LPRi and SPRi that name no register (R175). -/
def namesNoRegister : Instr → Bool
  | .lprb p _ | .lprw p _ | .lprd p _ | .sprb p _ | .sprw p _ | .sprd p _ =>
    (0b0001#4 ≤ p && p ≤ 0b0111#4) || p = 0b1011 || p = 0b1100
  | _ => false

/-- The rows of spec/opcode_table.json whose encodings are assigned to no instruction (R138, R190). -/
def isUnassigned : Instr → Bool
  | .und7E | .undFE | .und9E | .und5E | .undDE | .und8E | .undX6Other _ | .undF3Op1000B _ | .undF3OpOddB _
  | .undCXPDIB _ | .undJUMPIB _ | .undJSRIB _ | .undF3Op1000W _ | .undF3OpOddW _ | .undCXPDIW _ | .undJUMPIW _
  | .undJSRIW _ | .undF3Op1000D _ | .undF3OpOddD _ | .undBICPSRD _ | .undBISPSRD _ | .undADDRIB _ | .undADDRIW _
  | .undF5Op1xxx _ | .undF5OpX1xx _ | .undSETCFGI _ | .undF6Op0100 _ | .undF6Op1010 _ | .undF7Op1010 _
  | .undMOVXBWI _ | .undMOVZBWI _ | .undMOVZiDD _ | .undMOVXiDD _ | .undF8Op111 _ | .undCVTPI _
  | .undF8Op110Reg000 _ | .undF8Op110Reg010 _ | .undF8Op110Reg100 _ | .undF8Op110Reg101 _ | .undF8Op110Reg110 _
  | .undF8Op110Reg111 _ | .undLFSRFi _ | .undMOVLFFi _ | .undMOVFLFi _ | .undSFSRFi _ | .undF11Op011x _
  | .undF11Op101x _ | .undF11Op111x _ | .undF11Bit9 _ | .undF14Op1xxx _ | .undF14OpX1xx _ | .undF14I _ => true
  | _ => false

/-- The memory-management registers by their codes (R176). -/
def mmuTable : List (BitVec 4 × (MmuRegs → DWord)) :=
  [(0b0000, MmuRegs.bpr0), (0b0001, MmuRegs.bpr1), (0b0100, MmuRegs.pf0), (0b0101, MmuRegs.pf1), (0b1000, MmuRegs.sc),
    (0b1010, MmuRegs.msr), (0b1011, MmuRegs.bcnt), (0b1100, MmuRegs.ptb0), (0b1101, MmuRegs.ptb1), (0b1111, MmuRegs.eia)]

/-- How many of the bits 0 to n-1 of a register list are set: the registers that come before the n-th (R392, R393). -/
def listed (list : Byte) (n : Nat) : Nat := ((List.range n).filter fun k => list.getLsbD k).length

/-- The registers that RESTORE and EXIT load (R393). -/
def restored (list : Byte) : List Reg := (List.finRange 8).filter fun r => list.getLsbD (7 - r.val)

/-! ### The invariant -/

/-- The invariant of the machine: memory is in canonical form (R80, R81); the reserved bits of the PSR are 0 (R34, D3);
right after an exception sequence the machine is in Supervisor Mode, on the Interrupt Stack and not traced (R551). -/
structure State.Inv (s : State) : Prop where
  memory : Memory.wf s.mem = true
  reserved : s.psr &&& ~~~psrMask = 0
  service : s.activity = .afterException →
    s.flag bitU = false ∧ s.flag bitS = false ∧ s.flag bitT = false ∧ s.flag bitP = false

end Sys2Proof.Machine
end

