-- ==== Sys2Proof/Certificates/Slice0/Obligations.lean ====
section
/-! DEFINITION. The statements for the provers, in the terms of Safety.lean. An operand is given by what the operand
primitives answer for it, so a statement holds for every addressing mode.

Encodings, the positions of the PSR's bits, operand roles and the flag effects that the specification marks "from general
knowledge" are PRESUMED (its entries G1 to G30, log 28). A statement that rests on such an entry, on a decision of the
specification or on a choice of the model names it. -/

section

open Sys2Proof Sys2Proof.Machine

/-! ### Encoding -/

/-- Every legal instruction but those that keep their bytes is decoded from its own encoding, whatever follows it
(R121, R189). The encodings are PRESUMED (G3 to G10, log 28). -/
def Obligations.EncodedInstructionIsDecoded : Prop :=
  ∀ (i : Instr) (rest : List Byte), i.wf = true → keepsRaw i = false → decode (encode i ++ rest) = .ok (i, rest)

/-- Every encoding of a row that is no instruction is decoded to that row (R139, R190). The encodings are PRESUMED (G3
to G10, G21, log 28). -/
def Obligations.UnassignedEncodingIsDecoded : Prop :=
  ∀ (i : Instr) (rest : List Byte), i.wf = true → keepsRaw i = true → decode (encode i ++ rest) = .ok (i, rest)

/-- Decoding loses no byte: what is decoded encodes to the bytes it was decoded from (R189). The encodings are
PRESUMED (G3 to G10, log 28). -/
def Obligations.DecodedBytesAreEncoded : Prop :=
  ∀ (bs rest : List Byte) (i : Instr), decode bs = .ok (i, rest) → bs = encode i ++ rest

/-- Any 25 bytes hold an instruction: no encoding is without a meaning of its own (R139, R190). The encodings are
PRESUMED (G3 to G10, G21, log 28). -/
def Obligations.EveryEncodingIsDecoded : Prop :=
  ∀ bs : List Byte, 25 ≤ bs.length →
    ∃ i rest, decode bs = .ok (i, rest) ∧ 1 ≤ i.length ∧ i.length ≤ 25 ∧ rest = bs.drop i.length

/-- Some encodings the specification prints, of Formats 1, 2, 4, 5 and 6, decoded (R127 to R132). The encodings are PRESUMED (G3 to
G10, log 28). -/
def Obligations.PrintedEncodingsAreDecoded : Prop :=
  -- R454: ADDB R0,R1 = 40 00; ADDW 4(SB),TOS = C1 D5 04
  decode [0x40, 0x00] = .ok (.addb (.base (.reg 0)) (.base (.reg 1)), []) ∧
  decode [0xC1, 0xD5, 0x04] = .ok (.addw (.base (.static (.d1 4))) (.base .tos), []) ∧
  -- R266: ASHD -4,R0 = 4E 07 A0 FC
  decode [0x4E, 0x07, 0xA0, 0xFC] = .ok (.ashd (.imm 0xFC) (.base (.reg 0)), []) ∧
  -- R391: ADDR @H'1000[R1:D],R2 = A7 F0 A9 90 00
  decode [0xA7, 0xF0, 0xA9, 0x90, 0x00] =
    .ok (.addr (.scaled .d 1 (.abs (.d2 0x1000))) (.base (.reg 2)), []) ∧
  -- R394: ENTER [R3,R5],16 = 82 28 10
  decode [0x82, 0x28, 0x10] = .ok (.enter 0x28 (.d1 16), []) ∧
  -- R401: SPRW MOD,TOS = AD BF
  decode [0xAD, 0xBF] = .ok (.sprw 0b1111 (.base .tos), []) ∧
  -- R402: SETCFG [I,F,M] = 0E 8B 03
  decode [0x0E, 0x8B, 0x03] = .ok (.setcfg 0b0111 0, [])

/-- A step runs the instruction whose bytes stand at PC: P takes T, the instruction is executed, and the step ends at the
boundary (R511, R548). The environment is quiet, the bytes can be fetched and none was stored to since the queue was
flushed (R103). -/
def Obligations.StepRunsDecodedInstruction : Prop :=
  ∀ (i : Instr) (s : State), i.wf = true → s.inputs = [] →
    (s.activity = .running ∨ s.activity = .inString ∨ (s.activity = .afterException ∧ s.interrupted = false)) →
    s.translating = false →
    (∀ k, k < (encode i).length →
      s.pc.toNat + k < 2 ^ 24 ∧
        (s.platform.kindAt (s.pc.toNat + k) = .ram ∨ s.platform.kindAt (s.pc.toNat + k) = .rom) ∧
        s.pc.toNat + k ∉ s.queueDirty ∧ some (Memory.read s.mem (s.pc.toNat + k)) = (encode i)[k]?) →
    step s = endStep (exec i s.begin)

/-! ### The machine -/

/-- What Reset leaves (R72, R580, R581): PC, PSR and FSR cleared whole, and the MSR fields of R72, which are cleared with
the whole of MSR because no source says where they lie (log 5). Memory, the platform and the environment (the INT level,
the inputs still to come, answers and events) stay. The registers the rules leave undefined are not mentioned. The NMI
latch, the empty queue and the activity are the model's reading (D22, logs 29 and 44). -/
def Obligations.ResetClears : Prop :=
  State.reset.pc = 0 ∧ State.reset.psr = 0 ∧ State.reset.fsr = 0 ∧ State.reset.mmu.msr = 0 ∧
  ∀ s : State, s.resetRequested = true →
    ∃ t, step s = .next t ∧ t.pc = 0 ∧ t.psr = 0 ∧ t.fsr = 0 ∧ t.activity = .running ∧ t.nmiPending = false ∧
      t.queueDirty = [] ∧ t.mmu.msr = 0 ∧ t.mem = s.takeInputs.mem ∧ t.platform = s.platform ∧
      t.intLine = s.takeInputs.intLine ∧ t.inputs = s.takeInputs.inputs ∧ t.answers = s.answers ∧ t.events = s.events

/-- The invariant holds after Reset. -/
def Obligations.ResetIsInvariant : Prop := State.reset.Inv

/-- Every step keeps the invariant: memory stays in canonical form (R80), the reserved bits of the PSR stay 0 (R34, D3),
an exception sequence ends in Supervisor Mode, on the Interrupt Stack, untraced (R551). -/
def Obligations.StepKeepsInvariant : Prop := ∀ s t : State, s.Inv → step s = .next t → t.Inv

/-- Only an exception or Reset leaves User Mode, and what User Mode may not use it does not change (R43, R514, R515): CFG,
INTBASE, U, S and I, the Interrupt Stack Pointer while the User Stack is selected, and the memory-management registers
but for those in which the MMU itself counts and traces (R63): BCNT, PF0, PF1 and SC, while it is active (logs 48 and
49). -/
def Obligations.UserModeIsConfined : Prop :=
  ∀ s t : State, s.flag bitU = true → s.resetRequested = false → step s = .next t → t.activity ≠ .afterException →
    t.flag bitU = true ∧ t.flag bitS = s.flag bitS ∧ t.flag bitI = s.flag bitI ∧ t.cfg = s.cfg ∧
      t.intbase = s.intbase ∧ (s.translating = false → t.mmu = s.mmu) ∧
      t.mmu = { s.mmu with bcnt := t.mmu.bcnt, pf0 := t.mmu.pf0, pf1 := t.mmu.pf1, sc := t.mmu.sc } ∧
      (s.flag bitS = true → t.sp0 = s.sp0)

/-- The order of the tests at an instruction boundary (R547, R548): NMI, INT if PSR.I is set, Trace if P and T are
set; between two passes of a string instruction no Trace; after WAIT, the address behind it (R404); none of them right
after a sequence. The return addresses of WAIT and DIA, the boundary after a sequence and the place of the string
passes are decisions (D19, D20, D29; logs 19, 20, 21, 36). -/
def Obligations.BoundaryPriority : Prop :=
  ∀ s : State,
    (s.activity = .running →
      (s.nmiPending = true → boundary s = takeInterrupt true false s.pc s) ∧
      (s.nmiPending = false → s.intLine = true → s.flag bitI = true → boundary s = takeInterrupt false false s.pc s) ∧
      (s.nmiPending = false → (s.intLine = false ∨ s.flag bitI = false) →
        (s.flag bitP = true → s.flag bitT = true → boundary s = takeTrace s) ∧
        (s.flag bitP = false ∨ s.flag bitT = false → boundary s = .next s))) ∧
    (s.activity = .inString →
      (s.interrupted = true → boundary s = takeInterrupt s.nmiPending true s.pc s) ∧
      (s.interrupted = false → boundary s = .next s)) ∧
    (s.activity = .waiting →
      (s.interrupted = true → s.pc.toNat + 1 < 2 ^ 24 → boundary s = takeInterrupt s.nmiPending false (s.pc + 1) s) ∧
      (s.interrupted = false → boundary s = .next s)) ∧
    (s.activity = .diagnosing →
      (s.interrupted = true → boundary s = takeInterrupt s.nmiPending false s.pc s) ∧
      (s.interrupted = false → boundary s = .next s)) ∧
    (s.activity = .afterException → boundary s = .next s)

/-! ### Exceptions -/

/-- The trap, abort and trace sequences (R540, R546, R550, R541), in plain memory. The halves of a descriptor are PRESUMED
(G11, log 28). That a sequence ends in a boundary of its own is a decision (D29, log 21); that an abort undoes nothing
but SP is the model's choice (log 15). -/
def Obligations.TrapSequences : Prop :=
  (∀ (t : Trap) (s u : State), t ≠ .abt → s.canTrap u t → takeTrap t s u = .next (s.trapped u t)) ∧
  (∀ s u : State, (restoreSp s u).canServe (withoutP u.psr) (interruptPsr u.psr) s.pc 2 →
    takeTrap .abt s u = .next (((restoreSp s u).pushed (withoutP u.psr) (interruptPsr u.psr) s.pc).served 2)) ∧
  (∀ s : State, s.canServe (withoutP s.psr) (trapPsr s.psr) s.pc 9 →
    takeTrace s = .next ((s.pushed (withoutP s.psr) (trapPsr s.psr) s.pc).served 9))

/-- What `State.pushed` and `State.served` mean, the words in which TrapSequences and InterruptSequence say what taking an
exception answers: the frame on the Interrupt Stack, and where control goes (R513, R541, R554). Eight bytes below the old SP0
hold, from the top down, the PSR copy, MOD and the return address; nothing else of memory and no register
but PSR, MOD, SB, PC and SP0 has changed. The halves of a descriptor are PRESUMED (G11, log 28); the activity, by which the
end of a sequence is a boundary of its own, is a decision (D29, log 21). -/
def Obligations.ExceptionFrame : Prop :=
  ∀ (s : State) (copy psr : Word) (ra : Addr) (vector : Nat), s.canServe copy psr ra vector →
    let u := s.pushed copy psr ra
    let t := u.served vector
    let a := s.sp0.toNat
    t.sp0.toNat = a - 8 ∧ load t.mem (a - 8) 4 = ra.toNat ∧ load t.mem (a - 4) 2 = s.mod.toNat ∧
      load t.mem (a - 2) 2 = copy.toNat ∧ t.psr = psr ∧ t.activity = .afterException ∧
      (∀ b, b < a - 8 ∨ a ≤ b → Memory.read t.mem b = Memory.read s.mem b) ∧
      t.mod.toNat = u.descriptor vector % 2 ^ 16 ∧ t.sb.toNat = load t.mem t.mod.toNat 4 % 2 ^ 24 ∧
      t.pc.toNat = load t.mem (t.mod.toNat + 8) 4 + u.descriptor vector / 2 ^ 16 ∧
      t.regs = s.regs ∧ t.fregs = s.fregs ∧ t.fp = s.fp ∧ t.fsr = s.fsr ∧ t.sp1 = s.sp1 ∧ t.cfg = s.cfg ∧
      t.intbase = s.intbase ∧ t.mmu = s.mmu

/-- The interrupt sequence (R531): the acknowledge read, the vector it gives (1 for NMI; 0, or the byte read, for a
maskable interrupt in the two modes of CFG.I; for a byte from -16 to -1, the byte read at the Cascade Address that it
names), the return address and the PSR. When the NMI latch is cleared and what answers the reads are decisions (D22, D30;
logs 13 and 45); the halves of a descriptor are PRESUMED (G11, log 28), and the activity the sequence ends in is log 21. -/
def Obligations.InterruptSequence : Prop :=
  ∀ (s : State) (inString : Bool) (ra : Addr) (b : Byte) (rest : List Byte), s.answers = b :: rest →
    let copy := if inString then withoutP s.psr else s.psr
    (s.canServe copy (interruptPsr s.psr) ra 1 →
      takeInterrupt true inString ra s =
        .next { s.interruptedBy copy ra 1 0xFFFF00 b rest with nmiPending := false }) ∧
    (s.cfg.getLsbD 0 = false → s.canServe copy (interruptPsr s.psr) ra 0 →
      takeInterrupt false inString ra s = .next (s.interruptedBy copy ra 0 0xFFFE00 b rest)) ∧
    (s.cfg.getLsbD 0 = true → b.toNat < 128 → s.canServe copy (interruptPsr s.psr) ra b.toNat →
      takeInterrupt false inString ra s = .next (s.interruptedBy copy ra b.toNat 0xFFFE00 b rest)) ∧
    ∀ (c : Byte) (rest' : List Byte), rest = c :: rest' → s.cfg.getLsbD 0 = true → -16 ≤ b.toInt → b.toInt < 0 →
      inSpace (s.intbase.toNat + 4 * b.toInt) 4 = true → s.canServe copy (interruptPsr s.psr) ra c.toNat →
      -- the Cascade Address is read once the PSR copy has been pushed
      let ca := load (s.store (s.sp0.toNat - 2) 2 copy.toNat).mem (s.intbase.toNat + 4 * b.toInt).toNat 4
      ca < 2 ^ 24 →
      takeInterrupt false inString ra s =
        .next { (s.pushed copy (interruptPsr s.psr) ra).served c.toNat with
          answers := rest'
          events := s.events ++ [.acknowledge 0xFFFE00 b, .acknowledge (BitVec.ofNat 24 ca) c] }

/-- BPT and SVC trap (R363, R365), FLAG traps if F is set and else does nothing (R364), and in User Mode a privileged
instruction is Trap(ILL), before anything else of it (R515, R516). The bytes F2, E2 and D2 are PRESUMED (R127: G3, G5,
log 28), and so are the halves of the descriptor a trap goes through (G11). -/
def Obligations.TrapsOfInstructions : Prop :=
  (∀ (i : Instr) (s : State), isPrivileged i = true → s.flag bitU = true → s.canTrap s .ill →
    exec i s = .next (s.trapped s .ill)) ∧
  (∀ s : State, s.canTrap s .bpt → exec .bpt s = .next (s.trapped s .bpt)) ∧
  (∀ s : State, s.canTrap s .svc → exec .svc s = .next (s.trapped s .svc)) ∧
  encode .bpt = [0xF2] ∧ encode .svc = [0xE2] ∧ encode .flag = [0xD2] ∧
  (∀ s : State, s.flag bitF = true → s.canTrap s .flg → exec .flag s = .next (s.trapped s .flg)) ∧
  (∀ s : State, s.flag bitF = false → s.fits .flag → Completes .flag s s {})

/-- Trap(UND) (R536): of an encoding that is no instruction, whatever the state; of an instruction of a unit that CFG
does not enable; of LPRi and SPRi with a code that names no register. The encodings whose length field has no meaning
(U7, U9; R125, R170) stop the machine, the one of Format 9 where CFG.F is set; a custom instruction is refused where
CFG.C is set (R442). Which encodings trap and which fault are decisions of the specification (D14, D15, D18; logs 23,
24, 26). -/
def Obligations.UndefinedEncodings : Prop :=
  (∀ (i : Instr) (s : State),
    (isUnassigned i = true ∨ namesNoRegister i = true ∨ (usesFpu i = true ∧ s.cfg.getLsbD 1 = false) ∨
      (usesMmu i = true ∧ s.flag bitU = false ∧ s.cfg.getLsbD 2 = false) ∨
      (usesCustom i = true ∧ s.cfg.getLsbD 3 = false)) →
    s.canTrap s .und → exec i s = .next (s.trapped s .und)) ∧
  ∀ (raw : BitVec 24) (s : State),
    exec (.faultF5TI raw) s = .fault .translateLength ∧ exec (.faultF5I10 raw) s = .fault .lengthField ∧
      exec (.faultF6I10 raw) s = .fault .lengthField ∧ exec (.faultF7I10 raw) s = .fault .lengthField ∧
      exec (.faultF8I10 raw) s = .fault .lengthField ∧
      (s.cfg.getLsbD 1 = true → exec (.faultF9I10 raw) s = .fault .lengthField) ∧
      (s.cfg.getLsbD 3 = true → exec .custom36 s = .refused .customSlave ∧ exec .customB6 s = .refused .customSlave ∧
        (s.flag bitU = false → exec .custom16 s = .refused .customSlave) ∧
        (s.flag bitU = true → s.canTrap s .ill → exec .custom16 s = .next (s.trapped s .ill)))

/-! ### Memory and operands -/

/-- Data in memory is little-endian (R84): a read of some bytes gives those found there, the one at the lowest address least
significant, and so the low bytes of what a longer read gives; a write puts byte k of the value at the k-th address, where it
is read again, and nothing else of memory changes. The memory is RAM; other addresses are in AbortedAccesses. -/
def Obligations.StoredValueIsRead : Prop :=
  ∀ (s : State) (a : Int) (n : Nat) (v : QWord), s.plain → inSpace a n = true → n ≤ 8 →
    (∀ m, m ≤ n → Gives (memRead a m) s (BitVec.ofNat 64 (load s.mem a.toNat n % 256 ^ m)) s) ∧
    ∃ t, Gives (memWrite a n v) s () t ∧ Gives (memRead a n) t (BitVec.ofNat 64 (uval n v)) t ∧
      (∀ k, k < n → Memory.read t.mem (a.toNat + k) = BitVec.ofNat 8 (v.toNat / 256 ^ k)) ∧
      ∀ b : Nat, b < a.toNat ∨ a.toNat + n ≤ b → Memory.read t.mem b = Memory.read s.mem b

/-- Registers as operands (R21, R22, R52): a short operand is the low part of a general register and leaves the rest of it
alone; an operand of length 2i is a pair of general registers, the low half in the even one, named, and leaves the rest
of both alone; a Single operand is one floating-point register, a Long operand a pair, the low half in the even one. -/
def Obligations.RegisterOperands : Prop :=
  ∀ (s : State) (r : Reg) (v : QWord) (l : Len),
    (Gives (readInt l (.base (.reg r))) s (BitVec.ofNat 64 ((s.reg r).toNat % 2 ^ l.bits)) s ∧
      ∃ t, Gives (writeInt l (.reg r) v) s () t ∧
        (t.reg r).toNat = (s.reg r).toNat / 2 ^ l.bits * 2 ^ l.bits + v.toNat % 2 ^ l.bits ∧
        Keeps { regs := [r] } s t) ∧
    (Gives (readFloat .f (.base (.reg r))) s ((s.freg r).setWidth 64) s ∧
      ∃ t, Gives (writeFloat .f (.reg r) v) s () t ∧ t.freg r = v.setWidth 32 ∧ Keeps { fregs := [r] } s t) ∧
    (r.val % 2 = 0 →
      (Gives (readOp .pair (2 * l.bytes) (.base (.reg r))) s
          (BitVec.ofNat 64 ((s.reg r).toNat % 2 ^ l.bits + (s.reg (r + 1)).toNat % 2 ^ l.bits * 2 ^ l.bits)) s ∧
        ∃ t, Gives (writeLoc .pair (2 * l.bytes) (.reg r) v) s () t ∧
          (t.reg r).toNat = (s.reg r).toNat / 2 ^ l.bits * 2 ^ l.bits + v.toNat % 2 ^ l.bits ∧
          (t.reg (r + 1)).toNat =
            (s.reg (r + 1)).toNat / 2 ^ l.bits * 2 ^ l.bits + v.toNat / 2 ^ l.bits % 2 ^ l.bits ∧
          Keeps { regs := [r, r + 1] } s t) ∧
      Gives (readFloat .l (.base (.reg r))) s (s.freg (r + 1) ++ s.freg r : BitVec (32 + 32)) s ∧
      ∃ t, Gives (writeFloat .l (.reg r) v) s () t ∧ t.freg r = v.extractLsb' 0 32 ∧
        t.freg (r + 1) = v.extractLsb' 32 32 ∧ Keeps { fregs := [r, r + 1] } s t)

/-- Top of Stack (R187, R93): read, the item at SP is popped; written, it is pushed below SP; read and written, it
stays where it is. The order of two operands is a decision (D16, log 34). -/
def Obligations.TopOfStack : Prop :=
  ∀ (s : State) (n : Nat) (v : QWord), s.plain → 1 ≤ n → n ≤ 8 →
    (s.sp.toNat + n < 2 ^ 24 →
      Gives (readOp .int n (.base .tos)) s (BitVec.ofNat 64 (load s.mem s.sp.toNat n))
        (s.setSp (BitVec.ofNat 24 (s.sp.toNat + n)))) ∧
    (n ≤ s.sp.toNat →
      ∃ t, Gives (locateWrite .int n (.base .tos)) s .push s ∧ Gives (writeLoc .int n .push v) s () t ∧
        t.sp.toNat = s.sp.toNat - n ∧ load t.mem (s.sp.toNat - n) n = uval n v ∧
        Keeps { cells := s.cellsAt s.mode (s.sp.toNat - n) n, special := [.sp] } s t) ∧
    Gives (locateRmw .int n (.base .tos)) s (.mem s.sp.toNat) s

/-- The effective address of each addressing mode (R178, R181, R182, R185 to R188), as an exact integer; where an operand is
addressed, it and the base address under a Scaled Index fault outside the space (R82). The address formulas are PRESUMED (G4,
G27, log 28); the fault is a decision (D2, log 16). -/
def Obligations.EffectiveAddresses : Prop :=
  ∀ (s : State) (d d2 : Disp) (r : Reg), d.ok = true → d2.ok = true →
    let x := d.value
    let pointer (a : Int) (m : Base) : Prop := s.plain → inSpace (a + x) 4 = true →
      Gives (exactAddress (.base m)) s (load s.mem (a + x).toNat 4 + d2.value) s
    Gives (exactAddress (.base (.reg r))) s (s.reg r).toNat s ∧
    Gives (exactAddress (.base (.regRel r d))) s ((s.reg r).toNat + x) s ∧
    Gives (exactAddress (.base (.frame d))) s (s.fp.toNat + x) s ∧
    Gives (exactAddress (.base (.stack d))) s (s.sp.toNat + x) s ∧
    Gives (exactAddress (.base (.static d))) s (s.sb.toNat + x) s ∧
    Gives (exactAddress (.base (.program d))) s (s.pc.toNat + x) s ∧
    Gives (exactAddress (.base (.abs d))) s x s ∧
    Gives (exactAddress (.base .tos)) s s.sp.toNat s ∧
    pointer s.fp.toNat (.frameRel d d2) ∧ pointer s.sp.toNat (.stackRel d d2) ∧ pointer s.sb.toNat (.staticRel d d2) ∧
    (s.plain → s.mod.toNat < 0xFFF1 → inSpace (load s.mem (s.mod.toNat + 4) 4 + 4 * x) 4 = true →
      Gives (exactAddress (.base (.ext d d2))) s
        (load s.mem (load s.mem (s.mod.toNat + 4) 4 + 4 * x).toNat 4 + d2.value) s) ∧
    ∀ (m : Base) (a : Int) (t : State), Gives (exactAddress (.base m)) s a t →
      Gives (exactAddress (.scaled .b r m)) s (a + (s.reg r).toInt) t ∧
      Gives (exactAddress (.scaled .w r m)) s (a + 2 * (s.reg r).toInt) t ∧
      Gives (exactAddress (.scaled .d r m)) s (a + 4 * (s.reg r).toInt) t ∧
      Gives (exactAddress (.scaled .q r m)) s (a + 8 * (s.reg r).toInt) t ∧
      (inSpace a 1 = true → Gives (addrOp (.base m)) s a t) ∧
      (inSpace a 1 = false → Abandons (addrOp (.base m)) s (.fault .outsideSpace) t ∧
        ∀ sc, Abandons (addrOp (.scaled sc r m)) s (.fault .outsideSpace) t) ∧
      ∀ (sc : Scale) (b : Int), Gives (exactAddress (.scaled sc r m)) s b t → inSpace a 1 = true →
        (inSpace b 1 = true → Gives (addrOp (.scaled sc r m)) s b t) ∧
        (inSpace b 1 = false → Abandons (addrOp (.scaled sc r m)) s (.fault .outsideSpace) t)

/-! ### Integer instructions -/

/-- ADDi, ADDQi and ADDCi (R452, R454 to R456): the sum, the carry in C, the overflow in F. -/
def Obligations.Additions : Prop :=
  (∀ (l : Len) (src dest : Gen) (s s1 : State) (a : QWord), Gives (readInt l src) s a s1 →
    Adds (byLen Instr.addb Instr.addw Instr.addd l src dest) l a dest false (movesSp src) s s1 ∧
    Adds (byLen Instr.addcb Instr.addcw Instr.addcd l src dest) l a dest (s.flag bitC) (movesSp src) s s1) ∧
  ∀ (l : Len) (q : BitVec 4) (dest : Gen) (s : State),
    Adds (byLen Instr.addqb Instr.addqw Instr.addqd l q dest) l (q.signExtend 64) dest false [] s s

/-- SUBi and SUBCi (R452, R457, R458): the difference, the borrow in C, the overflow in F. -/
def Obligations.Subtractions : Prop :=
  ∀ (withBorrow : Bool) (l : Len) (src dest : Gen) (s s1 s2 w : State) (a b : QWord) (x : Loc),
    let c := (withBorrow && s.flag bitC).toNat
    let i :=
      if withBorrow then byLen Instr.subcb Instr.subcw Instr.subcd l src dest
      else byLen Instr.subb Instr.subw Instr.subd l src dest
    Gives (readInt l src) s a s1 → ReadsRmw .int l.bytes dest s1 x b s2 →
    Gives (writeInt l x (BitVec.ofInt 64 (((uval l.bytes b : Int) - uval l.bytes a - c) % 2 ^ l.bits))) s2 () w →
    s.fits i →
    Completes i s
      (w.setCF (decide (uval l.bytes b < uval l.bytes a + c)) (!inRange l (sval l.bytes b - sval l.bytes a - c)))
      { regs := x.regs .int, cells := x.cells l.bytes s2, flags := [bitC, bitF], special := movesSp src }

/-- NEGi and ABSi (R459, R460): the value subtracted from 0, with its borrow and overflow; the magnitude, with F for
the most negative value, which stays as it is. The flags are PRESUMED (G12, log 28). -/
def Obligations.NegationAndMagnitude : Prop :=
  ∀ (l : Len) (src dest : Gen) (s s1 s2 w : State) (a : QWord) (x : Loc),
    Gives (readInt l src) s a s1 → Gives (locateWrite .int l.bytes dest) s1 x s2 →
    let least := decide (sval l.bytes a = -(2 ^ (l.bits - 1)))
    (Gives (writeInt l x (BitVec.ofInt 64 (-sval l.bytes a % 2 ^ l.bits))) s2 () w →
      s.fits (byLen Instr.negb Instr.negw Instr.negd l src dest) →
      Completes (byLen Instr.negb Instr.negw Instr.negd l src dest) s (w.setCF (decide (uval l.bytes a ≠ 0)) least)
        { regs := x.regs .int, cells := x.cells l.bytes s2, flags := [bitC, bitF],
          special := movesSp src ++ movesSp dest }) ∧
    (Gives (writeInt l x (BitVec.ofInt 64 ((sval l.bytes a).natAbs % 2 ^ l.bits))) s2 () w →
      s.fits (byLen Instr.absb Instr.absw Instr.absd l src dest) →
      Completes (byLen Instr.absb Instr.absw Instr.absd l src dest) s (w.setFlag bitF least)
        { regs := x.regs .int, cells := x.cells l.bytes s2, flags := [bitF],
          special := movesSp src ++ movesSp dest })

/-- ANDi, ORi, BICi, XORi (R260 to R263) and MULi (R461): operand B is replaced, no flag changes. That no flag changes is
PRESUMED (G12, log 28). -/
def Obligations.TwoOperandResults : Prop :=
  ReplacesSecond (byLen Instr.andb Instr.andw Instr.andd) (fun _ a b => b &&& a) ∧
  ReplacesSecond (byLen Instr.orb Instr.orw Instr.ord) (fun _ a b => b ||| a) ∧
  ReplacesSecond (byLen Instr.bicb Instr.bicw Instr.bicd) (fun _ a b => b &&& ~~~a) ∧
  ReplacesSecond (byLen Instr.xorb Instr.xorw Instr.xord) (fun _ a b => b ^^^ a) ∧
  ReplacesSecond (byLen Instr.mulb Instr.mulw Instr.muld) 
    (fun l a b => BitVec.ofInt 64 (sval l.bytes b * sval l.bytes a % 2 ^ l.bits))

/-- MEIi (R462): the unsigned product of A and the low half of B replaces B, which is twice as long. DEIi (R468): B
divided by A, the remainder in its low half and the quotient in its high half; where the quotient does not fit, any
value. The halves are PRESUMED (G18, log 28), the free value is log 25. -/
def Obligations.ExtendedMultiplyDivide : Prop :=
  ∀ (l : Len) (src dest : Gen) (s s1 s2 : State) (a d : QWord) (x : Loc),
    Gives (readInt l src) s a s1 → ReadsRmw .pair (2 * l.bytes) dest s1 x d s2 →
    let touched : Touched := { regs := x.regs .pair, cells := x.cells (2 * l.bytes) s2, special := movesSp src }
    let y := uval l.bytes a
    let q := uval (2 * l.bytes) d / y
    (∀ w, Gives (writeLoc .pair (2 * l.bytes) x (BitVec.ofNat 64 (y * uval l.bytes d))) s2 () w →
      s.fits (byLen Instr.meib Instr.meiw Instr.meid l src dest) →
      Completes (byLen Instr.meib Instr.meiw Instr.meid l src dest) s w touched) ∧
    (y ≠ 0 → s.fits (byLen Instr.deib Instr.deiw Instr.deid l src dest) →
      (q < 2 ^ l.bits → ∀ w,
        Gives (writeLoc .pair (2 * l.bytes) x
          (BitVec.ofNat 64 (uval (2 * l.bytes) d % y + 2 ^ l.bits * q))) s2 () w →
        Completes (byLen Instr.deib Instr.deiw Instr.deid l src dest) s w touched) ∧
      (2 ^ l.bits ≤ q → ∃ v, ∀ w, Gives (draw >>= fun _ => writeLoc .pair (2 * l.bytes) x v) s2 () w →
        Completes (byLen Instr.deib Instr.deiw Instr.deid l src dest) s w touched))

/-- DIVi, MODi, QUOi and REMi with a divisor that is not zero (R463). The quotient that does not fit is a free value
(U24, log 25); that MODi and REMi give 0 in that case is a decision (D25); that no flag changes is PRESUMED (G12, log 28). -/
def Obligations.SignedDivisions : Prop :=
  Divides true (byLen Instr.divb Instr.divw Instr.divd) (fun x y => Int.fdiv x y) ∧
  Divides false (byLen Instr.modb Instr.modw Instr.modd) (fun x y => x - y * Int.fdiv x y) ∧
  Divides true (byLen Instr.quob Instr.quow Instr.quod) (fun x y => Int.tdiv x y) ∧
  Divides false (byLen Instr.remb Instr.remw Instr.remd) (fun x y => x - y * Int.tdiv x y)

/-- A zero divisor (R453): Trap(DVZ) of the five divisions, nothing delivered, through the trap sequence (R540, R541). The
halves of the descriptor it goes through are PRESUMED (G11, log 28); that both operands are read before the trap is a
decision (D16, log 34). -/
def Obligations.DivisionByZeroTraps : Prop :=
  TrapsOnZero .int Len.bytes (byLen Instr.divb Instr.divw Instr.divd) ∧
  TrapsOnZero .int Len.bytes (byLen Instr.modb Instr.modw Instr.modd) ∧
  TrapsOnZero .int Len.bytes (byLen Instr.quob Instr.quow Instr.quod) ∧
  TrapsOnZero .int Len.bytes (byLen Instr.remb Instr.remw Instr.remd) ∧
  TrapsOnZero .pair (fun l => 2 * l.bytes) (byLen Instr.deib Instr.deiw Instr.deid)

/-- MOVi, MOVQi, MOVXij, MOVZij, COMi and NOTi (R469 to R472, R264, R270): a copy, a small value sign-extended, a copy
sign- or zero-extended, a complement, a complement of the least significant bit; no flag changes. That no flag changes
is PRESUMED (G12, log 28). -/
def Obligations.Moves : Prop :=
  (∀ l : Len, Converts l.bytes l.bytes (byLen Instr.movb Instr.movw Instr.movd l) (fun v => v) ∧
    Converts l.bytes l.bytes (byLen Instr.comb Instr.comw Instr.comd l) (fun v => ~~~v) ∧
    Converts l.bytes l.bytes (byLen Instr.notb Instr.notw Instr.notd l) (fun v => v ^^^ 1) ∧
    ∀ q : BitVec 4, SetsOperand l (fun _ => True) (byLen Instr.movqb Instr.movqw Instr.movqd l q)
      (fun _ => ((q.signExtend 64).setWidth l.bits).setWidth 64)) ∧
  Converts 1 2 .movxbw (fun v => (((v.setWidth 8).signExtend 16 : BitVec 16).setWidth 64)) ∧
  Converts 1 4 .movxbd (fun v => (((v.setWidth 8).signExtend 32 : BitVec 32).setWidth 64)) ∧
  Converts 2 4 .movxwd (fun v => (((v.setWidth 16).signExtend 32 : BitVec 32).setWidth 64)) ∧
  Converts 1 2 .movzbw (fun v => (v.setWidth 8).setWidth 64) ∧
  Converts 1 4 .movzbd (fun v => (v.setWidth 8).setWidth 64) ∧
  Converts 2 4 .movzwd (fun v => (v.setWidth 16).setWidth 64)

/-- CMPi and CMPQi (R473, R474, R38, R40, R41): Z for equal operands, N and L for a second operand less than the
first, signed and unsigned; nothing else changes. That nothing else changes is PRESUMED (G12, log 28). -/
def Obligations.Comparisons : Prop :=
  ∀ (l : Len) (src1 src2 : Gen) (q : BitVec 4) (s s1 s2 : State) (a b : QWord),
    let result (i : Instr) (a b : QWord) (t : State) (popped : List Special) : Prop := s.fits i →
      Completes i s
        (t.setZNL (decide (uval l.bytes a = uval l.bytes b)) (decide (sval l.bytes b < sval l.bytes a))
          (decide (uval l.bytes b < uval l.bytes a)))
        { flags := [bitZ, bitN, bitL], special := popped }
    (Gives (readInt l src1) s a s1 → Gives (readInt l src2) s1 b s2 →
      result (byLen Instr.cmpb Instr.cmpw Instr.cmpd l src1 src2) a b s2 (movesSp src1 ++ movesSp src2)) ∧
    (Gives (readInt l src2) s b s1 →
      result (byLen Instr.cmpqb Instr.cmpqw Instr.cmpqd l q src2) (q.signExtend 64) b s1 (movesSp src2))

/-! ### Logical instructions -/

/-- ASHi, LSHi and ROTi (R265 to R268); with a count not below the length, any value (U11, log 25). That the count is one
byte and that no flag changes are PRESUMED (G5, G12, log 28). -/
def Obligations.ShiftsAndRotations : Prop :=
  Shifts (byLen Instr.ashb Instr.ashw Instr.ashd)
    (fun _ c v => if 0 ≤ c then v <<< c.toNat else v.sshiftRight c.natAbs) ∧
  Shifts (byLen Instr.lshb Instr.lshw Instr.lshd) (fun _ c v => if 0 ≤ c then v <<< c.toNat else v >>> c.natAbs) ∧
  Shifts (byLen Instr.rotb Instr.rotw Instr.rotd) (fun l c v => v.rotateLeft (c % l.bits).toNat)

/-- Scondi (R271, R269, R174): 1 if the condition holds and 0 if not; no flag changes. The conditions' codes and
formulas are PRESUMED (G6, log 28). -/
def Obligations.SavedConditions : Prop :=
  SetsBoolean (byLen Instr.seqb Instr.seqw Instr.seqd) (fun s => s.flag bitZ) ∧
  SetsBoolean (byLen Instr.sneb Instr.snew Instr.sned) (fun s => !s.flag bitZ) ∧
  SetsBoolean (byLen Instr.scsb Instr.scsw Instr.scsd) (fun s => s.flag bitC) ∧
  SetsBoolean (byLen Instr.sccb Instr.sccw Instr.sccd) (fun s => !s.flag bitC) ∧
  SetsBoolean (byLen Instr.shib Instr.shiw Instr.shid) (fun s => s.flag bitL) ∧
  SetsBoolean (byLen Instr.slsb Instr.slsw Instr.slsd) (fun s => !s.flag bitL) ∧
  SetsBoolean (byLen Instr.sgtb Instr.sgtw Instr.sgtd) (fun s => s.flag bitN) ∧
  SetsBoolean (byLen Instr.sleb Instr.slew Instr.sled) (fun s => !s.flag bitN) ∧
  SetsBoolean (byLen Instr.sfsb Instr.sfsw Instr.sfsd) (fun s => s.flag bitF) ∧
  SetsBoolean (byLen Instr.sfcb Instr.sfcw Instr.sfcd) (fun s => !s.flag bitF) ∧
  SetsBoolean (byLen Instr.slob Instr.slow Instr.slod) (fun s => !(s.flag bitZ || s.flag bitL)) ∧
  SetsBoolean (byLen Instr.shsb Instr.shsw Instr.shsd) (fun s => s.flag bitZ || s.flag bitL) ∧
  SetsBoolean (byLen Instr.sltb Instr.sltw Instr.sltd) (fun s => !(s.flag bitZ || s.flag bitN)) ∧
  SetsBoolean (byLen Instr.sgeb Instr.sgew Instr.sged) (fun s => s.flag bitZ || s.flag bitN) ∧
  SetsBoolean (byLen Instr.srb Instr.srw Instr.srd) (fun _ => true) ∧
  SetsBoolean (byLen Instr.s1111b Instr.s1111w Instr.s1111d) (fun _ => false)

/-! ### Bits and bit fields -/

/-- TBITi, SBITi, SBITIi, CBITi, CBITIi and IBITi (R280 to R289): F takes the bit, which then is left, set, cleared or
inverted. Operand roles are PRESUMED (G5, log 28). -/
def Obligations.BitInstructions : Prop :=
  (∀ (l : Len) (offset : Gen) (r : Reg) (s s1 : State) (a : QWord) (k : Nat),
    let i := byLen Instr.tbitb Instr.tbitw Instr.tbitd l offset (.base (.reg r))
    Gives (readInt l offset) s a s1 → sval l.bytes a = k → k < 32 → s.fits i →
    Completes i s (s1.setFlag bitF ((s1.reg r).getLsbD k)) { flags := [bitF], special := movesSp offset }) ∧
  (∀ (l : Len) (offset base : Gen) (s s1 s2 s3 : State) (a v : QWord) (p : Int),
    let i := byLen Instr.tbitb Instr.tbitw Instr.tbitd l offset base
    (∀ r, base ≠ .base (.reg r)) → Gives (readInt l offset) s a s1 → Gives (addrOp base) s1 p s2 →
    Gives (memRead (p + sval l.bytes a / 8) 1) s2 v s3 → s.fits i →
    Completes i s (s3.setFlag bitF (v.getLsbD (sval l.bytes a % 8).toNat))
      { flags := [bitF], special := movesSp offset }) ∧
  ChangesRegisterBit (byLen Instr.sbitb Instr.sbitw Instr.sbitd) (fun _ => true) ∧
  ChangesRegisterBit (byLen Instr.sbitib Instr.sbitiw Instr.sbitid) (fun _ => true) ∧
  ChangesRegisterBit (byLen Instr.cbitb Instr.cbitw Instr.cbitd) (fun _ => false) ∧
  ChangesRegisterBit (byLen Instr.cbitib Instr.cbitiw Instr.cbitid) (fun _ => false) ∧
  ChangesRegisterBit (byLen Instr.ibitb Instr.ibitw Instr.ibitd) (fun b => !b) ∧
  ChangesMemoryBit (byLen Instr.sbitb Instr.sbitw Instr.sbitd) (fun _ => true) ∧
  ChangesMemoryBit (byLen Instr.sbitib Instr.sbitiw Instr.sbitid) (fun _ => true) ∧
  ChangesMemoryBit (byLen Instr.cbitb Instr.cbitw Instr.cbitd) (fun _ => false) ∧
  ChangesMemoryBit (byLen Instr.cbitib Instr.cbitiw Instr.cbitid) (fun _ => false) ∧
  ChangesMemoryBit (byLen Instr.ibitb Instr.ibitw Instr.ibitd) (fun b => !b)

/-- FFSi (R290): the least bit set in the base from the offset on, and F = 0; if there is none, 0 and F = 1. The roles
and the result without a bit are PRESUMED (G16, log 28). -/
def Obligations.FindFirstSet : Prop :=
  ∀ (l : Len) (base offset : Gen) (s s1 s2 w : State) (v o : QWord) (x : Loc),
    let i := byLen Instr.ffsb Instr.ffsw Instr.ffsd l base offset 0
    let touched : Touched := { regs := x.regs .int, cells := x.cells 1 s2, flags := [bitF], special := movesSp base }
    Gives (readInt l base) s v s1 → ReadsRmw .int 1 offset s1 x o s2 → s.fits i →
    (∀ k, uval 1 o ≤ k → k < l.bits → v.getLsbD k = true → (∀ j, uval 1 o ≤ j → j < k → v.getLsbD j = false) →
      Gives (writeLoc .int 1 x (BitVec.ofNat 64 k)) s2 () w → Completes i s (w.setFlag bitF false) touched) ∧
    ((∀ k, uval 1 o ≤ k → k < l.bits → v.getLsbD k = false) →
      Gives (writeLoc .int 1 x 0) s2 () w → Completes i s (w.setFlag bitF true) touched)

/-- ADDR, LXPD (R391, R396) and CVTP (R291): an effective address, and the bit address eight times it with the whole
offset register added, as 32 bits. Operand roles are PRESUMED (G5, G17, log 28); R391 itself says that ADDR tests no
range; where 32 bits do not hold the exact address, any value is delivered (DESIGN CHOICE, log 16). -/
def Obligations.AddressInstructions : Prop :=
  ∀ (src dest : Gen) (d1 d2 : Disp) (offset : Reg) (s s1 s2 w : State) (a : Int) (x : Loc),
    let touched : Touched := { regs := x.regs .int, cells := x.cells 4 s2, special := movesSp dest }
    let delivers (i : Instr) : Prop := s.fits i →
      (0 ≤ a → a < 2 ^ 32 → Gives (writeLoc .int 4 x (BitVec.ofInt 64 a)) s2 () w → Completes i s w touched) ∧
      (a < 0 ∨ 2 ^ 32 ≤ a → ∃ v, ∀ u, Gives (draw >>= fun _ => writeLoc .int 4 x v) s2 () u → Completes i s u touched)
    Gives (locateWrite .int 4 dest) s1 x s2 →
    (Gives (exactAddress src) s a s1 → delivers (.addr src dest)) ∧
    (Gives (exactAddress (.base (.ext d1 d2))) s a s1 → delivers (.lxpd d1 d2 dest)) ∧
    (Gives (addrOp src) s a s1 →
      Gives (writeLoc .int 4 x (BitVec.ofInt 64 ((8 * a + (s.reg offset).toInt) % 2 ^ 32))) s2 () w →
      s.fits (.cvtp offset src dest) → Completes (.cvtp offset src dest) s w touched)

/-- EXTi and EXTSi (R299, R300): a bit field, right-justified, zero above it, cut to the destination's length. The
length operands and the zero extension are PRESUMED (G10, G30, log 28). -/
def Obligations.ExtractedFields : Prop :=
  ∀ (l : Len) (base dest : Gen) (s s1 s2 w : State) (v : Nat) (x : Loc),
    let touched : Touched := { regs := x.regs .int, cells := x.cells l.bytes s2, special := movesSp dest }
    Gives (locateWrite .int l.bytes dest) s1 x s2 →
    Gives (writeInt l x (BitVec.ofNat 64 (v % 2 ^ l.bits))) s2 () w →
    (∀ (offset : Reg) (length : Disp), 1 ≤ length.value → length.value ≤ 32 →
      ReadsField base (s.reg offset).toInt length.value.toNat s v s1 →
      s.fits (byLen Instr.extb Instr.extw Instr.extd l offset base dest length) →
      Completes (byLen Instr.extb Instr.extw Instr.extd l offset base dest length) s w touched) ∧
    (∀ (offset : BitVec 3) (lengthM1 : BitVec 5), ReadsField base offset.toNat (lengthM1.toNat + 1) s v s1 →
      s.fits (byLen Instr.extsb Instr.extsw Instr.extsd l base dest offset lengthM1) →
      Completes (byLen Instr.extsb Instr.extsw Instr.extsd l base dest offset lengthM1) s w touched)

/-- INSi and INSSi (R301, R302): the low bits of the source replace a bit field, whose place R295 to R297 give; the bits
that a field longer than the source has above it may take any value (U26). The free bits are log 25, the operands
PRESUMED (G10, log 28). -/
def Obligations.InsertedFields : Prop :=
  ∀ (l : Len) (src base : Gen) (s s1 : State) (v : QWord), Gives (readInt l src) s v s1 →
    (∀ (offset : Reg) (length : Disp), 1 ≤ length.value → length.value ≤ 32 →
      InsertsField (byLen Instr.insb Instr.insw Instr.insd l offset src base length) l src base (s.reg offset).toInt
        length.value.toNat v s s1) ∧
    (∀ (offset : BitVec 3) (lengthM1 : BitVec 5),
      InsertsField (byLen Instr.inssb Instr.inssw Instr.inssd l src base offset lengthM1) l src base offset.toNat
        (lengthM1.toNat + 1) v s s1)

/-! ### Strings, blocks, arrays, decimals -/

/-- MOVS, CMPS and SKPS with their Translation forms (R312 to R320): the end at count 0, the end at a match, the end
of a comparison, and the step to the next element. One element a step is a decision (D19), and so is the order of
comparison (D21); that a negative count stops at every pass is the model's choice (log 33). -/
def Obligations.StringInstructions : Prop :=
  StringInstruction .movs 1 false .movsb ∧ StringInstruction .movs 2 false .movsw ∧
  StringInstruction .movs 4 false .movsd ∧ StringInstruction .movs 1 true .movst ∧
  StringInstruction .cmps 1 false .cmpsb ∧ StringInstruction .cmps 2 false .cmpsw ∧
  StringInstruction .cmps 4 false .cmpsd ∧ StringInstruction .cmps 1 true .cmpst ∧
  StringInstruction .skps 1 false .skpsb ∧ StringInstruction .skps 2 false .skpsw ∧
  StringInstruction .skps 4 false .skpsd ∧ StringInstruction .skps 1 true .skpst

/-- MOVMi (R326), in plain memory: the bytes of block 1 are copied to block 2. Of overlapping blocks, block 2 takes any
values (U15). The free values are log 41; that no flag changes is PRESUMED (G12, log 28). -/
def Obligations.BlockMove : Prop :=
  ∀ (l : Len) (block1 block2 : Gen) (length : Disp) (s s1 s2 : State) (a b : Int),
    let i := byLen Instr.movmb Instr.movmw Instr.movmd l block1 block2 length
    let n := length.value.toNat + l.bytes
    s.plain → blockLengthOk l length = true → Gives (addrOp block1) s a s1 → Gives (addrOp block2) s1 b s2 →
    a + n ≤ 2 ^ 24 → b + n ≤ 2 ^ 24 → s.fits i →
    ∃ w, Completes i s w { cells := (List.range n).map fun k => b.toNat + k } ∧
      (n ≤ (a - b).natAbs → ∀ k, k < n → Memory.read w.mem (b.toNat + k) = Memory.read s.mem (a.toNat + k))

/-- CMPMi (R327): the first unequal elements of two blocks decide Z, N and L; if there are none, Z is set and N and L
are cleared. The order of the flags is PRESUMED (G12, log 28). -/
def Obligations.BlockCompare : Prop :=
  ∀ (l : Len) (block1 block2 : Gen) (length : Disp) (s s1 s2 : State) (a b : Int),
    let i := byLen Instr.cmpmb Instr.cmpmw Instr.cmpmd l block1 block2 length
    let n := length.value.toNat + l.bytes
    let x (k : Nat) : QWord := BitVec.ofNat 64 (load s.mem (a.toNat + l.bytes * k) l.bytes)
    let y (k : Nat) : QWord := BitVec.ofNat 64 (load s.mem (b.toNat + l.bytes * k) l.bytes)
    s.plain → blockLengthOk l length = true → Gives (addrOp block1) s a s1 → Gives (addrOp block2) s1 b s2 →
    a + n ≤ 2 ^ 24 → b + n ≤ 2 ^ 24 → s.fits i →
    ((∀ k, l.bytes * k < n → x k = y k) →
      Completes i s (s2.setZNL true false false) { flags := [bitZ, bitN, bitL] }) ∧
    (∀ k, l.bytes * k < n → (∀ j, j < k → x j = y j) → x k ≠ y k →
      Completes i s
        (s2.setZNL false (decide (sval l.bytes (y k) < sval l.bytes (x k)))
          (decide (uval l.bytes (y k) < uval l.bytes (x k))))
        { flags := [bitZ, bitN, bitL] })

/-- CHECKi (R341): within the bounds, F = 0 and the register takes the distance from the lower bound; outside, F = 1
and the register takes any value (U18). INDEXi (R342): the register times the length plus one, plus the index,
unsigned. The order of the bounds and INDEX's arithmetic are PRESUMED (G15, log 28), the free value is log 25. -/
def Obligations.ArrayInstructions : Prop :=
  (∀ (l : Len) (r : Reg) (bounds src : Gen) (s s1 s2 s3 s4 : State) (base : Int) (upper lower v : QWord),
    let i := byLen Instr.checkb Instr.checkw Instr.checkd l r bounds src
    let touched : Touched := { regs := [r], flags := [bitF], special := movesSp src }
    let x := sval l.bytes v
    Gives (addrOp bounds) s base s1 → Gives (memRead base l.bytes) s1 upper s2 →
    Gives (memRead (base + l.bytes) l.bytes) s2 lower s3 → Gives (readInt l src) s3 v s4 → s.fits i →
    (sval l.bytes lower ≤ x → x ≤ sval l.bytes upper →
      Completes i s ((s4.setFlag bitF false).setReg r (BitVec.ofInt 32 (x - sval l.bytes lower))) touched) ∧
    (x < sval l.bytes lower ∨ sval l.bytes upper < x → ∃ free,
      Completes i s ((({ s4 with draws := s4.draws + 1 } : State).setFlag bitF true).setReg r free) touched)) ∧
  ∀ (l : Len) (r : Reg) (length index : Gen) (s s1 s2 : State) (a b : QWord),
    let i := byLen Instr.indexb Instr.indexw Instr.indexd l r length index
    Gives (readInt l length) s a s1 → Gives (readInt l index) s1 b s2 → s.fits i →
    Completes i s
      (s2.setReg r (BitVec.ofNat 32 ((s.reg r).toNat * (uval l.bytes a + 1) + uval l.bytes b)))
      { regs := [r], special := movesSp length ++ movesSp index }

/-- ADDPi and SUBPi (R501, R502): the sum or difference of packed decimal numbers and C, the decimal carry or borrow
in C, 0 in F; with a digit above 9, any result and any C (U17). The 0 in F is PRESUMED (G12, log 28), the free values
are log 25. -/
def Obligations.DecimalArithmetic : Prop :=
  ∀ (subtracts : Bool) (l : Len) (src dest : Gen) (s s1 s2 : State) (a b : QWord) (x : Loc),
    let i :=
      if subtracts then byLen Instr.subpb Instr.subpw Instr.subpd l src dest
      else byLen Instr.addpb Instr.addpw Instr.addpd l src dest
    let touched : Touched :=
      { regs := x.regs .int, cells := x.cells l.bytes s2, flags := [bitC, bitF], special := movesSp src }
    let k := 2 * l.bytes
    let c := (s.flag bitC).toNat
    Gives (readInt l src) s a s1 → ReadsRmw .int l.bytes dest s1 x b s2 → s.fits i →
    (∀ p q : Nat, Decimal a k p → Decimal b k q →
      let t : Int := if subtracts then q - p - c else q + p + c
      ∀ (r : QWord) (w : State), Decimal r k (t % 10 ^ k).toNat → r.toNat < 16 ^ k →
        Gives (writeInt l x r) s2 () w → Completes i s (w.setCF (decide (t < 0 ∨ 10 ^ k ≤ t)) false) touched) ∧
    ((∀ p, ¬Decimal a k p) ∨ (∀ q, ¬Decimal b k q) →
      ∃ v carry, ∀ w, Gives (draw >>= fun _ => writeInt l x v) s2 () w →
        Completes i s ({ w with draws := w.draws + 1 }.setCF carry false) touched)

/-! ### Control flow -/

/-- Bcond and BR (R350, R352, R353, R174): to PC + disp if the condition holds, else in sequence, whatever the displacement;
no flag changes. The conditions and the base of the displacement are PRESUMED (G4, G6, log 28); that a branch not taken
tests nothing of its displacement is DEDUCED (logs 16 and 27). -/
def Obligations.ConditionalBranches : Prop :=
  Branches .beq (fun s => s.flag bitZ) ∧ Branches .bne (fun s => !s.flag bitZ) ∧
  Branches .bcs (fun s => s.flag bitC) ∧ Branches .bcc (fun s => !s.flag bitC) ∧
  Branches .bhi (fun s => s.flag bitL) ∧ Branches .bls (fun s => !s.flag bitL) ∧
  Branches .bgt (fun s => s.flag bitN) ∧ Branches .ble (fun s => !s.flag bitN) ∧
  Branches .bfs (fun s => s.flag bitF) ∧ Branches .bfc (fun s => !s.flag bitF) ∧
  Branches .blo (fun s => !(s.flag bitZ || s.flag bitL)) ∧ Branches .bhs (fun s => s.flag bitZ || s.flag bitL) ∧
  Branches .blt (fun s => !(s.flag bitZ || s.flag bitN)) ∧ Branches .bge (fun s => s.flag bitZ || s.flag bitN) ∧
  Branches .br (fun _ => true) ∧ Branches .bcond1111 (fun _ => false)

/-- JUMP (R351) to an effective address, CASEi (R354) to PC plus a signed operand, ACBi (R355) to PC + disp unless the
incremented operand is zero. Operand roles, the base of the displacement and ACBi's leaving the flags alone are PRESUMED
(G4, G5, G12, log 28); that an ACBi that does not branch tests nothing of its displacement is DEDUCED (logs 16 and 27). -/
def Obligations.JumpCaseAndLoop : Prop :=
  (∀ (dest : Gen) (s s1 : State) (a : Int), Gives (addrOp dest) s a s1 →
    exec (.jump dest) s = .next (s1.jumped a.toNat) ∧ Keeps {} s s1) ∧
  (∀ (l : Len) (index : Gen) (s s1 : State) (v : QWord), Gives (readInt l index) s v s1 →
    0 ≤ s.pc.toNat + sval l.bytes v → s.pc.toNat + sval l.bytes v < 2 ^ 24 →
    exec (byLen Instr.caseb Instr.casew Instr.cased l index) s = .next (s1.jumped (s.pc.toNat + sval l.bytes v).toNat) ∧
      Keeps { special := movesSp index } s s1) ∧
  ∀ (l : Len) (q : BitVec 4) (index : Gen) (dest : Disp) (s s1 w : State) (b : QWord) (x : Loc),
    let i := byLen Instr.acbb Instr.acbw Instr.acbd l q index dest
    let v := (uval l.bytes b + q.toInt) % 2 ^ l.bits
    let touched : Touched := { regs := x.regs .int, cells := x.cells l.bytes s1 }
    ReadsRmw .int l.bytes index s x b s1 → Gives (writeInt l x (BitVec.ofInt 64 v)) s1 () w →
    (v = 0 → s.fits i → Completes i s w touched) ∧
    (v ≠ 0 → dest.ok = true → 0 ≤ s.pc.toNat + dest.value → s.pc.toNat + dest.value < 2 ^ 24 →
      exec i s = .next (w.jumped (s.pc.toNat + dest.value).toNat) ∧ Keeps touched s w)

/-- JSR, BSR and RET (R356 to R358): the address of the next instruction is pushed as four bytes, and popped again;
RET then moves SP by its displacement. The base of BSR's displacement (R350), that JSR's address is computed before the push,
and RET's constant are PRESUMED (G4, G5, log 28). -/
def Obligations.LocalCalls : Prop :=
  (∀ (dest : Gen) (s s1 w : State) (a : Int), Gives (addrOp dest) s a s1 → s.fits (.jsr dest) →
    Gives (push 4 (BitVec.ofNat 64 (s.nextPc (.jsr dest)))) s1 () w →
    exec (.jsr dest) s = .next (w.jumped a.toNat) ∧
      Keeps { cells := s1.cellsAt s.mode (s.sp.toNat - 4) 4, special := [.sp] } s w) ∧
  (∀ (dest : Disp) (s w : State), dest.ok = true → s.fits (.bsr dest) → 0 ≤ s.pc.toNat + dest.value →
    s.pc.toNat + dest.value < 2 ^ 24 → Gives (push 4 (BitVec.ofNat 64 (s.nextPc (.bsr dest)))) s () w →
    exec (.bsr dest) s = .next (w.jumped (s.pc.toNat + dest.value).toNat) ∧
      Keeps { cells := s.cellsAt s.mode (s.sp.toNat - 4) 4, special := [.sp] } s w) ∧
  ∀ (constant : Disp) (s s1 : State) (a : QWord), constant.ok = true → Gives (pop 4) s a s1 → uval 4 a < 2 ^ 24 →
    0 ≤ s1.sp.toNat + constant.value → s1.sp.toNat + constant.value < 2 ^ 24 →
    let w := s1.setSp (BitVec.ofInt 24 (s1.sp.toNat + constant.value))
    exec (.ret constant) s = .next (w.jumped (uval 4 a)) ∧ Keeps { special := [.sp] } s w

/-- CXP, CXPD and RXP (R359 to R362, R95, R96), in plain memory: MOD and the address of the next instruction are
pushed in two slots of four bytes, MOD and SB are loaded for the module that the descriptor names, and control goes to
its Program Base and the descriptor's offset; RXP pops them, reloads SB and moves SP by its displacement. The stack
layout and the descriptor are PRESUMED (G11, G13, log 28), the slot of MOD is a decision (D31, log 39). -/
def Obligations.ExternalCalls : Prop :=
  (∀ (i : Instr) (s s1 : State) (desc : Nat), s.plain → desc < 2 ^ 32 → s.fits i →
    ((∃ d : Disp, i = .cxp d ∧ d.ok = true ∧ Gives (linkEntry d.value) s (BitVec.ofNat 64 desc) s1) ∨
      (∃ (g : Gen) (a : Int) (u : State), i = .cxpd g ∧ Gives (addrOp g) s a u ∧
        Gives (memRead a 4) u (BitVec.ofNat 64 desc) s1)) →
    let sp := s.sp.toNat
    let m := desc % 2 ^ 16
    let pushed := (s1.store (sp - 4) 2 s.mod.toNat).store (sp - 8) 4 (s.nextPc i)
    let base := load pushed.mem (m + 8) 4
    8 ≤ sp → m < 0xFFF1 → base + desc / 2 ^ 16 < 2 ^ 24 →
    let w := { pushed.setSp (BitVec.ofNat 24 (sp - 8)) with
      mod := BitVec.ofNat 16 m, sb := BitVec.ofNat 24 (load pushed.mem m 4) }
    exec i s = .next (w.jumped (base + desc / 2 ^ 16)) ∧
      Keeps { cells := [sp - 8, sp - 7, sp - 6, sp - 5, sp - 4, sp - 3], special := [.sp, .mod, .sb] } s w) ∧
  ∀ (constant : Disp) (s : State), s.plain → constant.ok = true →
    let sp := s.sp.toNat
    let m := load s.mem (sp + 4) 2
    let ra := load s.mem sp 4
    sp + 8 < 2 ^ 24 → m < 0xFFF1 → ra < 2 ^ 24 → 0 ≤ sp + 8 + constant.value → sp + 8 + constant.value < 2 ^ 24 →
    let w := { s.setSp (BitVec.ofInt 24 (sp + 8 + constant.value)) with
      mod := BitVec.ofNat 16 m, sb := BitVec.ofNat 24 (load s.mem m 4) }
    exec (.rxp constant) s = .next (w.jumped ra) ∧ Keeps { special := [.sp, .mod, .sb] } s w

/-- RETT and RETI in Supervisor Mode (R366, R367), in plain memory: the return address, MOD and the PSR are popped, SB
is reloaded, and the stack that the loaded PSR selects is moved by RETT's displacement; RETI first reads the End of
Interrupt address, and that of a cascaded unit if the byte names one. Which stack is popped and moved, and that the reads
come first, is PRESUMED (G13, log 28). That the environment answers the reads and sees them as events is a decision (D30);
that it does so where the map has RAM is the model's choice (log 13). -/
def Obligations.ReturnsFromExceptions : Prop :=
  ∀ (constant : Disp) (s : State), s.plain → s.flag bitU = false → constant.ok = true →
    let sp := s.sp.toNat
    let ra := load s.mem sp 4
    let m := load s.mem (sp + 4) 2
    let psr := BitVec.ofNat 16 (load s.mem (sp + 6) 2) &&& psrMask
    let u := { s.setSp (BitVec.ofNat 24 (sp + 8)) with
      mod := BitVec.ofNat 16 m, psr, sb := BitVec.ofNat 24 (load s.mem m 4) }
    sp + 8 < 2 ^ 24 → ra < 2 ^ 24 → m < 0xFFF1 →
    (0 ≤ u.sp.toNat + constant.value → u.sp.toNat + constant.value < 2 ^ 24 →
      exec (.rett constant) s =
        .next ((u.setSp (BitVec.ofInt 24 (u.sp.toNat + constant.value))).jumped ra)) ∧
    (∀ (b : Byte) (rest : List Byte), s.answers = b :: rest → b.toNat < 128 →
      exec .reti s = .next ({ u with
        answers := rest, events := s.events ++ [Event.endOfInterrupt 0xFFFE00 b] }.jumped ra)) ∧
    (∀ (b c : Byte) (rest : List Byte), s.answers = b :: c :: rest → -16 ≤ b.toInt → b.toInt < 0 →
      inSpace (s.intbase.toNat + 4 * b.toInt) 4 = true →
      let ca := load s.mem (s.intbase.toNat + 4 * b.toInt).toNat 4
      ca < 2 ^ 24 →
      exec .reti s = .next ({ u with
        answers := rest
        events := s.events ++ [Event.endOfInterrupt 0xFFFE00 b, Event.endOfInterrupt (BitVec.ofNat 24 ca) c] }.jumped ra))

/-! ### Processor service -/

/-- SAVE, RESTORE, ENTER and EXIT (R392 to R395), in plain memory. The registers of a list stand one below the other,
R0 highest; FP is pushed above them. Lists and order are PRESUMED (G9, log 28). -/
def Obligations.ContextInstructions : Prop :=
  ∀ (list : Byte) (s : State), s.plain →
    let n := 4 * listed list 8
    let sp := s.sp.toNat
    (n ≤ sp → s.fits (.save list) →
      ∃ w, Completes (.save list) s w { cells := (List.range n).map fun k => sp - n + k, special := [.sp] } ∧
        w.sp.toNat = sp - n ∧
        ∀ r : Reg, list.getLsbD r.val = true → load w.mem (sp - 4 * listed list (r.val + 1)) 4 = (s.reg r).toNat) ∧
    (sp + n < 2 ^ 24 → s.fits (.restore list) →
      ∃ w, Completes (.restore list) s w { regs := restored list, special := [.sp] } ∧ w.sp.toNat = sp + n ∧
        ∀ r ∈ restored list, (w.reg r).toNat = load s.mem (sp + 4 * listed list (7 - r.val)) 4) ∧
    (∀ constant : Disp, constant.ok = true → 4 ≤ sp → n ≤ sp - 4 - constant.value → sp - 4 - constant.value < 2 ^ 24 →
      s.fits (.enter list constant) →
      let locals := (sp - 4 - constant.value : Int).toNat
      ∃ w, Completes (.enter list constant) s w
          { cells := (List.range 4).map (fun k => sp - 4 + k) ++ (List.range n).map (fun k => locals - n + k),
            special := [.sp, .fp] } ∧
        w.fp.toNat = sp - 4 ∧ w.sp.toNat = locals - n ∧
        (0 ≤ constant.value → load w.mem (sp - 4) 4 = s.fp.toNat) ∧
        ∀ r : Reg, list.getLsbD r.val = true → load w.mem (locals - 4 * listed list (r.val + 1)) 4 = (s.reg r).toNat) ∧
    (sp + n < 2 ^ 24 → s.fp.toNat + 4 < 2 ^ 24 → s.fits (.exit list) →
      ∃ w, Completes (.exit list) s w { regs := restored list, special := [.sp, .fp] } ∧
        w.sp.toNat = s.fp.toNat + 4 ∧ w.fp.toNat = load s.mem s.fp.toNat 4 % 2 ^ 24 ∧
        ∀ r ∈ restored list, (w.reg r).toNat = load s.mem (sp + 4 * listed list (7 - r.val)) 4)

/-- BICPSRi and BISPSRi (R398, R399): the bits of the operand are cleared or set in the PSR, of its low byte only for length
B; the W forms need Supervisor Mode. Reserved bits stay 0 (R34). The instruction queue is flushed and the next instruction is
fetched non-sequentially (R602, R103); how the queue is modelled is DEDUCED (log 18). -/
def Obligations.StatusBits : Prop :=
  ∀ (sets wide : Bool) (src : Gen) (s s1 : State) (v : QWord),
    let l : Len := if wide then .w else .b
    let i :=
      if sets then byLen Instr.bispsrb Instr.bispsrw Instr.bispsrw l src
      else byLen Instr.bicpsrb Instr.bicpsrw Instr.bicpsrw l src
    Gives (readInt l src) s v s1 → (wide = true → s.flag bitU = false) → s.fits i →
    ∃ w : State, exec i s = .next (w.jumped (s.nextPc i)) ∧ (∃ p, w = { s1 with psr := p }) ∧
      Keeps { flags := (List.range 16).filter (fun k => wide || k < 8 || 12 ≤ k), special := movesSp src } s w ∧
      ∀ k, k < 16 → w.flag k =
        (psrMask.getLsbD k && (if k < l.bits && v.getLsbD k then sets else s.flag k))

/-- LPRi (R400): each dedicated register takes the low bits of the operand; PSR and INTBASE need Supervisor Mode. The
codes and lengths are PRESUMED (G7, log 28); the 24 bits kept of an address are R81 (log 17). -/
def Obligations.LoadedRegisters : Prop :=
  let supervisor (s : State) : Prop := s.flag bitU = false
  let any (_ : State) : Prop := True
  (∀ l : Len, LoadsRegister l any (byLen Instr.lprb Instr.lprw Instr.lprd l 0b0000)
    (fun v s => { s with psr := (s.psr.extractLsb' 8 8 ++ v.extractLsb' 0 8 : BitVec (8 + 8)) &&& psrMask })
    [0, 1, 2, 3, 4, 5, 6, 7, 12, 13, 14, 15] []) ∧
  LoadsRegister .d any (.lprd 0b1000) (fun v s => { s with fp := v.setWidth 24 }) [] [.fp] ∧
  LoadsRegister .d any (.lprd 0b1001) (fun v s => s.setSp (v.setWidth 24)) [] [.sp] ∧
  LoadsRegister .d any (.lprd 0b1010) (fun v s => { s with sb := v.setWidth 24 }) [] [.sb] ∧
  LoadsRegister .w supervisor (.lprw 0b1101) (fun v s => { s with psr := v.setWidth 16 &&& psrMask })
    (List.range 16) [] ∧
  LoadsRegister .d supervisor (.lprd 0b1110) (fun v s => { s with intbase := v.setWidth 24 }) [] [.intbase] ∧
  LoadsRegister .w any (.lprw 0b1111) (fun v s => { s with mod := v.setWidth 16 }) [] [.mod]

/-- SPRi (R401): each dedicated register is stored, as it was before a push of the destination; PSR and INTBASE need
Supervisor Mode, and reserved PSR bits read as 0 (D3). SFSR (R253) stores the FSR, SMR (R431) a memory-management
register. The codes, the lengths and the old SP are PRESUMED (G7, G8, log 28). -/
def Obligations.StoredRegisters : Prop :=
  let supervisor (s : State) : Prop := s.flag bitU = false
  let any (_ : State) : Prop := True
  (∀ l : Len, SetsOperand l any (byLen Instr.sprb Instr.sprw Instr.sprd l 0b0000)
    (fun s => (s.psr &&& 0x00E7).setWidth 64)) ∧
  SetsOperand .d any (.sprd 0b1000) (fun s => s.fp.setWidth 64) ∧
  SetsOperand .d any (.sprd 0b1001) (fun s => s.sp.setWidth 64) ∧
  SetsOperand .d any (.sprd 0b1010) (fun s => s.sb.setWidth 64) ∧
  SetsOperand .w supervisor (.sprw 0b1101) (fun s => (s.psr &&& psrMask).setWidth 64) ∧
  SetsOperand .d supervisor (.sprd 0b1110) (fun s => s.intbase.setWidth 64) ∧
  SetsOperand .w any (.sprw 0b1111) (fun s => s.mod.setWidth 64) ∧
  SetsOperand .d State.fpuReady (fun g => .sfsr g 0) (fun s => s.fsr.setWidth 64) ∧
  ∀ p ∈ mmuTable, SetsOperand .d State.mmuReady (fun g => .smr p.1 g 0) (fun s => (p.2 s.mmu).setWidth 64)

/-- LFSR (R252, R61) keeps the low half of its operand in the FSR; LMR (R430) loads one memory-management register and
no other. Loading EIA changes none: it removes an entry from the Translation Buffer (R63), which may then hold anything
(log 14), and EIA still reads as the address of the last translation error (R431). The codes are PRESUMED (G8, log 28);
that the others take the value whole is the model's choice (log 47). LMR flushes the instruction queue and the next
instruction is fetched non-sequentially (R602, R103); how the queue is modelled is DEDUCED (log 18). -/
def Obligations.LoadedUnitRegisters : Prop :=
  LoadsRegister .d State.fpuReady (fun g => .lfsr g 0) (fun v s => { s with fsr := v.setWidth 16 }) [] [.fsr] ∧
  ∀ p ∈ mmuTable, ∀ (src : Gen) (s s1 : State) (v : QWord), s.mmuReady → Gives (readInt .d src) s v s1 →
    s.fits (.lmr p.1 src 0) →
    (p.1 ≠ 0b1111 → ∃ m : MmuRegs,
      exec (.lmr p.1 src 0) s = .next ({ s1 with mmu := m }.jumped (s.nextPc (.lmr p.1 src 0))) ∧
      p.2 m = v.setWidth 32 ∧ (∀ q ∈ mmuTable, q.1 ≠ p.1 → q.2 m = q.2 s1.mmu) ∧
      Keeps { special := .mmu :: movesSp src } s { s1 with mmu := m }) ∧
    (p.1 = 0b1111 → ∃ b : Nat,
      exec (.lmr p.1 src 0) s = .next ({ s1 with buffer := b }.jumped (s.nextPc (.lmr p.1 src 0))) ∧
      Keeps { special := movesSp src } s { s1 with buffer := b })

/-- NOP (R403), SETCFG in Supervisor Mode (R402), WAIT (R404) and DIA (R405), which stay at their own address, and
ADJSPi (R397), which subtracts a signed operand from SP. ADJSP's sign and SETCFG's bits are PRESUMED (G19, G26, log
28); WAIT and DIA as suspended activities are logs 19 and 20. -/
def Obligations.ServiceInstructions : Prop :=
  (∀ (l : Len) (src : Gen) (s s1 : State) (v : QWord), Gives (readInt l src) s v s1 →
    0 ≤ s1.sp.toNat - sval l.bytes v → s1.sp.toNat - sval l.bytes v < 2 ^ 24 →
    s.fits (byLen Instr.adjspb Instr.adjspw Instr.adjspd l src) →
    Completes (byLen Instr.adjspb Instr.adjspw Instr.adjspd l src) s
      (s1.setSp (BitVec.ofInt 24 (s1.sp.toNat - sval l.bytes v))) { special := [.sp] }) ∧
  (∀ s : State, s.fits .nop → s.nextPc .nop = s.pc.toNat + 1 ∧ Completes .nop s s {}) ∧
  (∀ (s : State) (list : BitVec 4), s.flag bitU = false → s.fits (.setcfg list 0) →
    Completes (.setcfg list 0) s { s with cfg := list } { special := [.cfg] }) ∧
  (∀ s : State, exec .wait s = .next { s with activity := .waiting }) ∧
  ∀ s : State, exec .dia s = .next { s with activity := .diagnosing, queueDirty := [] }

/-- RDVAL and WRVAL (R432, R433): F is set where User Mode may not make the access, and nothing is accessed. A
location without a valid mapping aborts. MOVSUi and MOVUSi in Supervisor Mode (R434, R435) read in one mode's space
and write in the other's. F as the report is PRESUMED (G20, log 28); the mapping is a parameter (D17, log 14), and
what an abort records is log 15. MOVSUi and MOVUSi flush the instruction queue and the next instruction is fetched
non-sequentially (R602, R103); how the queue is modelled is DEDUCED (log 18). -/
def Obligations.UserSpaceInstructions : Prop :=
  (∀ (toUser : Bool) (l : Len) (src dest : Gen) (s s1 s2 s3 w : State) (a b : Int) (v : QWord),
    let i :=
      if toUser then byLen Instr.movsub Instr.movsuw Instr.movsud l src dest
      else byLen Instr.movusb Instr.movusw Instr.movusd l src dest
    let from_ : Mode := if toUser then .supervisor else .user
    let to_ : Mode := if toUser then .user else .supervisor
    s.flag bitU = false → Gives (addrOp src) s a s1 → Gives (addrOp dest) s1 b s2 →
    Gives (memReadAs from_ a l.bytes) s2 v s3 → Gives (memWriteAs to_ b l.bytes v) s3 () w → s.fits i →
    exec i s = .next (w.jumped (s.nextPc i)) ∧ Keeps { cells := s3.cellsAt to_ b l.bytes } s w) ∧
  ∀ (writes : Bool) (loc : Gen) (s s1 : State) (a : Int),
    let i : Instr := if writes then .wrval loc 0 else .rdval loc 0
    let kind : AccessKind := if writes then .write else .read
    let seen := Config.translate s1.mmu s1.buffer s1.mem (BitVec.ofInt 24 a) .user kind
    s.mmuReady → Gives (addrOp loc) s a s1 → s.fits i →
    (s.translating = false → Completes i s (s1.setFlag bitF false) { flags := [bitF] }) ∧
    (s.translating = true → seen = .refused →
      ∃ b, Completes i s ({ s1 with buffer := b }.setFlag bitF true) { flags := [bitF] }) ∧
    (s.translating = true → ∀ pa, seen = .mapped pa →
      ∃ b, Completes i s ({ s1 with buffer := b }.setFlag bitF false) { flags := [bitF] }) ∧
    (s.translating = true → seen = .invalid →
      ∃ u, AbortRecorded s1 u a.toNat ∧ exec i s = takeTrap .abt s u)

/-! ### Floating point -/

/-- ADDf, SUBf, MULf and DIVf (R230 to R233): the exact result of the values of both operands, delivered to operand B.
Which operand SUBf subtracts and DIVf divides by is PRESUMED (G14, log 28). The sign of an exact zero is a parameter
(D8, log 9). -/
def Obligations.FloatingArithmetic : Prop :=
  (∀ x y : Exact, x.den ≠ 0 → y.den ≠ 0 →
    (x.add y).value = x.value + y.value ∧ (x.sub y).value = x.value - y.value ∧
      (x.mul y).value = x.value * y.value ∧ (y.num ≠ 0 → (x.div y).value = x.value / y.value)) ∧
  Computes .add (byFLen Instr.addf Instr.addl) (fun b a => b.add a) ∧
  Computes .sub (byFLen Instr.subf Instr.subl) (fun b a => b.sub a) ∧
  Computes .mul (byFLen Instr.mulf Instr.mull) (fun b a => b.mul a) ∧
  Computes .div (byFLen Instr.divf Instr.divl) (fun b a => b.div a)

/-- The number a pattern stands for (R201 to R207), in both formats, and the delivery of an exact result (R210, R212, R213,
R217, R218). Of zero, the zero of the format with the sign it is given, and nothing else: which sign an instruction gives is
a decision (D8, log 9). Of another number, UF and Positive Zero where it is too small, and else the nearest number of the format in
the direction of the rounding mode, ties to even, where IF tells whether it differs. With the traps of Underflow and
Inexact Result disabled, a result that is not too great is delivered. The order of the fields is PRESUMED (G2, log 28);
how smallness is judged is a parameter (D9, log 10); that an underflow leaves IF alone is a decision (D10, log 38). -/
def Obligations.DeliveredNumbers : Prop :=
  (∀ (y : FLen) (v : QWord),
    let fbits : Nat := byFLen 23 52 y
    let ebits : Nat := byFLen 8 11 y
    let e := v.toNat / 2 ^ fbits % 2 ^ ebits
    let f := v.toNat % 2 ^ fbits
    let negative := v.getLsbD (ebits + fbits)
    (e = 2 ^ ebits - 1 ∨ (e = 0 ∧ f ≠ 0) → classify y v = none) ∧
    (e = 0 → f = 0 → ∃ x, classify y v = some x ∧ x.num = 0 ∧ x.den ≠ 0 ∧ x.neg = negative) ∧
    (e ≠ 0 → e ≠ 2 ^ ebits - 1 → ∃ x, classify y v = some x ∧ x.num ≠ 0 ∧ x.den ≠ 0 ∧ x.neg = negative ∧
      x.value = (if negative then -1 else 1) * 2 ^ ((e : Int) - byFLen 127 1023 y) * (1 + (f : Rat) / 2 ^ fbits))) ∧
  (∀ (y : FLen) (x : Exact) (zeroNeg : Bool) (s : State), x.num = 0 →
    Gives (fpDeliver y x zeroNeg) s (BitVec.ofNat 64 (if zeroNeg then 2 ^ byFLen 31 63 y else 0)) s) ∧
  ∀ (y : FLen) (x : Exact) (zeroNeg : Bool) (s : State), x.num ≠ 0 → x.den ≠ 0 →
    (¬TooGreat y (rounding s.fsr) x.value → s.fsr.getLsbD bitUEN = false → s.fsr.getLsbD bitIEN = false →
      ∃ v t, Gives (fpDeliver y x zeroNeg) s v t) ∧
    ∀ (t : State) (v : QWord), Gives (fpDeliver y x zeroNeg) s v t →
      (TooSmall y (rounding s.fsr) x.value → v = 0 ∧ t = s.setFsrBit bitUF) ∧
      (¬TooSmall y (rounding s.fsr) x.value → ∃ r : Exact, classify y v = some r ∧
        (r.value = x.value → t = s) ∧ (r.value ≠ x.value → t = s.setFsrBit bitIF) ∧
        match rounding s.fsr with
        | 0b00 => ∀ (u : QWord) (q : Rat), Represents y u q →
            |x.value - r.value| ≤ |x.value - q| ∧
              (|x.value - r.value| = |x.value - q| → q ≠ r.value → v.getLsbD 0 = false)
        | 0b01 => 0 ≤ r.value * x.value ∧ |r.value| ≤ |x.value| ∧
            ∀ (u : QWord) (q : Rat), Represents y u q → |q| ≤ |x.value| → |q| ≤ |r.value|
        | 0b10 => x.value ≤ r.value ∧ ∀ (u : QWord) (q : Rat), Represents y u q → x.value ≤ q → r.value ≤ q
        | _ => r.value ≤ x.value ∧ ∀ (u : QWord) (q : Rat), Represents y u q → q ≤ x.value → q ≤ r.value)

/-- NEGf and ABSf (R234, R235) invert or clear the sign of a number; MOVf (R237) copies any pattern; MOVFL (R239)
gives the same value in Long format; CMPf (R236) sets Z for equal values (the zeros are equal), N for a first value
greater than the second, and clears L. CMPf clearing L is PRESUMED (G12, log 28), the field order too (G2); that MOVFL
keeps the sign of a zero is a decision (D8, log 9). -/
def Obligations.FloatingMovesAndComparison : Prop :=
  (∀ (y : FLen) (src1 src2 : Gen) (s s1 s2 : State) (a b : QWord) (va vb : Exact),
    let i := byFLen Instr.cmpf Instr.cmpl y src1 src2
    s.fpuReady → Gives (readFloat y src1) s a s1 → Gives (readFloat y src2) s1 b s2 → classify y a = some va →
    classify y b = some vb → s.fits i →
    Completes i s (s2.setZNL (decide (va.value = vb.value)) (decide (vb.value < va.value)) false)
      { flags := [bitZ, bitN, bitL], special := movesSp src1 ++ movesSp src2 }) ∧
  ConvertsFloat .f .f (fun a => classify .f a ≠ none) .negf
    (fun a => (a.setWidth 32 ^^^ 0x80000000#32).setWidth 64) ∧
  ConvertsFloat .l .l (fun a => classify .l a ≠ none) .negl (fun a => a ^^^ 0x8000000000000000#64) ∧
  ConvertsFloat .f .f (fun a => classify .f a ≠ none) .absf
    (fun a => (a.setWidth 32 &&& 0x7FFFFFFF#32).setWidth 64) ∧
  ConvertsFloat .l .l (fun a => classify .l a ≠ none) .absl (fun a => a &&& 0x7FFFFFFFFFFFFFFF#64) ∧
  ConvertsFloat .f .f (fun _ => True) .movf (fun a => a) ∧
  ConvertsFloat .l .l (fun _ => True) .movl (fun a => a) ∧
  ConvertsFloat .f .l (fun a => classify .f a ≠ none) .movfl widen ∧
  ∀ (a : QWord) (e : Exact), classify .f a = some e →
    ∃ r, classify .l (widen a) = some r ∧ r.value = e.value ∧ r.neg = e.neg

/-- MOVif and MOVLF (R238, R240): an integer, or the value of a Long number, delivered in the destination's format.
The sign of a zero is a decision (D8, log 9). -/
def Obligations.ConversionsToFloating : Prop :=
  (∀ (l : Len) (y : FLen) (src dest : Gen) (s s1 s2 s3 w : State) (a r : QWord) (x : Loc) (e : Exact),
    let i := byFLen (byLen Instr.movbf Instr.movwf Instr.movdf l src dest)
      (byLen Instr.movbl Instr.movwl Instr.movdl l src dest) y
    s.fpuReady → Gives (readInt l src) s a s1 → Gives (locateWrite .float y.bytes dest) s1 x s2 →
    e = { neg := decide (sval l.bytes a < 0), num := (sval l.bytes a).natAbs, den := 1 } →
    Gives (fpDeliver y e false) s2 r s3 → Gives (writeFloat y x r) s3 () w → s.fits i →
    Completes i s w
      { fregs := x.fregs y.bytes, cells := x.cells y.bytes s3, special := .fsr :: movesSp src ++ movesSp dest }) ∧
  ∀ (src dest : Gen) (s s1 s2 s3 w : State) (a r : QWord) (x : Loc) (e : Exact),
    s.fpuReady → Gives (readFloat .l src) s a s1 → Gives (locateWrite .float 4 dest) s1 x s2 →
    classify .l a = some e → Gives (fpDeliver .f e e.neg) s2 r s3 → Gives (writeFloat .f x r) s3 () w →
    s.fits (.movlf src dest) →
    Completes (.movlf src dest) s w
      { fregs := x.fregs 4, cells := x.cells 4 s3, special := .fsr :: movesSp src ++ movesSp dest }

/-- ROUNDfi, TRUNCfi and FLOORfi (R241 to R243): the nearest integer (for an exact half, the even one or the one away
from zero), the integer part, the greatest integer not above; one that does not fit is an Overflow (R213). The tie is
a parameter (D13, log 11). -/
def Obligations.ConversionsToInteger : Prop :=
  ToInteger (byFLen (byLen Instr.roundfb Instr.roundfw Instr.roundfd) (byLen Instr.roundlb Instr.roundlw Instr.roundld))
    (fun x n => |x - n| < 1 / 2 ∨ (|x - n| = 1 / 2 ∧ (Even n ∨ |x| < |(n : Rat)|))) ∧
  ToInteger (byFLen (byLen Instr.truncfb Instr.truncfw Instr.truncfd) (byLen Instr.trunclb Instr.trunclw Instr.truncld))
    (fun x n => n = if x < 0 then ⌈x⌉ else ⌊x⌋) ∧
  ToInteger (byFLen (byLen Instr.floorfb Instr.floorfw Instr.floorfd) (byLen Instr.floorlb Instr.floorlw Instr.floorld))
    (fun x n => n = ⌊x⌋)

/-- Trap(FPU) (R211 to R217), with its reason in TT and nothing delivered: a Reserved operand, of each instruction but
MOVf; zero divided by zero; a number divided by zero; a result too great, one too small while UEN is set, with UF, one
that is not exact while IEN is set, with IF; and the two Illegal Instruction forms. Which operand DIVf divides by is
PRESUMED (G14, log 28). The order of the conditions is a decision (D12, log 38), how smallness is judged a parameter (D9,
log 10). -/
def Obligations.FloatingTraps : Prop :=
  (∀ (op : ArithOp) (y : FLen) (src dest : Gen) (s s1 s2 : State) (a b : QWord) (x : Loc),
    let i := match op with
      | .add => byFLen Instr.addf Instr.addl y src dest
      | .sub => byFLen Instr.subf Instr.subl y src dest
      | .mul => byFLen Instr.mulf Instr.mull y src dest
      | .div => byFLen Instr.divf Instr.divl y src dest
    let result (va vb : Exact) : Exact := match op with
      | .add => vb.add va
      | .sub => vb.sub va
      | .mul => vb.mul va
      | .div => vb.div va
    let reason (tt : BitVec 3) : State := { s2 with fsr := putTT s2.fsr tt }
    s.fpuReady → Gives (readFloat y src) s a s1 → ReadsRmw .float y.bytes dest s1 x b s2 →
    (classify y a = none ∨ classify y b = none → s.canTrap (reason 0b101) .fpu →
      exec i s = .next (s.trapped (reason 0b101) .fpu)) ∧
    (∀ va vb : Exact, op = .div → classify y a = some va → classify y b = some vb → va.num = 0 →
      (vb.num = 0 → s.canTrap (reason 0b101) .fpu → exec i s = .next (s.trapped (reason 0b101) .fpu)) ∧
      (vb.num ≠ 0 → s.canTrap (reason 0b011) .fpu → exec i s = .next (s.trapped (reason 0b011) .fpu))) ∧
    (∀ (va vb : Exact) (u : State), (op = .div → va.num ≠ 0) → classify y a = some va → classify y b = some vb →
      Abandons (fpDeliver y (result va vb) (Config.fpZeroSign op y a b (rounding s.fsr))) s2 (.trap .fpu) u →
      s.canTrap u .fpu → exec i s = .next (s.trapped u .fpu))) ∧
  -- the traps of a delivery (R212, R213, R217)
  (∀ (y : FLen) (x : Exact) (zeroNeg : Bool) (s : State), x.num ≠ 0 → x.den ≠ 0 →
    let great := TooGreat y (rounding s.fsr) x.value
    let small := TooSmall y (rounding s.fsr) x.value
    let traps (tt : BitVec 3) (u : State) : Prop :=
      Abandons (fpDeliver y x zeroNeg) s (.trap .fpu) { u with fsr := putTT u.fsr tt }
    (great → traps 0b010 s) ∧
    (¬great → small → s.fsr.getLsbD bitUEN = true → traps 0b001 (s.setFsrBit bitUF)) ∧
    (¬great → ¬small → (∀ v, ¬Represents y v x.value) → s.fsr.getLsbD bitIEN = true →
      traps 0b110 (s.setFsrBit bitIF))) ∧
  (∀ (l : Len) (y : FLen) (src dest : Gen) (s s1 s2 u : State) (a : QWord) (x : Loc) (e : Exact),
    let i := byFLen (byLen Instr.movbf Instr.movwf Instr.movdf l src dest)
      (byLen Instr.movbl Instr.movwl Instr.movdl l src dest) y
    s.fpuReady → Gives (readInt l src) s a s1 → Gives (locateWrite .float y.bytes dest) s1 x s2 →
    e = { neg := decide (sval l.bytes a < 0), num := (sval l.bytes a).natAbs, den := 1 } →
    Abandons (fpDeliver y e false) s2 (.trap .fpu) u → s.canTrap u .fpu → exec i s = .next (s.trapped u .fpu)) ∧
  (∀ (src dest : Gen) (s s1 s2 u : State) (a : QWord) (x : Loc) (e : Exact), s.fpuReady →
    Gives (readFloat .l src) s a s1 → Gives (locateWrite .float 4 dest) s1 x s2 → classify .l a = some e →
    Abandons (fpDeliver .f e e.neg) s2 (.trap .fpu) u → s.canTrap u .fpu →
    exec (.movlf src dest) s = .next (s.trapped u .fpu)) ∧
  -- a Reserved operand of the other instructions (R216)
  (∀ (y : FLen) (src1 src2 : Gen) (s s1 s2 : State) (a b : QWord), s.fpuReady → Gives (readFloat y src1) s a s1 →
    Gives (readFloat y src2) s1 b s2 → classify y a = none ∨ classify y b = none →
    let u := { s2 with fsr := putTT s2.fsr 0b101 }
    s.canTrap u .fpu → exec (byFLen Instr.cmpf Instr.cmpl y src1 src2) s = .next (s.trapped u .fpu)) ∧
  (∀ y : FLen, TrapsOnReserved y .float y.bytes (byFLen Instr.negf Instr.negl y) ∧
    TrapsOnReserved y .float y.bytes (byFLen Instr.absf Instr.absl y) ∧
    ∀ l : Len,
      TrapsOnReserved y .int l.bytes (byFLen (byLen Instr.roundfb Instr.roundfw Instr.roundfd l)
        (byLen Instr.roundlb Instr.roundlw Instr.roundld l) y) ∧
      TrapsOnReserved y .int l.bytes (byFLen (byLen Instr.truncfb Instr.truncfw Instr.truncfd l)
        (byLen Instr.trunclb Instr.trunclw Instr.truncld l) y) ∧
      TrapsOnReserved y .int l.bytes (byFLen (byLen Instr.floorfb Instr.floorfw Instr.floorfd l)
        (byLen Instr.floorlb Instr.floorlw Instr.floorld l) y)) ∧
  TrapsOnReserved .l .float 4 .movlf ∧ TrapsOnReserved .f .float 8 .movfl ∧
  ∀ (raw : BitVec 24) (s : State), s.fpuReady →
    let u := { s with fsr := putTT s.fsr 0b100 }
    s.canTrap u .fpu →
    exec (.fpuILLEGAL0011 raw) s = .next (s.trapped u .fpu) ∧ exec (.fpuILLEGAL1001 raw) s = .next (s.trapped u .fpu)

/-! ### Accesses that memory does not make -/

/-- Trap(ABT) (R437): a memory read or write or a fetch that `translate` refuses is abandoned, with the address in EIA
(R63); it never is while no address is translated. An instruction whose operand access is refused performs the abort
sequence (R546), here MOVi and the instructions of its shape; the sequence, through memory however it is mapped, leaves
what R546 says. Translation is a parameter (D17, log 14); what the MMU records, and that nothing of a refused access is
made, is the model's choice (log 15). At an address that the memory map (D28) does not mark RAM, accesses are what
`Accesses` says: ROM keeps its bytes, a device access is answered by the environment and reported (R100), an absent address
faults (R587). The memory map is a parameter; the write to ROM and the bytes of a wide device access are the model's choices
(logs 13 and 32). -/
def Obligations.AbortedAccesses : Prop :=
  (∀ (s : State) (mode : Mode) (a : Int) (n : Nat), s.translating = true → inSpace a n = true →
    MappedOr s mode .read a.toNat n (fun u => Abandons (memReadAs mode a n) s (.trap .abt) u) ∧
    MappedOr s mode .write a.toNat n (fun u => ∀ v, Abandons (memWriteAs mode a n v) s (.trap .abt) u) ∧
    (n = 1 → MappedOr s s.mode .execute a.toNat 1 (fun u => Abandons (fetchByte a) s (.trap .abt) u))) ∧
  (∀ (s u : State) (mode : Mode) (a : Int) (n : Nat) (v : QWord), s.translating = false →
    ¬Abandons (memReadAs mode a n) s (.trap .abt) u ∧ ¬Abandons (memWriteAs mode a n v) s (.trap .abt) u ∧
      ¬Abandons (fetchByte a) s (.trap .abt) u) ∧
  (∀ (l : Len) (src dest : Gen) (s s1 s2 : State) (a b : Int) (v : QWord) (i : Instr), s.translating = true →
    i ∈ [byLen Instr.movb Instr.movw Instr.movd l src dest, byLen Instr.addb Instr.addw Instr.addd l src dest,
      byLen Instr.subb Instr.subw Instr.subd l src dest, byLen Instr.andb Instr.andw Instr.andd l src dest,
      byLen Instr.orb Instr.orw Instr.ord l src dest, byLen Instr.cmpb Instr.cmpw Instr.cmpd l src dest] →
    (inMemory src = true → Gives (addrOp src) s a s1 → inSpace a l.bytes = true →
      MappedOr s1 s1.mode .read a.toNat l.bytes (fun u => exec i s = takeTrap .abt s u)) ∧
    (i = byLen Instr.movb Instr.movw Instr.movd l src dest → inMemory dest = true → Gives (readInt l src) s v s1 →
      Gives (addrOp dest) s1 b s2 → inSpace b l.bytes = true →
      MappedOr s2 s2.mode .write b.toNat l.bytes (fun u => exec i s = takeTrap .abt s u))) ∧
  (∀ s u v t : State, Gives (push 2 ((withoutP u.psr).setWidth 64)) { restoreSp s u with psr := interruptPsr u.psr } () v →
    Gives (service 2 s.pc) v () t → takeTrap .abt s u = .next { t with activity := .afterException }) ∧
  ∀ (s : State) (a : Int), s.translating = false → Accesses s a

end
end

