-- ==== Sys2Proof/Laws/State.lean ====
section
/-! SUPPORT. One lemma for each field of State and each named update, and what registers and flags read as after one. -/

namespace Sys2Proof.Machine

variable (s : State)

/-! ### State.setReg -/

@[simp] theorem State.setReg_pc (r : Reg) (v : DWord) : (s.setReg r v).pc = s.pc := rfl
@[simp] theorem State.setReg_sb (r : Reg) (v : DWord) : (s.setReg r v).sb = s.sb := rfl
@[simp] theorem State.setReg_sp0 (r : Reg) (v : DWord) : (s.setReg r v).sp0 = s.sp0 := rfl
@[simp] theorem State.setReg_sp1 (r : Reg) (v : DWord) : (s.setReg r v).sp1 = s.sp1 := rfl
@[simp] theorem State.setReg_fp (r : Reg) (v : DWord) : (s.setReg r v).fp = s.fp := rfl
@[simp] theorem State.setReg_intbase (r : Reg) (v : DWord) : (s.setReg r v).intbase = s.intbase := rfl
@[simp] theorem State.setReg_mod (r : Reg) (v : DWord) : (s.setReg r v).mod = s.mod := rfl
@[simp] theorem State.setReg_psr (r : Reg) (v : DWord) : (s.setReg r v).psr = s.psr := rfl
@[simp] theorem State.setReg_cfg (r : Reg) (v : DWord) : (s.setReg r v).cfg = s.cfg := rfl
@[simp] theorem State.setReg_fregs (r : Reg) (v : DWord) : (s.setReg r v).fregs = s.fregs := rfl
@[simp] theorem State.setReg_fsr (r : Reg) (v : DWord) : (s.setReg r v).fsr = s.fsr := rfl
@[simp] theorem State.setReg_mmu (r : Reg) (v : DWord) : (s.setReg r v).mmu = s.mmu := rfl
@[simp] theorem State.setReg_buffer (r : Reg) (v : DWord) : (s.setReg r v).buffer = s.buffer := rfl
@[simp] theorem State.setReg_flow (r : Reg) (v : DWord) : (s.setReg r v).flow = s.flow := rfl
@[simp] theorem State.setReg_mem (r : Reg) (v : DWord) : (s.setReg r v).mem = s.mem := rfl
@[simp] theorem State.setReg_nmiPending (r : Reg) (v : DWord) : (s.setReg r v).nmiPending = s.nmiPending := rfl
@[simp] theorem State.setReg_intLine (r : Reg) (v : DWord) : (s.setReg r v).intLine = s.intLine := rfl
@[simp] theorem State.setReg_activity (r : Reg) (v : DWord) : (s.setReg r v).activity = s.activity := rfl
@[simp] theorem State.setReg_queueDirty (r : Reg) (v : DWord) : (s.setReg r v).queueDirty = s.queueDirty := rfl
@[simp] theorem State.setReg_platform (r : Reg) (v : DWord) : (s.setReg r v).platform = s.platform := rfl
@[simp] theorem State.setReg_inputs (r : Reg) (v : DWord) : (s.setReg r v).inputs = s.inputs := rfl
@[simp] theorem State.setReg_answers (r : Reg) (v : DWord) : (s.setReg r v).answers = s.answers := rfl
@[simp] theorem State.setReg_events (r : Reg) (v : DWord) : (s.setReg r v).events = s.events := rfl
@[simp] theorem State.setReg_draws (r : Reg) (v : DWord) : (s.setReg r v).draws = s.draws := rfl

/-! ### State.setFreg -/

@[simp] theorem State.setFreg_regs (r : Reg) (v : DWord) : (s.setFreg r v).regs = s.regs := rfl
@[simp] theorem State.setFreg_pc (r : Reg) (v : DWord) : (s.setFreg r v).pc = s.pc := rfl
@[simp] theorem State.setFreg_sb (r : Reg) (v : DWord) : (s.setFreg r v).sb = s.sb := rfl
@[simp] theorem State.setFreg_sp0 (r : Reg) (v : DWord) : (s.setFreg r v).sp0 = s.sp0 := rfl
@[simp] theorem State.setFreg_sp1 (r : Reg) (v : DWord) : (s.setFreg r v).sp1 = s.sp1 := rfl
@[simp] theorem State.setFreg_fp (r : Reg) (v : DWord) : (s.setFreg r v).fp = s.fp := rfl
@[simp] theorem State.setFreg_intbase (r : Reg) (v : DWord) : (s.setFreg r v).intbase = s.intbase := rfl
@[simp] theorem State.setFreg_mod (r : Reg) (v : DWord) : (s.setFreg r v).mod = s.mod := rfl
@[simp] theorem State.setFreg_psr (r : Reg) (v : DWord) : (s.setFreg r v).psr = s.psr := rfl
@[simp] theorem State.setFreg_cfg (r : Reg) (v : DWord) : (s.setFreg r v).cfg = s.cfg := rfl
@[simp] theorem State.setFreg_fsr (r : Reg) (v : DWord) : (s.setFreg r v).fsr = s.fsr := rfl
@[simp] theorem State.setFreg_mmu (r : Reg) (v : DWord) : (s.setFreg r v).mmu = s.mmu := rfl
@[simp] theorem State.setFreg_buffer (r : Reg) (v : DWord) : (s.setFreg r v).buffer = s.buffer := rfl
@[simp] theorem State.setFreg_flow (r : Reg) (v : DWord) : (s.setFreg r v).flow = s.flow := rfl
@[simp] theorem State.setFreg_mem (r : Reg) (v : DWord) : (s.setFreg r v).mem = s.mem := rfl
@[simp] theorem State.setFreg_nmiPending (r : Reg) (v : DWord) : (s.setFreg r v).nmiPending = s.nmiPending := rfl
@[simp] theorem State.setFreg_intLine (r : Reg) (v : DWord) : (s.setFreg r v).intLine = s.intLine := rfl
@[simp] theorem State.setFreg_activity (r : Reg) (v : DWord) : (s.setFreg r v).activity = s.activity := rfl
@[simp] theorem State.setFreg_queueDirty (r : Reg) (v : DWord) : (s.setFreg r v).queueDirty = s.queueDirty := rfl
@[simp] theorem State.setFreg_platform (r : Reg) (v : DWord) : (s.setFreg r v).platform = s.platform := rfl
@[simp] theorem State.setFreg_inputs (r : Reg) (v : DWord) : (s.setFreg r v).inputs = s.inputs := rfl
@[simp] theorem State.setFreg_answers (r : Reg) (v : DWord) : (s.setFreg r v).answers = s.answers := rfl
@[simp] theorem State.setFreg_events (r : Reg) (v : DWord) : (s.setFreg r v).events = s.events := rfl
@[simp] theorem State.setFreg_draws (r : Reg) (v : DWord) : (s.setFreg r v).draws = s.draws := rfl

/-! ### State.setFlag -/

@[simp] theorem State.setFlag_regs (k : Nat) (b : Bool) : (s.setFlag k b).regs = s.regs := rfl
@[simp] theorem State.setFlag_pc (k : Nat) (b : Bool) : (s.setFlag k b).pc = s.pc := rfl
@[simp] theorem State.setFlag_sb (k : Nat) (b : Bool) : (s.setFlag k b).sb = s.sb := rfl
@[simp] theorem State.setFlag_sp0 (k : Nat) (b : Bool) : (s.setFlag k b).sp0 = s.sp0 := rfl
@[simp] theorem State.setFlag_sp1 (k : Nat) (b : Bool) : (s.setFlag k b).sp1 = s.sp1 := rfl
@[simp] theorem State.setFlag_fp (k : Nat) (b : Bool) : (s.setFlag k b).fp = s.fp := rfl
@[simp] theorem State.setFlag_intbase (k : Nat) (b : Bool) : (s.setFlag k b).intbase = s.intbase := rfl
@[simp] theorem State.setFlag_mod (k : Nat) (b : Bool) : (s.setFlag k b).mod = s.mod := rfl
@[simp] theorem State.setFlag_cfg (k : Nat) (b : Bool) : (s.setFlag k b).cfg = s.cfg := rfl
@[simp] theorem State.setFlag_fregs (k : Nat) (b : Bool) : (s.setFlag k b).fregs = s.fregs := rfl
@[simp] theorem State.setFlag_fsr (k : Nat) (b : Bool) : (s.setFlag k b).fsr = s.fsr := rfl
@[simp] theorem State.setFlag_mmu (k : Nat) (b : Bool) : (s.setFlag k b).mmu = s.mmu := rfl
@[simp] theorem State.setFlag_buffer (k : Nat) (b : Bool) : (s.setFlag k b).buffer = s.buffer := rfl
@[simp] theorem State.setFlag_flow (k : Nat) (b : Bool) : (s.setFlag k b).flow = s.flow := rfl
@[simp] theorem State.setFlag_mem (k : Nat) (b : Bool) : (s.setFlag k b).mem = s.mem := rfl
@[simp] theorem State.setFlag_nmiPending (k : Nat) (b : Bool) : (s.setFlag k b).nmiPending = s.nmiPending := rfl
@[simp] theorem State.setFlag_intLine (k : Nat) (b : Bool) : (s.setFlag k b).intLine = s.intLine := rfl
@[simp] theorem State.setFlag_activity (k : Nat) (b : Bool) : (s.setFlag k b).activity = s.activity := rfl
@[simp] theorem State.setFlag_queueDirty (k : Nat) (b : Bool) : (s.setFlag k b).queueDirty = s.queueDirty := rfl
@[simp] theorem State.setFlag_platform (k : Nat) (b : Bool) : (s.setFlag k b).platform = s.platform := rfl
@[simp] theorem State.setFlag_inputs (k : Nat) (b : Bool) : (s.setFlag k b).inputs = s.inputs := rfl
@[simp] theorem State.setFlag_answers (k : Nat) (b : Bool) : (s.setFlag k b).answers = s.answers := rfl
@[simp] theorem State.setFlag_events (k : Nat) (b : Bool) : (s.setFlag k b).events = s.events := rfl
@[simp] theorem State.setFlag_draws (k : Nat) (b : Bool) : (s.setFlag k b).draws = s.draws := rfl

/-! ### State.setPsr -/

@[simp] theorem State.setPsr_regs (w : Word) : (s.setPsr w).regs = s.regs := rfl
@[simp] theorem State.setPsr_pc (w : Word) : (s.setPsr w).pc = s.pc := rfl
@[simp] theorem State.setPsr_sb (w : Word) : (s.setPsr w).sb = s.sb := rfl
@[simp] theorem State.setPsr_sp0 (w : Word) : (s.setPsr w).sp0 = s.sp0 := rfl
@[simp] theorem State.setPsr_sp1 (w : Word) : (s.setPsr w).sp1 = s.sp1 := rfl
@[simp] theorem State.setPsr_fp (w : Word) : (s.setPsr w).fp = s.fp := rfl
@[simp] theorem State.setPsr_intbase (w : Word) : (s.setPsr w).intbase = s.intbase := rfl
@[simp] theorem State.setPsr_mod (w : Word) : (s.setPsr w).mod = s.mod := rfl
@[simp] theorem State.setPsr_cfg (w : Word) : (s.setPsr w).cfg = s.cfg := rfl
@[simp] theorem State.setPsr_fregs (w : Word) : (s.setPsr w).fregs = s.fregs := rfl
@[simp] theorem State.setPsr_fsr (w : Word) : (s.setPsr w).fsr = s.fsr := rfl
@[simp] theorem State.setPsr_mmu (w : Word) : (s.setPsr w).mmu = s.mmu := rfl
@[simp] theorem State.setPsr_buffer (w : Word) : (s.setPsr w).buffer = s.buffer := rfl
@[simp] theorem State.setPsr_flow (w : Word) : (s.setPsr w).flow = s.flow := rfl
@[simp] theorem State.setPsr_mem (w : Word) : (s.setPsr w).mem = s.mem := rfl
@[simp] theorem State.setPsr_nmiPending (w : Word) : (s.setPsr w).nmiPending = s.nmiPending := rfl
@[simp] theorem State.setPsr_intLine (w : Word) : (s.setPsr w).intLine = s.intLine := rfl
@[simp] theorem State.setPsr_activity (w : Word) : (s.setPsr w).activity = s.activity := rfl
@[simp] theorem State.setPsr_queueDirty (w : Word) : (s.setPsr w).queueDirty = s.queueDirty := rfl
@[simp] theorem State.setPsr_platform (w : Word) : (s.setPsr w).platform = s.platform := rfl
@[simp] theorem State.setPsr_inputs (w : Word) : (s.setPsr w).inputs = s.inputs := rfl
@[simp] theorem State.setPsr_answers (w : Word) : (s.setPsr w).answers = s.answers := rfl
@[simp] theorem State.setPsr_events (w : Word) : (s.setPsr w).events = s.events := rfl
@[simp] theorem State.setPsr_draws (w : Word) : (s.setPsr w).draws = s.draws := rfl

/-! ### State.setZNL -/

@[simp] theorem State.setZNL_regs (z n l : Bool) : (s.setZNL z n l).regs = s.regs := rfl
@[simp] theorem State.setZNL_pc (z n l : Bool) : (s.setZNL z n l).pc = s.pc := rfl
@[simp] theorem State.setZNL_sb (z n l : Bool) : (s.setZNL z n l).sb = s.sb := rfl
@[simp] theorem State.setZNL_sp0 (z n l : Bool) : (s.setZNL z n l).sp0 = s.sp0 := rfl
@[simp] theorem State.setZNL_sp1 (z n l : Bool) : (s.setZNL z n l).sp1 = s.sp1 := rfl
@[simp] theorem State.setZNL_fp (z n l : Bool) : (s.setZNL z n l).fp = s.fp := rfl
@[simp] theorem State.setZNL_intbase (z n l : Bool) : (s.setZNL z n l).intbase = s.intbase := rfl
@[simp] theorem State.setZNL_mod (z n l : Bool) : (s.setZNL z n l).mod = s.mod := rfl
@[simp] theorem State.setZNL_cfg (z n l : Bool) : (s.setZNL z n l).cfg = s.cfg := rfl
@[simp] theorem State.setZNL_fregs (z n l : Bool) : (s.setZNL z n l).fregs = s.fregs := rfl
@[simp] theorem State.setZNL_fsr (z n l : Bool) : (s.setZNL z n l).fsr = s.fsr := rfl
@[simp] theorem State.setZNL_mmu (z n l : Bool) : (s.setZNL z n l).mmu = s.mmu := rfl
@[simp] theorem State.setZNL_buffer (z n l : Bool) : (s.setZNL z n l).buffer = s.buffer := rfl
@[simp] theorem State.setZNL_flow (z n l : Bool) : (s.setZNL z n l).flow = s.flow := rfl
@[simp] theorem State.setZNL_mem (z n l : Bool) : (s.setZNL z n l).mem = s.mem := rfl
@[simp] theorem State.setZNL_nmiPending (z n l : Bool) : (s.setZNL z n l).nmiPending = s.nmiPending := rfl
@[simp] theorem State.setZNL_intLine (z n l : Bool) : (s.setZNL z n l).intLine = s.intLine := rfl
@[simp] theorem State.setZNL_activity (z n l : Bool) : (s.setZNL z n l).activity = s.activity := rfl
@[simp] theorem State.setZNL_queueDirty (z n l : Bool) : (s.setZNL z n l).queueDirty = s.queueDirty := rfl
@[simp] theorem State.setZNL_platform (z n l : Bool) : (s.setZNL z n l).platform = s.platform := rfl
@[simp] theorem State.setZNL_inputs (z n l : Bool) : (s.setZNL z n l).inputs = s.inputs := rfl
@[simp] theorem State.setZNL_answers (z n l : Bool) : (s.setZNL z n l).answers = s.answers := rfl
@[simp] theorem State.setZNL_events (z n l : Bool) : (s.setZNL z n l).events = s.events := rfl
@[simp] theorem State.setZNL_draws (z n l : Bool) : (s.setZNL z n l).draws = s.draws := rfl

/-! ### State.setCF -/

@[simp] theorem State.setCF_regs (c f : Bool) : (s.setCF c f).regs = s.regs := rfl
@[simp] theorem State.setCF_pc (c f : Bool) : (s.setCF c f).pc = s.pc := rfl
@[simp] theorem State.setCF_sb (c f : Bool) : (s.setCF c f).sb = s.sb := rfl
@[simp] theorem State.setCF_sp0 (c f : Bool) : (s.setCF c f).sp0 = s.sp0 := rfl
@[simp] theorem State.setCF_sp1 (c f : Bool) : (s.setCF c f).sp1 = s.sp1 := rfl
@[simp] theorem State.setCF_fp (c f : Bool) : (s.setCF c f).fp = s.fp := rfl
@[simp] theorem State.setCF_intbase (c f : Bool) : (s.setCF c f).intbase = s.intbase := rfl
@[simp] theorem State.setCF_mod (c f : Bool) : (s.setCF c f).mod = s.mod := rfl
@[simp] theorem State.setCF_cfg (c f : Bool) : (s.setCF c f).cfg = s.cfg := rfl
@[simp] theorem State.setCF_fregs (c f : Bool) : (s.setCF c f).fregs = s.fregs := rfl
@[simp] theorem State.setCF_fsr (c f : Bool) : (s.setCF c f).fsr = s.fsr := rfl
@[simp] theorem State.setCF_mmu (c f : Bool) : (s.setCF c f).mmu = s.mmu := rfl
@[simp] theorem State.setCF_buffer (c f : Bool) : (s.setCF c f).buffer = s.buffer := rfl
@[simp] theorem State.setCF_flow (c f : Bool) : (s.setCF c f).flow = s.flow := rfl
@[simp] theorem State.setCF_mem (c f : Bool) : (s.setCF c f).mem = s.mem := rfl
@[simp] theorem State.setCF_nmiPending (c f : Bool) : (s.setCF c f).nmiPending = s.nmiPending := rfl
@[simp] theorem State.setCF_intLine (c f : Bool) : (s.setCF c f).intLine = s.intLine := rfl
@[simp] theorem State.setCF_activity (c f : Bool) : (s.setCF c f).activity = s.activity := rfl
@[simp] theorem State.setCF_queueDirty (c f : Bool) : (s.setCF c f).queueDirty = s.queueDirty := rfl
@[simp] theorem State.setCF_platform (c f : Bool) : (s.setCF c f).platform = s.platform := rfl
@[simp] theorem State.setCF_inputs (c f : Bool) : (s.setCF c f).inputs = s.inputs := rfl
@[simp] theorem State.setCF_answers (c f : Bool) : (s.setCF c f).answers = s.answers := rfl
@[simp] theorem State.setCF_events (c f : Bool) : (s.setCF c f).events = s.events := rfl
@[simp] theorem State.setCF_draws (c f : Bool) : (s.setCF c f).draws = s.draws := rfl

/-! ### State.storeByte -/

@[simp] theorem State.storeByte_regs (a : Nat) (v : Byte) : (s.storeByte a v).regs = s.regs := rfl
@[simp] theorem State.storeByte_pc (a : Nat) (v : Byte) : (s.storeByte a v).pc = s.pc := rfl
@[simp] theorem State.storeByte_sb (a : Nat) (v : Byte) : (s.storeByte a v).sb = s.sb := rfl
@[simp] theorem State.storeByte_sp0 (a : Nat) (v : Byte) : (s.storeByte a v).sp0 = s.sp0 := rfl
@[simp] theorem State.storeByte_sp1 (a : Nat) (v : Byte) : (s.storeByte a v).sp1 = s.sp1 := rfl
@[simp] theorem State.storeByte_fp (a : Nat) (v : Byte) : (s.storeByte a v).fp = s.fp := rfl
@[simp] theorem State.storeByte_intbase (a : Nat) (v : Byte) : (s.storeByte a v).intbase = s.intbase := rfl
@[simp] theorem State.storeByte_mod (a : Nat) (v : Byte) : (s.storeByte a v).mod = s.mod := rfl
@[simp] theorem State.storeByte_psr (a : Nat) (v : Byte) : (s.storeByte a v).psr = s.psr := rfl
@[simp] theorem State.storeByte_cfg (a : Nat) (v : Byte) : (s.storeByte a v).cfg = s.cfg := rfl
@[simp] theorem State.storeByte_fregs (a : Nat) (v : Byte) : (s.storeByte a v).fregs = s.fregs := rfl
@[simp] theorem State.storeByte_fsr (a : Nat) (v : Byte) : (s.storeByte a v).fsr = s.fsr := rfl
@[simp] theorem State.storeByte_mmu (a : Nat) (v : Byte) : (s.storeByte a v).mmu = s.mmu := rfl
@[simp] theorem State.storeByte_buffer (a : Nat) (v : Byte) : (s.storeByte a v).buffer = s.buffer := rfl
@[simp] theorem State.storeByte_flow (a : Nat) (v : Byte) : (s.storeByte a v).flow = s.flow := rfl
@[simp] theorem State.storeByte_nmiPending (a : Nat) (v : Byte) : (s.storeByte a v).nmiPending = s.nmiPending := rfl
@[simp] theorem State.storeByte_intLine (a : Nat) (v : Byte) : (s.storeByte a v).intLine = s.intLine := rfl
@[simp] theorem State.storeByte_activity (a : Nat) (v : Byte) : (s.storeByte a v).activity = s.activity := rfl
@[simp] theorem State.storeByte_platform (a : Nat) (v : Byte) : (s.storeByte a v).platform = s.platform := rfl
@[simp] theorem State.storeByte_inputs (a : Nat) (v : Byte) : (s.storeByte a v).inputs = s.inputs := rfl
@[simp] theorem State.storeByte_answers (a : Nat) (v : Byte) : (s.storeByte a v).answers = s.answers := rfl
@[simp] theorem State.storeByte_events (a : Nat) (v : Byte) : (s.storeByte a v).events = s.events := rfl
@[simp] theorem State.storeByte_draws (a : Nat) (v : Byte) : (s.storeByte a v).draws = s.draws := rfl

/-! ### State.setFsrBit -/

@[simp] theorem State.setFsrBit_regs (k : Nat) : (s.setFsrBit k).regs = s.regs := rfl
@[simp] theorem State.setFsrBit_pc (k : Nat) : (s.setFsrBit k).pc = s.pc := rfl
@[simp] theorem State.setFsrBit_sb (k : Nat) : (s.setFsrBit k).sb = s.sb := rfl
@[simp] theorem State.setFsrBit_sp0 (k : Nat) : (s.setFsrBit k).sp0 = s.sp0 := rfl
@[simp] theorem State.setFsrBit_sp1 (k : Nat) : (s.setFsrBit k).sp1 = s.sp1 := rfl
@[simp] theorem State.setFsrBit_fp (k : Nat) : (s.setFsrBit k).fp = s.fp := rfl
@[simp] theorem State.setFsrBit_intbase (k : Nat) : (s.setFsrBit k).intbase = s.intbase := rfl
@[simp] theorem State.setFsrBit_mod (k : Nat) : (s.setFsrBit k).mod = s.mod := rfl
@[simp] theorem State.setFsrBit_psr (k : Nat) : (s.setFsrBit k).psr = s.psr := rfl
@[simp] theorem State.setFsrBit_cfg (k : Nat) : (s.setFsrBit k).cfg = s.cfg := rfl
@[simp] theorem State.setFsrBit_fregs (k : Nat) : (s.setFsrBit k).fregs = s.fregs := rfl
@[simp] theorem State.setFsrBit_mmu (k : Nat) : (s.setFsrBit k).mmu = s.mmu := rfl
@[simp] theorem State.setFsrBit_buffer (k : Nat) : (s.setFsrBit k).buffer = s.buffer := rfl
@[simp] theorem State.setFsrBit_flow (k : Nat) : (s.setFsrBit k).flow = s.flow := rfl
@[simp] theorem State.setFsrBit_mem (k : Nat) : (s.setFsrBit k).mem = s.mem := rfl
@[simp] theorem State.setFsrBit_nmiPending (k : Nat) : (s.setFsrBit k).nmiPending = s.nmiPending := rfl
@[simp] theorem State.setFsrBit_intLine (k : Nat) : (s.setFsrBit k).intLine = s.intLine := rfl
@[simp] theorem State.setFsrBit_activity (k : Nat) : (s.setFsrBit k).activity = s.activity := rfl
@[simp] theorem State.setFsrBit_queueDirty (k : Nat) : (s.setFsrBit k).queueDirty = s.queueDirty := rfl
@[simp] theorem State.setFsrBit_platform (k : Nat) : (s.setFsrBit k).platform = s.platform := rfl
@[simp] theorem State.setFsrBit_inputs (k : Nat) : (s.setFsrBit k).inputs = s.inputs := rfl
@[simp] theorem State.setFsrBit_answers (k : Nat) : (s.setFsrBit k).answers = s.answers := rfl
@[simp] theorem State.setFsrBit_events (k : Nat) : (s.setFsrBit k).events = s.events := rfl
@[simp] theorem State.setFsrBit_draws (k : Nat) : (s.setFsrBit k).draws = s.draws := rfl

/-! ### State.onwards -/

@[simp] theorem State.onwards_regs (a : Nat) : (s.onwards a).regs = s.regs := rfl
@[simp] theorem State.onwards_sb (a : Nat) : (s.onwards a).sb = s.sb := rfl
@[simp] theorem State.onwards_sp0 (a : Nat) : (s.onwards a).sp0 = s.sp0 := rfl
@[simp] theorem State.onwards_sp1 (a : Nat) : (s.onwards a).sp1 = s.sp1 := rfl
@[simp] theorem State.onwards_fp (a : Nat) : (s.onwards a).fp = s.fp := rfl
@[simp] theorem State.onwards_intbase (a : Nat) : (s.onwards a).intbase = s.intbase := rfl
@[simp] theorem State.onwards_mod (a : Nat) : (s.onwards a).mod = s.mod := rfl
@[simp] theorem State.onwards_psr (a : Nat) : (s.onwards a).psr = s.psr := rfl
@[simp] theorem State.onwards_cfg (a : Nat) : (s.onwards a).cfg = s.cfg := rfl
@[simp] theorem State.onwards_fregs (a : Nat) : (s.onwards a).fregs = s.fregs := rfl
@[simp] theorem State.onwards_fsr (a : Nat) : (s.onwards a).fsr = s.fsr := rfl
@[simp] theorem State.onwards_mmu (a : Nat) : (s.onwards a).mmu = s.mmu := rfl
@[simp] theorem State.onwards_buffer (a : Nat) : (s.onwards a).buffer = s.buffer := rfl
@[simp] theorem State.onwards_mem (a : Nat) : (s.onwards a).mem = s.mem := rfl
@[simp] theorem State.onwards_nmiPending (a : Nat) : (s.onwards a).nmiPending = s.nmiPending := rfl
@[simp] theorem State.onwards_intLine (a : Nat) : (s.onwards a).intLine = s.intLine := rfl
@[simp] theorem State.onwards_queueDirty (a : Nat) : (s.onwards a).queueDirty = s.queueDirty := rfl
@[simp] theorem State.onwards_platform (a : Nat) : (s.onwards a).platform = s.platform := rfl
@[simp] theorem State.onwards_inputs (a : Nat) : (s.onwards a).inputs = s.inputs := rfl
@[simp] theorem State.onwards_answers (a : Nat) : (s.onwards a).answers = s.answers := rfl
@[simp] theorem State.onwards_events (a : Nat) : (s.onwards a).events = s.events := rfl
@[simp] theorem State.onwards_draws (a : Nat) : (s.onwards a).draws = s.draws := rfl

/-! ### State.jumped -/

@[simp] theorem State.jumped_regs (a : Nat) : (s.jumped a).regs = s.regs := rfl
@[simp] theorem State.jumped_sb (a : Nat) : (s.jumped a).sb = s.sb := rfl
@[simp] theorem State.jumped_sp0 (a : Nat) : (s.jumped a).sp0 = s.sp0 := rfl
@[simp] theorem State.jumped_sp1 (a : Nat) : (s.jumped a).sp1 = s.sp1 := rfl
@[simp] theorem State.jumped_fp (a : Nat) : (s.jumped a).fp = s.fp := rfl
@[simp] theorem State.jumped_intbase (a : Nat) : (s.jumped a).intbase = s.intbase := rfl
@[simp] theorem State.jumped_mod (a : Nat) : (s.jumped a).mod = s.mod := rfl
@[simp] theorem State.jumped_psr (a : Nat) : (s.jumped a).psr = s.psr := rfl
@[simp] theorem State.jumped_cfg (a : Nat) : (s.jumped a).cfg = s.cfg := rfl
@[simp] theorem State.jumped_fregs (a : Nat) : (s.jumped a).fregs = s.fregs := rfl
@[simp] theorem State.jumped_fsr (a : Nat) : (s.jumped a).fsr = s.fsr := rfl
@[simp] theorem State.jumped_mmu (a : Nat) : (s.jumped a).mmu = s.mmu := rfl
@[simp] theorem State.jumped_buffer (a : Nat) : (s.jumped a).buffer = s.buffer := rfl
@[simp] theorem State.jumped_mem (a : Nat) : (s.jumped a).mem = s.mem := rfl
@[simp] theorem State.jumped_nmiPending (a : Nat) : (s.jumped a).nmiPending = s.nmiPending := rfl
@[simp] theorem State.jumped_intLine (a : Nat) : (s.jumped a).intLine = s.intLine := rfl
@[simp] theorem State.jumped_platform (a : Nat) : (s.jumped a).platform = s.platform := rfl
@[simp] theorem State.jumped_inputs (a : Nat) : (s.jumped a).inputs = s.inputs := rfl
@[simp] theorem State.jumped_answers (a : Nat) : (s.jumped a).answers = s.answers := rfl
@[simp] theorem State.jumped_events (a : Nat) : (s.jumped a).events = s.events := rfl
@[simp] theorem State.jumped_draws (a : Nat) : (s.jumped a).draws = s.draws := rfl

/-! ### State.setSp -/

@[simp] theorem State.setSp_regs (a : Addr) : (s.setSp a).regs = s.regs := by
  unfold State.setSp; split <;> rfl
@[simp] theorem State.setSp_pc (a : Addr) : (s.setSp a).pc = s.pc := by
  unfold State.setSp; split <;> rfl
@[simp] theorem State.setSp_sb (a : Addr) : (s.setSp a).sb = s.sb := by
  unfold State.setSp; split <;> rfl
@[simp] theorem State.setSp_fp (a : Addr) : (s.setSp a).fp = s.fp := by
  unfold State.setSp; split <;> rfl
@[simp] theorem State.setSp_intbase (a : Addr) : (s.setSp a).intbase = s.intbase := by
  unfold State.setSp; split <;> rfl
@[simp] theorem State.setSp_mod (a : Addr) : (s.setSp a).mod = s.mod := by
  unfold State.setSp; split <;> rfl
@[simp] theorem State.setSp_psr (a : Addr) : (s.setSp a).psr = s.psr := by
  unfold State.setSp; split <;> rfl
@[simp] theorem State.setSp_cfg (a : Addr) : (s.setSp a).cfg = s.cfg := by
  unfold State.setSp; split <;> rfl
@[simp] theorem State.setSp_fregs (a : Addr) : (s.setSp a).fregs = s.fregs := by
  unfold State.setSp; split <;> rfl
@[simp] theorem State.setSp_fsr (a : Addr) : (s.setSp a).fsr = s.fsr := by
  unfold State.setSp; split <;> rfl
@[simp] theorem State.setSp_mmu (a : Addr) : (s.setSp a).mmu = s.mmu := by
  unfold State.setSp; split <;> rfl
@[simp] theorem State.setSp_buffer (a : Addr) : (s.setSp a).buffer = s.buffer := by
  unfold State.setSp; split <;> rfl
@[simp] theorem State.setSp_flow (a : Addr) : (s.setSp a).flow = s.flow := by
  unfold State.setSp; split <;> rfl
@[simp] theorem State.setSp_mem (a : Addr) : (s.setSp a).mem = s.mem := by
  unfold State.setSp; split <;> rfl
@[simp] theorem State.setSp_nmiPending (a : Addr) : (s.setSp a).nmiPending = s.nmiPending := by
  unfold State.setSp; split <;> rfl
@[simp] theorem State.setSp_intLine (a : Addr) : (s.setSp a).intLine = s.intLine := by
  unfold State.setSp; split <;> rfl
@[simp] theorem State.setSp_activity (a : Addr) : (s.setSp a).activity = s.activity := by
  unfold State.setSp; split <;> rfl
@[simp] theorem State.setSp_queueDirty (a : Addr) : (s.setSp a).queueDirty = s.queueDirty := by
  unfold State.setSp; split <;> rfl
@[simp] theorem State.setSp_platform (a : Addr) : (s.setSp a).platform = s.platform := by
  unfold State.setSp; split <;> rfl
@[simp] theorem State.setSp_inputs (a : Addr) : (s.setSp a).inputs = s.inputs := by
  unfold State.setSp; split <;> rfl
@[simp] theorem State.setSp_answers (a : Addr) : (s.setSp a).answers = s.answers := by
  unfold State.setSp; split <;> rfl
@[simp] theorem State.setSp_events (a : Addr) : (s.setSp a).events = s.events := by
  unfold State.setSp; split <;> rfl
@[simp] theorem State.setSp_draws (a : Addr) : (s.setSp a).draws = s.draws := by
  unfold State.setSp; split <;> rfl

/-! ### The fields an update changes -/

@[simp] theorem State.setFlag_psr (k : Nat) (b : Bool) : (s.setFlag k b).psr = putBit s.psr k b := rfl
@[simp] theorem State.setPsr_psr (w : Word) : (s.setPsr w).psr = psrKeep w := rfl
@[simp] theorem State.setZNL_psr (z n l : Bool) : (s.setZNL z n l).psr = putZNL s.psr z n l := rfl
@[simp] theorem State.setCF_psr (c f : Bool) : (s.setCF c f).psr = putBit (putBit s.psr bitC c) bitF f := rfl
@[simp] theorem State.storeByte_mem (a : Nat) (v : Byte) : (s.storeByte a v).mem = Memory.write s.mem a v := rfl
@[simp] theorem State.setFsrBit_fsr (k : Nat) : (s.setFsrBit k).fsr = putBit s.fsr k true := rfl
@[simp] theorem State.onwards_activity (a : Nat) : (s.onwards a).activity = .running := rfl
@[simp] theorem State.jumped_activity (a : Nat) : (s.jumped a).activity = .running := rfl
@[simp] theorem State.onwards_flow (a : Nat) : (s.onwards a).flow = .sequential := rfl
@[simp] theorem State.jumped_flow (a : Nat) : (s.jumped a).flow = .nonSequential := rfl
@[simp] theorem State.onwards_pc (a : Nat) : (s.onwards a).pc = BitVec.ofNat 24 a := rfl
@[simp] theorem State.jumped_pc (a : Nat) : (s.jumped a).pc = BitVec.ofNat 24 a := rfl
@[simp] theorem State.jumped_queueDirty (a : Nat) : (s.jumped a).queueDirty = [] := rfl

/-! ### Registers -/

/-- A general register read after one is written. -/
theorem State.reg_setReg (r q : Reg) (v : DWord) : (s.setReg r v).reg q = if r = q then v else s.reg q := by
  simp only [State.reg, State.setReg, Vector.get_eq_getElem, Vector.getElem_set, Fin.ext_iff]

@[simp] theorem State.reg_setReg_self (r : Reg) (v : DWord) : (s.setReg r v).reg r = v := by simp [State.reg_setReg]

theorem State.reg_setReg_ne (r q : Reg) (v : DWord) (h : r ≠ q) : (s.setReg r v).reg q = s.reg q := by
  simp [State.reg_setReg, h]

/-- A floating-point register read after one is written. -/
theorem State.freg_setFreg (r q : Reg) (v : DWord) : (s.setFreg r v).freg q = if r = q then v else s.freg q := by
  simp only [State.freg, State.setFreg, Vector.get_eq_getElem, Vector.getElem_set, Fin.ext_iff]

@[simp] theorem State.freg_setFreg_self (r : Reg) (v : DWord) : (s.setFreg r v).freg r = v := by
  simp [State.freg_setFreg]

@[simp] theorem State.freg_setReg (r q : Reg) (v : DWord) : (s.setReg r v).freg q = s.freg q := rfl
@[simp] theorem State.reg_setFreg (r q : Reg) (v : DWord) : (s.setFreg r v).reg q = s.reg q := rfl
@[simp] theorem State.reg_setSp (a : Addr) (q : Reg) : (s.setSp a).reg q = s.reg q := by simp [State.reg]
@[simp] theorem State.freg_setSp (a : Addr) (q : Reg) : (s.setSp a).freg q = s.freg q := by simp [State.freg]
@[simp] theorem State.flag_setSp (a : Addr) (k : Nat) : (s.setSp a).flag k = s.flag k := by simp [State.flag]
@[simp] theorem State.flag_setReg (r : Reg) (v : DWord) (k : Nat) : (s.setReg r v).flag k = s.flag k := rfl
@[simp] theorem State.flag_setFreg (r : Reg) (v : DWord) (k : Nat) : (s.setFreg r v).flag k = s.flag k := rfl

/-- The selected stack pointer read after it is written (R30). -/
@[simp] theorem State.sp_setSp (a : Addr) : (s.setSp a).sp = a := by
  unfold State.sp State.setSp State.flag; split <;> simp_all

/-! ### Bits -/

/-- A bit of a word in which one bit was put. -/
theorem putBit_getLsbD (w : Word) (k j : Nat) (b : Bool) (hk : k < 16) :
    (putBit w k b).getLsbD j = if j = k then b else w.getLsbD j := by
  by_cases hj : j < 16
  · have e : (1#16 <<< k).getLsbD j = decide (j = k) := by
      simp only [BitVec.getLsbD_shiftLeft, BitVec.getLsbD_one]
      by_cases h : j = k
      · subst h; simp [hj]
      · by_cases h2 : j < k
        · simp [h, h2]
        · simp [hj, h]; omega
    cases b
    · simp only [putBit, Bool.false_eq_true, ite_false, BitVec.getLsbD_and, BitVec.getLsbD_not, hj, e]
      by_cases h : j = k <;> simp [h]
    · simp only [putBit, ite_true, BitVec.getLsbD_or, e]
      by_cases h : j = k <;> simp [h]
  · have : ¬ j = k := by omega
    rw [BitVec.getLsbD_of_ge _ _ (by omega), BitVec.getLsbD_of_ge _ _ (by omega)]
    simp [this]

/-- A flag read after one is set. -/
theorem State.flag_setFlag (k j : Nat) (b : Bool) (hk : k < 16) :
    (s.setFlag k b).flag j = if j = k then b else s.flag j := by
  simp [State.flag, putBit_getLsbD, hk]

end Sys2Proof.Machine
end

