-- ==== Sys2Proof/Laws/Actions.lean ====
section
/-! SUPPORT. What an action built from others gives and when it is abandoned, and what an instruction is from what its
body does: the lemmas that take a meaning apart without unfolding it. -/

namespace Sys2Proof.Machine

variable {α β : Type}

/-! ### What an action gives -/

theorem gives_pure (a : α) (s : State) (v : α) (t : State) : Gives (pure a : Act α) s v t ↔ v = a ∧ t = s := by
  show (EStateM.Result.ok a s = EStateM.Result.ok v t) ↔ _
  constructor
  · intro h; cases h; exact ⟨rfl, rfl⟩
  · rintro ⟨rfl, rfl⟩; rfl

theorem gives_bind (m : Act α) (f : α → Act β) (s : State) (v : β) (t : State) :
    Gives (m >>= f) s v t ↔ ∃ a u, Gives m s a u ∧ Gives (f a) u v t := by
  show (EStateM.bind m f s = EStateM.Result.ok v t) ↔ _
  unfold EStateM.bind Gives EStateM.run
  constructor
  · intro h
    split at h
    · rename_i a u e
      exact ⟨a, u, e, h⟩
    · cases h
  · rintro ⟨a, u, h1, h2⟩
    rw [h1]
    exact h2

theorem gives_get (s v t : State) : Gives (get : Act State) s v t ↔ v = s ∧ t = s := gives_pure s s v t

theorem gives_modify (f : State → State) (s : State) (v : PUnit) (t : State) :
    Gives (modify f : Act PUnit) s v t ↔ t = f s := by
  show (EStateM.Result.ok PUnit.unit (f s) = EStateM.Result.ok v t) ↔ _
  constructor
  · intro h; cases h; rfl
  · rintro rfl; rfl

theorem gives_set (u s : State) (v : PUnit) (t : State) : Gives (set u : Act PUnit) s v t ↔ t = u :=
  gives_modify (fun _ => u) s v t

theorem gives_throw (e : Stop) (s : State) (v : α) (t : State) : Gives (throw e : Act α) s v t ↔ False := by
  refine iff_of_false (fun h => ?_) id
  have h : (EStateM.Result.error e s : EStateM.Result Stop State α) = .ok v t := h
  cases h

theorem gives_raise (e : Trap) (s : State) (v : α) (t : State) : Gives (raise e : Act α) s v t ↔ False :=
  gives_throw _ _ _ _

theorem gives_stop (e : Fault) (s : State) (v : α) (t : State) : Gives (stop e : Act α) s v t ↔ False :=
  gives_throw _ _ _ _

theorem gives_refuse (e : Refusal) (s : State) (v : α) (t : State) : Gives (refuse e : Act α) s v t ↔ False :=
  gives_throw _ _ _ _

theorem gives_ensure (b : Bool) (f : Fault) (s : State) (v : PUnit) (t : State) :
    Gives (ensure b f) s v t ↔ b = true ∧ t = s := by
  unfold ensure
  cases b
  · simp [gives_stop]
  · simp [gives_pure]

theorem gives_ite (c : Prop) [Decidable c] (m n : Act α) (s : State) (v : α) (t : State) :
    Gives (if c then m else n) s v t ↔ (c ∧ Gives m s v t) ∨ (¬ c ∧ Gives n s v t) := by
  split <;> simp_all

/-- A free value (R10): what the model's source of free values has next. -/
theorem gives_draw (s : State) (v : QWord) (t : State) :
    Gives draw s v t ↔ v = Config.freeValue s.draws ∧ t = { s with draws := s.draws + 1 } := by
  show (EStateM.Result.ok _ _ = EStateM.Result.ok v t) ↔ _
  constructor
  · intro h; cases h; exact ⟨rfl, rfl⟩
  · rintro ⟨rfl, rfl⟩; rfl

/-- A monadic map. -/
theorem gives_map (f : α → β) (m : Act α) (s : State) (v : β) (t : State) :
    Gives (f <$> m) s v t ↔ ∃ a, Gives m s a t ∧ v = f a := by
  show Gives (m >>= fun a => pure (f a)) s v t ↔ _
  simp only [gives_bind, gives_pure]
  constructor
  · rintro ⟨a, u, h, rfl, rfl⟩; exact ⟨a, h, rfl⟩
  · rintro ⟨a, h, rfl⟩; exact ⟨a, t, h, rfl, rfl⟩

/-- An action gives at most one result. -/
theorem Gives.unique {m : Act α} {s : State} {v w : α} {t u : State} (h : Gives m s v t) (k : Gives m s w u) :
    v = w ∧ t = u := by
  have e : (EStateM.Result.ok v t : EStateM.Result Stop State α) = .ok w u := h.symm.trans k
  cases e
  exact ⟨rfl, rfl⟩

/-! ### When an action is abandoned -/

theorem abandons_pure (a : α) (s : State) (x : Stop) (t : State) : Abandons (pure a : Act α) s x t ↔ False := by
  refine iff_of_false (fun h => ?_) id
  have h : (EStateM.Result.ok a s : EStateM.Result Stop State α) = .error x t := h
  cases h

theorem abandons_bind (m : Act α) (f : α → Act β) (s : State) (x : Stop) (t : State) :
    Abandons (m >>= f) s x t ↔ Abandons m s x t ∨ ∃ a u, Gives m s a u ∧ Abandons (f a) u x t := by
  show (EStateM.bind m f s = EStateM.Result.error x t) ↔ _
  unfold EStateM.bind Gives Abandons EStateM.run
  constructor
  · intro h
    split at h
    · rename_i a u e
      exact .inr ⟨a, u, e, h⟩
    · rename_i e u r
      cases h
      exact .inl r
  · rintro (h | ⟨a, u, h1, h2⟩)
    · rw [h]
    · rw [h1]
      exact h2

theorem abandons_throw (e : Stop) (s : State) (x : Stop) (t : State) :
    Abandons (throw e : Act α) s x t ↔ x = e ∧ t = s := by
  show (EStateM.Result.error e s = EStateM.Result.error x t) ↔ _
  constructor
  · intro h; cases h; exact ⟨rfl, rfl⟩
  · rintro ⟨rfl, rfl⟩; rfl

theorem abandons_raise (e : Trap) (s : State) (x : Stop) (t : State) :
    Abandons (raise e : Act α) s x t ↔ x = .trap e ∧ t = s := abandons_throw _ _ _ _

theorem abandons_stop (e : Fault) (s : State) (x : Stop) (t : State) :
    Abandons (stop e : Act α) s x t ↔ x = .fault e ∧ t = s := abandons_throw _ _ _ _

theorem abandons_refuse (e : Refusal) (s : State) (x : Stop) (t : State) :
    Abandons (refuse e : Act α) s x t ↔ x = .refused e ∧ t = s := abandons_throw _ _ _ _

theorem abandons_get (s : State) (x : Stop) (t : State) : Abandons (get : Act State) s x t ↔ False :=
  abandons_pure s s x t

theorem abandons_modify (f : State → State) (s : State) (x : Stop) (t : State) :
    Abandons (modify f : Act PUnit) s x t ↔ False := by
  refine iff_of_false (fun h => ?_) id
  have h : (EStateM.Result.ok PUnit.unit (f s) : EStateM.Result Stop State PUnit) = .error x t := h
  cases h

theorem abandons_ensure (b : Bool) (f : Fault) (s : State) (x : Stop) (t : State) :
    Abandons (ensure b f) s x t ↔ b = false ∧ x = .fault f ∧ t = s := by
  unfold ensure
  cases b
  · simp [abandons_stop]
  · simp [abandons_pure]

theorem abandons_ite (c : Prop) [Decidable c] (m n : Act α) (s : State) (x : Stop) (t : State) :
    Abandons (if c then m else n) s x t ↔ (c ∧ Abandons m s x t) ∨ (¬ c ∧ Abandons n s x t) := by
  split <;> simp_all

/-! ### An instruction from its body -/

theorem perform_of_gives {len : Nat} {body : Act Next} {s t : State} {n : Next} (h : Gives body s n t) :
    perform len body s = finish len n t := by
  unfold perform
  rw [show body.run s = _ from h]

theorem perform_of_abandons {len : Nat} {body : Act Next} {s t : State} {x : Stop} (h : Abandons body s x t) :
    perform len body s = abandon s x t := by
  unfold perform
  rw [show body.run s = _ from h]

/-- An instruction's outcome is the end of a body that gives a way to go on, or what becomes of one that is abandoned. -/
theorem perform_cases (len : Nat) (body : Act Next) (s : State) :
    (∃ n t, Gives body s n t ∧ perform len body s = finish len n t) ∨
      ∃ x t, Abandons body s x t ∧ perform len body s = abandon s x t := by
  cases h : body.run s with
  | ok n t => exact .inl ⟨n, t, h, perform_of_gives h⟩
  | error x t => exact .inr ⟨x, t, h, perform_of_abandons h⟩

/-- The end of an instruction that goes on in sequence. -/
theorem finish_seq {s : State} {len : Nat} (h : s.pc.toNat + len < 2 ^ 24) :
    finish len .seq s = .next (s.onwards (s.pc.toNat + len)) := by
  have e : inSpace ((s.pc.toNat : Int) + (len : Int)) 1 = true := by
    unfold inSpace
    simp only [Bool.and_eq_true, decide_eq_true_eq]
    omega
  have c : BitVec.ofInt 24 ((s.pc.toNat : Int) + (len : Int)) = BitVec.ofNat 24 (s.pc.toNat + len) := by
    rw [← Nat.cast_add, BitVec.ofInt_natCast]
  simp only [finish, continueAt, e, c, if_true, State.onwards]
  rfl

/-- The end of an instruction that transfers control. -/
theorem finish_jump {s : State} {len a : Nat} (h : a < 2 ^ 24) : finish len (.jump a) s = .next (s.jumped a) := by
  have e : inSpace (a : Int) 1 = true := by
    unfold inSpace
    simp only [Bool.and_eq_true, decide_eq_true_eq]
    omega
  simp only [finish, continueAt, e, BitVec.ofInt_natCast, if_true, State.jumped]

end Sys2Proof.Machine
end

