-- ==== Sys2Proof/Laws/Exec.lean ====
section
/-! SUPPORT. The length of each instruction (R27, R189), and each instruction as its body performed with that length. -/

namespace Sys2Proof.Machine

variable {i : Instr}

/-- An instruction without extensions. -/
theorem length_fixed {b : List Byte} (hb : i.basic = b) (ho : i.operands = []) (hm : i.immByte = none)
    (hd : i.disp = none) : i.length = b.length := by
  simp [Instr.length, encode, hb, ho, hm, hd]

/-- An instruction with a displacement only. -/
theorem length_disp {b : List Byte} {d : Disp} (hb : i.basic = b) (ho : i.operands = []) (hm : i.immByte = none)
    (hd : i.disp = some d) : i.length = b.length + d.size := by
  simp [Instr.length, encode, hb, ho, hm, hd, Disp.size]

/-- An instruction with an immediate byte only. -/
theorem length_imm {b : List Byte} {x : Byte} (hb : i.basic = b) (ho : i.operands = []) (hm : i.immByte = some x)
    (hd : i.disp = none) : i.length = b.length + 1 := by
  simp [Instr.length, encode, hb, ho, hm, hd]

/-- An instruction with a displacement and an immediate byte. -/
theorem length_disp_imm {b : List Byte} {x : Byte} {d : Disp} (hb : i.basic = b) (ho : i.operands = [])
    (hm : i.immByte = some x) (hd : i.disp = some d) : i.length = b.length + d.size + 1 := by
  simp [Instr.length, encode, hb, ho, hm, hd, Disp.size, Nat.add_assoc]

/-- An instruction with one general operand. -/
theorem length_one {b : List Byte} {o : Operand} (hb : i.basic = b) (ho : i.operands = [o]) (hm : i.immByte = none)
    (hd : i.disp = none) : i.length = size1 b.length o.bytes o.gen := by
  simp [Instr.length, encode, hb, ho, hm, hd, size1, Gen.size]

/-- An instruction with one general operand and a displacement. -/
theorem length_one_disp {b : List Byte} {o : Operand} {d : Disp} (hb : i.basic = b) (ho : i.operands = [o])
    (hm : i.immByte = none) (hd : i.disp = some d) : i.length = size1 b.length o.bytes o.gen + d.size := by
  simp [Instr.length, encode, hb, ho, hm, hd, size1, Gen.size, Disp.size]
  omega

/-- An instruction with two general operands. -/
theorem length_two {b : List Byte} {o p : Operand} (hb : i.basic = b) (ho : i.operands = [o, p])
    (hm : i.immByte = none) (hd : i.disp = none) : i.length = size2 b.length o.bytes p.bytes o.gen p.gen := by
  simp [Instr.length, encode, hb, ho, hm, hd, size2, Gen.size]
  omega

/-- An instruction with two general operands and a displacement. -/
theorem length_two_disp {b : List Byte} {o p : Operand} {d : Disp} (hb : i.basic = b) (ho : i.operands = [o, p])
    (hm : i.immByte = none) (hd : i.disp = some d) :
    i.length = size2 b.length o.bytes p.bytes o.gen p.gen + d.size := by
  simp [Instr.length, encode, hb, ho, hm, hd, size2, Gen.size, Disp.size]
  omega

/-- An instruction with two general operands and an immediate byte. -/
theorem length_two_imm {b : List Byte} {o p : Operand} {x : Byte} (hb : i.basic = b) (ho : i.operands = [o, p])
    (hm : i.immByte = some x) (hd : i.disp = none) :
    i.length = size2 b.length o.bytes p.bytes o.gen p.gen + 1 := by
  simp [Instr.length, encode, hb, ho, hm, hd, size2, Gen.size]
  omega

/-- A meaning that performs a body with the instruction's own length. -/
theorem performs {n : Nat} {body : Nat → Act Next} {s : State} {r : Result} (h : i.length = n)
    (e : r = perform n (body n) s) : r = perform i.length (body i.length) s := by rw [h]; exact e

/-! ### Each instruction -/

theorem exec_beq (dest : Disp) (s : State) :
    exec (Instr.beq dest) s = perform (Instr.beq dest).length (branchBody 0x0 dest) s :=
  performs (body := fun _ => branchBody 0x0 dest) (length_disp rfl rfl rfl rfl) rfl

theorem exec_bne (dest : Disp) (s : State) :
    exec (Instr.bne dest) s = perform (Instr.bne dest).length (branchBody 0x1 dest) s :=
  performs (body := fun _ => branchBody 0x1 dest) (length_disp rfl rfl rfl rfl) rfl

theorem exec_bcs (dest : Disp) (s : State) :
    exec (Instr.bcs dest) s = perform (Instr.bcs dest).length (branchBody 0x2 dest) s :=
  performs (body := fun _ => branchBody 0x2 dest) (length_disp rfl rfl rfl rfl) rfl

theorem exec_bcc (dest : Disp) (s : State) :
    exec (Instr.bcc dest) s = perform (Instr.bcc dest).length (branchBody 0x3 dest) s :=
  performs (body := fun _ => branchBody 0x3 dest) (length_disp rfl rfl rfl rfl) rfl

theorem exec_bhi (dest : Disp) (s : State) :
    exec (Instr.bhi dest) s = perform (Instr.bhi dest).length (branchBody 0x4 dest) s :=
  performs (body := fun _ => branchBody 0x4 dest) (length_disp rfl rfl rfl rfl) rfl

theorem exec_bls (dest : Disp) (s : State) :
    exec (Instr.bls dest) s = perform (Instr.bls dest).length (branchBody 0x5 dest) s :=
  performs (body := fun _ => branchBody 0x5 dest) (length_disp rfl rfl rfl rfl) rfl

theorem exec_bgt (dest : Disp) (s : State) :
    exec (Instr.bgt dest) s = perform (Instr.bgt dest).length (branchBody 0x6 dest) s :=
  performs (body := fun _ => branchBody 0x6 dest) (length_disp rfl rfl rfl rfl) rfl

theorem exec_ble (dest : Disp) (s : State) :
    exec (Instr.ble dest) s = perform (Instr.ble dest).length (branchBody 0x7 dest) s :=
  performs (body := fun _ => branchBody 0x7 dest) (length_disp rfl rfl rfl rfl) rfl

theorem exec_bfs (dest : Disp) (s : State) :
    exec (Instr.bfs dest) s = perform (Instr.bfs dest).length (branchBody 0x8 dest) s :=
  performs (body := fun _ => branchBody 0x8 dest) (length_disp rfl rfl rfl rfl) rfl

theorem exec_bfc (dest : Disp) (s : State) :
    exec (Instr.bfc dest) s = perform (Instr.bfc dest).length (branchBody 0x9 dest) s :=
  performs (body := fun _ => branchBody 0x9 dest) (length_disp rfl rfl rfl rfl) rfl

theorem exec_blo (dest : Disp) (s : State) :
    exec (Instr.blo dest) s = perform (Instr.blo dest).length (branchBody 0xA dest) s :=
  performs (body := fun _ => branchBody 0xA dest) (length_disp rfl rfl rfl rfl) rfl

theorem exec_bhs (dest : Disp) (s : State) :
    exec (Instr.bhs dest) s = perform (Instr.bhs dest).length (branchBody 0xB dest) s :=
  performs (body := fun _ => branchBody 0xB dest) (length_disp rfl rfl rfl rfl) rfl

theorem exec_blt (dest : Disp) (s : State) :
    exec (Instr.blt dest) s = perform (Instr.blt dest).length (branchBody 0xC dest) s :=
  performs (body := fun _ => branchBody 0xC dest) (length_disp rfl rfl rfl rfl) rfl

theorem exec_bge (dest : Disp) (s : State) :
    exec (Instr.bge dest) s = perform (Instr.bge dest).length (branchBody 0xD dest) s :=
  performs (body := fun _ => branchBody 0xD dest) (length_disp rfl rfl rfl rfl) rfl

theorem exec_br (dest : Disp) (s : State) :
    exec (Instr.br dest) s = perform (Instr.br dest).length (branchBody 0xE dest) s :=
  performs (body := fun _ => branchBody 0xE dest) (length_disp rfl rfl rfl rfl) rfl

theorem exec_bcond1111 (dest : Disp) (s : State) :
    exec (Instr.bcond1111 dest) s = perform (Instr.bcond1111 dest).length (branchBody 0xF dest) s :=
  performs (body := fun _ => branchBody 0xF dest) (length_disp rfl rfl rfl rfl) rfl

theorem exec_bsr (dest : Disp) (s : State) :
    exec (Instr.bsr dest) s = perform (Instr.bsr dest).length (bsrBody (Instr.bsr dest).length dest) s :=
  performs (body := fun n => bsrBody n dest) (length_disp rfl rfl rfl rfl) rfl

theorem exec_ret (constant : Disp) (s : State) :
    exec (Instr.ret constant) s = perform (Instr.ret constant).length (retBody constant) s :=
  performs (body := fun _ => retBody constant) (length_disp rfl rfl rfl rfl) rfl

theorem exec_cxp (index : Disp) (s : State) :
    exec (Instr.cxp index) s = perform (Instr.cxp index).length (cxpBody (Instr.cxp index).length index) s :=
  performs (body := fun n => cxpBody n index) (length_disp rfl rfl rfl rfl) rfl

theorem exec_rxp (constant : Disp) (s : State) :
    exec (Instr.rxp constant) s = perform (Instr.rxp constant).length (rxpBody constant) s :=
  performs (body := fun _ => rxpBody constant) (length_disp rfl rfl rfl rfl) rfl

theorem exec_rett (constant : Disp) (s : State) :
    exec (Instr.rett constant) s = perform (Instr.rett constant).length (rettBody constant) s :=
  performs (body := fun _ => rettBody constant) (length_disp rfl rfl rfl rfl) rfl

theorem exec_reti (s : State) :
    exec Instr.reti s = perform Instr.reti.length retiBody s :=
  performs (body := fun _ => retiBody) (length_fixed rfl rfl rfl rfl) rfl

theorem exec_save (reglist : Byte) (s : State) :
    exec (Instr.save reglist) s = perform (Instr.save reglist).length (saveBody reglist) s :=
  performs (body := fun _ => saveBody reglist) (length_imm rfl rfl rfl rfl) rfl

theorem exec_restore (reglist : Byte) (s : State) :
    exec (Instr.restore reglist) s = perform (Instr.restore reglist).length (restoreBody reglist) s :=
  performs (body := fun _ => restoreBody reglist) (length_imm rfl rfl rfl rfl) rfl

theorem exec_enter (reglist : Byte) (constant : Disp) (s : State) :
    exec (Instr.enter reglist constant) s = perform (Instr.enter reglist constant).length (enterBody reglist constant) s :=
  performs (body := fun _ => enterBody reglist constant) (length_disp_imm rfl rfl rfl rfl) rfl

theorem exec_exit (reglist : Byte) (s : State) :
    exec (Instr.exit reglist) s = perform (Instr.exit reglist).length (exitBody reglist) s :=
  performs (body := fun _ => exitBody reglist) (length_imm rfl rfl rfl rfl) rfl

theorem exec_nop (s : State) :
    exec Instr.nop s = perform Instr.nop.length (return .seq) s :=
  performs (body := fun _ => return .seq) (length_fixed rfl rfl rfl rfl) rfl

theorem exec_wait (s : State) :
    exec Instr.wait s = perform Instr.wait.length (return .suspend) s :=
  performs (body := fun _ => return .suspend) (length_fixed rfl rfl rfl rfl) rfl

theorem exec_dia (s : State) :
    exec Instr.dia s = perform Instr.dia.length (return .diagnose) s :=
  performs (body := fun _ => return .diagnose) (length_fixed rfl rfl rfl rfl) rfl

theorem exec_flag (s : State) :
    exec Instr.flag s = perform Instr.flag.length flagBody s :=
  performs (body := fun _ => flagBody) (length_fixed rfl rfl rfl rfl) rfl

theorem exec_svc (s : State) :
    exec Instr.svc s = perform Instr.svc.length (raise .svc) s :=
  performs (body := fun _ => raise .svc) (length_fixed rfl rfl rfl rfl) rfl

theorem exec_bpt (s : State) :
    exec Instr.bpt s = perform Instr.bpt.length (raise .bpt) s :=
  performs (body := fun _ => raise .bpt) (length_fixed rfl rfl rfl rfl) rfl

theorem exec_addqb (quick : BitVec 4) (gen : Gen) (s : State) :
    exec (Instr.addqb quick gen) s = perform (Instr.addqb quick gen).length (addTo .b false (quickValue .b quick) gen) s :=
  performs (body := fun _ => addTo .b false (quickValue .b quick) gen) (length_one rfl rfl rfl rfl) rfl

theorem exec_addqw (quick : BitVec 4) (gen : Gen) (s : State) :
    exec (Instr.addqw quick gen) s = perform (Instr.addqw quick gen).length (addTo .w false (quickValue .w quick) gen) s :=
  performs (body := fun _ => addTo .w false (quickValue .w quick) gen) (length_one rfl rfl rfl rfl) rfl

theorem exec_addqd (quick : BitVec 4) (gen : Gen) (s : State) :
    exec (Instr.addqd quick gen) s = perform (Instr.addqd quick gen).length (addTo .d false (quickValue .d quick) gen) s :=
  performs (body := fun _ => addTo .d false (quickValue .d quick) gen) (length_one rfl rfl rfl rfl) rfl

theorem exec_cmpqb (quick : BitVec 4) (gen : Gen) (s : State) :
    exec (Instr.cmpqb quick gen) s = perform (Instr.cmpqb quick gen).length (cmpqBody .b (quickValue .b quick) gen) s :=
  performs (body := fun _ => cmpqBody .b (quickValue .b quick) gen) (length_one rfl rfl rfl rfl) rfl

theorem exec_cmpqw (quick : BitVec 4) (gen : Gen) (s : State) :
    exec (Instr.cmpqw quick gen) s = perform (Instr.cmpqw quick gen).length (cmpqBody .w (quickValue .w quick) gen) s :=
  performs (body := fun _ => cmpqBody .w (quickValue .w quick) gen) (length_one rfl rfl rfl rfl) rfl

theorem exec_cmpqd (quick : BitVec 4) (gen : Gen) (s : State) :
    exec (Instr.cmpqd quick gen) s = perform (Instr.cmpqd quick gen).length (cmpqBody .d (quickValue .d quick) gen) s :=
  performs (body := fun _ => cmpqBody .d (quickValue .d quick) gen) (length_one rfl rfl rfl rfl) rfl

theorem exec_movqb (quick : BitVec 4) (gen : Gen) (s : State) :
    exec (Instr.movqb quick gen) s = perform (Instr.movqb quick gen).length (storeBody .b (quickValue .b quick) gen) s :=
  performs (body := fun _ => storeBody .b (quickValue .b quick) gen) (length_one rfl rfl rfl rfl) rfl

theorem exec_movqw (quick : BitVec 4) (gen : Gen) (s : State) :
    exec (Instr.movqw quick gen) s = perform (Instr.movqw quick gen).length (storeBody .w (quickValue .w quick) gen) s :=
  performs (body := fun _ => storeBody .w (quickValue .w quick) gen) (length_one rfl rfl rfl rfl) rfl

theorem exec_movqd (quick : BitVec 4) (gen : Gen) (s : State) :
    exec (Instr.movqd quick gen) s = perform (Instr.movqd quick gen).length (storeBody .d (quickValue .d quick) gen) s :=
  performs (body := fun _ => storeBody .d (quickValue .d quick) gen) (length_one rfl rfl rfl rfl) rfl

theorem exec_acbb (quick : BitVec 4) (gen : Gen) (dest : Disp) (s : State) :
    exec (Instr.acbb quick gen dest) s = perform (Instr.acbb quick gen dest).length (acbBody .b quick gen dest) s :=
  performs (body := fun _ => acbBody .b quick gen dest) (length_one_disp rfl rfl rfl rfl) rfl

theorem exec_acbw (quick : BitVec 4) (gen : Gen) (dest : Disp) (s : State) :
    exec (Instr.acbw quick gen dest) s = perform (Instr.acbw quick gen dest).length (acbBody .w quick gen dest) s :=
  performs (body := fun _ => acbBody .w quick gen dest) (length_one_disp rfl rfl rfl rfl) rfl

theorem exec_acbd (quick : BitVec 4) (gen : Gen) (dest : Disp) (s : State) :
    exec (Instr.acbd quick gen dest) s = perform (Instr.acbd quick gen dest).length (acbBody .d quick gen dest) s :=
  performs (body := fun _ => acbBody .d quick gen dest) (length_one_disp rfl rfl rfl rfl) rfl

theorem exec_sprb (procreg : BitVec 4) (gen : Gen) (s : State) :
    exec (Instr.sprb procreg gen) s = perform (Instr.sprb procreg gen).length (sprBody .b procreg gen) s :=
  performs (body := fun _ => sprBody .b procreg gen) (length_one rfl rfl rfl rfl) rfl

theorem exec_sprw (procreg : BitVec 4) (gen : Gen) (s : State) :
    exec (Instr.sprw procreg gen) s = perform (Instr.sprw procreg gen).length (sprBody .w procreg gen) s :=
  performs (body := fun _ => sprBody .w procreg gen) (length_one rfl rfl rfl rfl) rfl

theorem exec_sprd (procreg : BitVec 4) (gen : Gen) (s : State) :
    exec (Instr.sprd procreg gen) s = perform (Instr.sprd procreg gen).length (sprBody .d procreg gen) s :=
  performs (body := fun _ => sprBody .d procreg gen) (length_one rfl rfl rfl rfl) rfl

theorem exec_lprb (procreg : BitVec 4) (gen : Gen) (s : State) :
    exec (Instr.lprb procreg gen) s = perform (Instr.lprb procreg gen).length (lprBody .b procreg gen) s :=
  performs (body := fun _ => lprBody .b procreg gen) (length_one rfl rfl rfl rfl) rfl

theorem exec_lprw (procreg : BitVec 4) (gen : Gen) (s : State) :
    exec (Instr.lprw procreg gen) s = perform (Instr.lprw procreg gen).length (lprBody .w procreg gen) s :=
  performs (body := fun _ => lprBody .w procreg gen) (length_one rfl rfl rfl rfl) rfl

theorem exec_lprd (procreg : BitVec 4) (gen : Gen) (s : State) :
    exec (Instr.lprd procreg gen) s = perform (Instr.lprd procreg gen).length (lprBody .d procreg gen) s :=
  performs (body := fun _ => lprBody .d procreg gen) (length_one rfl rfl rfl rfl) rfl

theorem exec_seqb (dest : Gen) (s : State) :
    exec (Instr.seqb dest) s = perform (Instr.seqb dest).length (scondBody .b 0x0 dest) s :=
  performs (body := fun _ => scondBody .b 0x0 dest) (length_one rfl rfl rfl rfl) rfl

theorem exec_sneb (dest : Gen) (s : State) :
    exec (Instr.sneb dest) s = perform (Instr.sneb dest).length (scondBody .b 0x1 dest) s :=
  performs (body := fun _ => scondBody .b 0x1 dest) (length_one rfl rfl rfl rfl) rfl

theorem exec_scsb (dest : Gen) (s : State) :
    exec (Instr.scsb dest) s = perform (Instr.scsb dest).length (scondBody .b 0x2 dest) s :=
  performs (body := fun _ => scondBody .b 0x2 dest) (length_one rfl rfl rfl rfl) rfl

theorem exec_sccb (dest : Gen) (s : State) :
    exec (Instr.sccb dest) s = perform (Instr.sccb dest).length (scondBody .b 0x3 dest) s :=
  performs (body := fun _ => scondBody .b 0x3 dest) (length_one rfl rfl rfl rfl) rfl

theorem exec_shib (dest : Gen) (s : State) :
    exec (Instr.shib dest) s = perform (Instr.shib dest).length (scondBody .b 0x4 dest) s :=
  performs (body := fun _ => scondBody .b 0x4 dest) (length_one rfl rfl rfl rfl) rfl

theorem exec_slsb (dest : Gen) (s : State) :
    exec (Instr.slsb dest) s = perform (Instr.slsb dest).length (scondBody .b 0x5 dest) s :=
  performs (body := fun _ => scondBody .b 0x5 dest) (length_one rfl rfl rfl rfl) rfl

theorem exec_sgtb (dest : Gen) (s : State) :
    exec (Instr.sgtb dest) s = perform (Instr.sgtb dest).length (scondBody .b 0x6 dest) s :=
  performs (body := fun _ => scondBody .b 0x6 dest) (length_one rfl rfl rfl rfl) rfl

theorem exec_sleb (dest : Gen) (s : State) :
    exec (Instr.sleb dest) s = perform (Instr.sleb dest).length (scondBody .b 0x7 dest) s :=
  performs (body := fun _ => scondBody .b 0x7 dest) (length_one rfl rfl rfl rfl) rfl

theorem exec_sfsb (dest : Gen) (s : State) :
    exec (Instr.sfsb dest) s = perform (Instr.sfsb dest).length (scondBody .b 0x8 dest) s :=
  performs (body := fun _ => scondBody .b 0x8 dest) (length_one rfl rfl rfl rfl) rfl

theorem exec_sfcb (dest : Gen) (s : State) :
    exec (Instr.sfcb dest) s = perform (Instr.sfcb dest).length (scondBody .b 0x9 dest) s :=
  performs (body := fun _ => scondBody .b 0x9 dest) (length_one rfl rfl rfl rfl) rfl

theorem exec_slob (dest : Gen) (s : State) :
    exec (Instr.slob dest) s = perform (Instr.slob dest).length (scondBody .b 0xA dest) s :=
  performs (body := fun _ => scondBody .b 0xA dest) (length_one rfl rfl rfl rfl) rfl

theorem exec_shsb (dest : Gen) (s : State) :
    exec (Instr.shsb dest) s = perform (Instr.shsb dest).length (scondBody .b 0xB dest) s :=
  performs (body := fun _ => scondBody .b 0xB dest) (length_one rfl rfl rfl rfl) rfl

theorem exec_sltb (dest : Gen) (s : State) :
    exec (Instr.sltb dest) s = perform (Instr.sltb dest).length (scondBody .b 0xC dest) s :=
  performs (body := fun _ => scondBody .b 0xC dest) (length_one rfl rfl rfl rfl) rfl

theorem exec_sgeb (dest : Gen) (s : State) :
    exec (Instr.sgeb dest) s = perform (Instr.sgeb dest).length (scondBody .b 0xD dest) s :=
  performs (body := fun _ => scondBody .b 0xD dest) (length_one rfl rfl rfl rfl) rfl

theorem exec_srb (dest : Gen) (s : State) :
    exec (Instr.srb dest) s = perform (Instr.srb dest).length (scondBody .b 0xE dest) s :=
  performs (body := fun _ => scondBody .b 0xE dest) (length_one rfl rfl rfl rfl) rfl

theorem exec_s1111b (dest : Gen) (s : State) :
    exec (Instr.s1111b dest) s = perform (Instr.s1111b dest).length (scondBody .b 0xF dest) s :=
  performs (body := fun _ => scondBody .b 0xF dest) (length_one rfl rfl rfl rfl) rfl

theorem exec_seqw (dest : Gen) (s : State) :
    exec (Instr.seqw dest) s = perform (Instr.seqw dest).length (scondBody .w 0x0 dest) s :=
  performs (body := fun _ => scondBody .w 0x0 dest) (length_one rfl rfl rfl rfl) rfl

theorem exec_snew (dest : Gen) (s : State) :
    exec (Instr.snew dest) s = perform (Instr.snew dest).length (scondBody .w 0x1 dest) s :=
  performs (body := fun _ => scondBody .w 0x1 dest) (length_one rfl rfl rfl rfl) rfl

theorem exec_scsw (dest : Gen) (s : State) :
    exec (Instr.scsw dest) s = perform (Instr.scsw dest).length (scondBody .w 0x2 dest) s :=
  performs (body := fun _ => scondBody .w 0x2 dest) (length_one rfl rfl rfl rfl) rfl

theorem exec_sccw (dest : Gen) (s : State) :
    exec (Instr.sccw dest) s = perform (Instr.sccw dest).length (scondBody .w 0x3 dest) s :=
  performs (body := fun _ => scondBody .w 0x3 dest) (length_one rfl rfl rfl rfl) rfl

theorem exec_shiw (dest : Gen) (s : State) :
    exec (Instr.shiw dest) s = perform (Instr.shiw dest).length (scondBody .w 0x4 dest) s :=
  performs (body := fun _ => scondBody .w 0x4 dest) (length_one rfl rfl rfl rfl) rfl

theorem exec_slsw (dest : Gen) (s : State) :
    exec (Instr.slsw dest) s = perform (Instr.slsw dest).length (scondBody .w 0x5 dest) s :=
  performs (body := fun _ => scondBody .w 0x5 dest) (length_one rfl rfl rfl rfl) rfl

theorem exec_sgtw (dest : Gen) (s : State) :
    exec (Instr.sgtw dest) s = perform (Instr.sgtw dest).length (scondBody .w 0x6 dest) s :=
  performs (body := fun _ => scondBody .w 0x6 dest) (length_one rfl rfl rfl rfl) rfl

theorem exec_slew (dest : Gen) (s : State) :
    exec (Instr.slew dest) s = perform (Instr.slew dest).length (scondBody .w 0x7 dest) s :=
  performs (body := fun _ => scondBody .w 0x7 dest) (length_one rfl rfl rfl rfl) rfl

theorem exec_sfsw (dest : Gen) (s : State) :
    exec (Instr.sfsw dest) s = perform (Instr.sfsw dest).length (scondBody .w 0x8 dest) s :=
  performs (body := fun _ => scondBody .w 0x8 dest) (length_one rfl rfl rfl rfl) rfl

theorem exec_sfcw (dest : Gen) (s : State) :
    exec (Instr.sfcw dest) s = perform (Instr.sfcw dest).length (scondBody .w 0x9 dest) s :=
  performs (body := fun _ => scondBody .w 0x9 dest) (length_one rfl rfl rfl rfl) rfl

theorem exec_slow (dest : Gen) (s : State) :
    exec (Instr.slow dest) s = perform (Instr.slow dest).length (scondBody .w 0xA dest) s :=
  performs (body := fun _ => scondBody .w 0xA dest) (length_one rfl rfl rfl rfl) rfl

theorem exec_shsw (dest : Gen) (s : State) :
    exec (Instr.shsw dest) s = perform (Instr.shsw dest).length (scondBody .w 0xB dest) s :=
  performs (body := fun _ => scondBody .w 0xB dest) (length_one rfl rfl rfl rfl) rfl

theorem exec_sltw (dest : Gen) (s : State) :
    exec (Instr.sltw dest) s = perform (Instr.sltw dest).length (scondBody .w 0xC dest) s :=
  performs (body := fun _ => scondBody .w 0xC dest) (length_one rfl rfl rfl rfl) rfl

theorem exec_sgew (dest : Gen) (s : State) :
    exec (Instr.sgew dest) s = perform (Instr.sgew dest).length (scondBody .w 0xD dest) s :=
  performs (body := fun _ => scondBody .w 0xD dest) (length_one rfl rfl rfl rfl) rfl

theorem exec_srw (dest : Gen) (s : State) :
    exec (Instr.srw dest) s = perform (Instr.srw dest).length (scondBody .w 0xE dest) s :=
  performs (body := fun _ => scondBody .w 0xE dest) (length_one rfl rfl rfl rfl) rfl

theorem exec_s1111w (dest : Gen) (s : State) :
    exec (Instr.s1111w dest) s = perform (Instr.s1111w dest).length (scondBody .w 0xF dest) s :=
  performs (body := fun _ => scondBody .w 0xF dest) (length_one rfl rfl rfl rfl) rfl

theorem exec_seqd (dest : Gen) (s : State) :
    exec (Instr.seqd dest) s = perform (Instr.seqd dest).length (scondBody .d 0x0 dest) s :=
  performs (body := fun _ => scondBody .d 0x0 dest) (length_one rfl rfl rfl rfl) rfl

theorem exec_sned (dest : Gen) (s : State) :
    exec (Instr.sned dest) s = perform (Instr.sned dest).length (scondBody .d 0x1 dest) s :=
  performs (body := fun _ => scondBody .d 0x1 dest) (length_one rfl rfl rfl rfl) rfl

theorem exec_scsd (dest : Gen) (s : State) :
    exec (Instr.scsd dest) s = perform (Instr.scsd dest).length (scondBody .d 0x2 dest) s :=
  performs (body := fun _ => scondBody .d 0x2 dest) (length_one rfl rfl rfl rfl) rfl

theorem exec_sccd (dest : Gen) (s : State) :
    exec (Instr.sccd dest) s = perform (Instr.sccd dest).length (scondBody .d 0x3 dest) s :=
  performs (body := fun _ => scondBody .d 0x3 dest) (length_one rfl rfl rfl rfl) rfl

theorem exec_shid (dest : Gen) (s : State) :
    exec (Instr.shid dest) s = perform (Instr.shid dest).length (scondBody .d 0x4 dest) s :=
  performs (body := fun _ => scondBody .d 0x4 dest) (length_one rfl rfl rfl rfl) rfl

theorem exec_slsd (dest : Gen) (s : State) :
    exec (Instr.slsd dest) s = perform (Instr.slsd dest).length (scondBody .d 0x5 dest) s :=
  performs (body := fun _ => scondBody .d 0x5 dest) (length_one rfl rfl rfl rfl) rfl

theorem exec_sgtd (dest : Gen) (s : State) :
    exec (Instr.sgtd dest) s = perform (Instr.sgtd dest).length (scondBody .d 0x6 dest) s :=
  performs (body := fun _ => scondBody .d 0x6 dest) (length_one rfl rfl rfl rfl) rfl

theorem exec_sled (dest : Gen) (s : State) :
    exec (Instr.sled dest) s = perform (Instr.sled dest).length (scondBody .d 0x7 dest) s :=
  performs (body := fun _ => scondBody .d 0x7 dest) (length_one rfl rfl rfl rfl) rfl

theorem exec_sfsd (dest : Gen) (s : State) :
    exec (Instr.sfsd dest) s = perform (Instr.sfsd dest).length (scondBody .d 0x8 dest) s :=
  performs (body := fun _ => scondBody .d 0x8 dest) (length_one rfl rfl rfl rfl) rfl

theorem exec_sfcd (dest : Gen) (s : State) :
    exec (Instr.sfcd dest) s = perform (Instr.sfcd dest).length (scondBody .d 0x9 dest) s :=
  performs (body := fun _ => scondBody .d 0x9 dest) (length_one rfl rfl rfl rfl) rfl

theorem exec_slod (dest : Gen) (s : State) :
    exec (Instr.slod dest) s = perform (Instr.slod dest).length (scondBody .d 0xA dest) s :=
  performs (body := fun _ => scondBody .d 0xA dest) (length_one rfl rfl rfl rfl) rfl

theorem exec_shsd (dest : Gen) (s : State) :
    exec (Instr.shsd dest) s = perform (Instr.shsd dest).length (scondBody .d 0xB dest) s :=
  performs (body := fun _ => scondBody .d 0xB dest) (length_one rfl rfl rfl rfl) rfl

theorem exec_sltd (dest : Gen) (s : State) :
    exec (Instr.sltd dest) s = perform (Instr.sltd dest).length (scondBody .d 0xC dest) s :=
  performs (body := fun _ => scondBody .d 0xC dest) (length_one rfl rfl rfl rfl) rfl

theorem exec_sged (dest : Gen) (s : State) :
    exec (Instr.sged dest) s = perform (Instr.sged dest).length (scondBody .d 0xD dest) s :=
  performs (body := fun _ => scondBody .d 0xD dest) (length_one rfl rfl rfl rfl) rfl

theorem exec_srd (dest : Gen) (s : State) :
    exec (Instr.srd dest) s = perform (Instr.srd dest).length (scondBody .d 0xE dest) s :=
  performs (body := fun _ => scondBody .d 0xE dest) (length_one rfl rfl rfl rfl) rfl

theorem exec_s1111d (dest : Gen) (s : State) :
    exec (Instr.s1111d dest) s = perform (Instr.s1111d dest).length (scondBody .d 0xF dest) s :=
  performs (body := fun _ => scondBody .d 0xF dest) (length_one rfl rfl rfl rfl) rfl

theorem exec_cxpd (gen : Gen) (s : State) :
    exec (Instr.cxpd gen) s = perform (Instr.cxpd gen).length (cxpdBody (Instr.cxpd gen).length gen) s :=
  performs (body := fun n => cxpdBody n gen) (length_one rfl rfl rfl rfl) rfl

theorem exec_jump (gen : Gen) (s : State) :
    exec (Instr.jump gen) s = perform (Instr.jump gen).length (jumpBody gen) s :=
  performs (body := fun _ => jumpBody gen) (length_one rfl rfl rfl rfl) rfl

theorem exec_jsr (gen : Gen) (s : State) :
    exec (Instr.jsr gen) s = perform (Instr.jsr gen).length (jsrBody (Instr.jsr gen).length gen) s :=
  performs (body := fun n => jsrBody n gen) (length_one rfl rfl rfl rfl) rfl

theorem exec_bicpsrb (gen : Gen) (s : State) :
    exec (Instr.bicpsrb gen) s = perform (Instr.bicpsrb gen).length (psrBitsBody .b false gen) s :=
  performs (body := fun _ => psrBitsBody .b false gen) (length_one rfl rfl rfl rfl) rfl

theorem exec_bicpsrw (gen : Gen) (s : State) :
    exec (Instr.bicpsrw gen) s = perform (Instr.bicpsrw gen).length (psrBitsBody .w false gen) s :=
  performs (body := fun _ => psrBitsBody .w false gen) (length_one rfl rfl rfl rfl) rfl

theorem exec_bispsrb (gen : Gen) (s : State) :
    exec (Instr.bispsrb gen) s = perform (Instr.bispsrb gen).length (psrBitsBody .b true gen) s :=
  performs (body := fun _ => psrBitsBody .b true gen) (length_one rfl rfl rfl rfl) rfl

theorem exec_bispsrw (gen : Gen) (s : State) :
    exec (Instr.bispsrw gen) s = perform (Instr.bispsrw gen).length (psrBitsBody .w true gen) s :=
  performs (body := fun _ => psrBitsBody .w true gen) (length_one rfl rfl rfl rfl) rfl

theorem exec_adjspb (gen : Gen) (s : State) :
    exec (Instr.adjspb gen) s = perform (Instr.adjspb gen).length (adjspBody .b gen) s :=
  performs (body := fun _ => adjspBody .b gen) (length_one rfl rfl rfl rfl) rfl

theorem exec_adjspw (gen : Gen) (s : State) :
    exec (Instr.adjspw gen) s = perform (Instr.adjspw gen).length (adjspBody .w gen) s :=
  performs (body := fun _ => adjspBody .w gen) (length_one rfl rfl rfl rfl) rfl

theorem exec_adjspd (gen : Gen) (s : State) :
    exec (Instr.adjspd gen) s = perform (Instr.adjspd gen).length (adjspBody .d gen) s :=
  performs (body := fun _ => adjspBody .d gen) (length_one rfl rfl rfl rfl) rfl

theorem exec_caseb (gen : Gen) (s : State) :
    exec (Instr.caseb gen) s = perform (Instr.caseb gen).length (caseBody .b gen) s :=
  performs (body := fun _ => caseBody .b gen) (length_one rfl rfl rfl rfl) rfl

theorem exec_casew (gen : Gen) (s : State) :
    exec (Instr.casew gen) s = perform (Instr.casew gen).length (caseBody .w gen) s :=
  performs (body := fun _ => caseBody .w gen) (length_one rfl rfl rfl rfl) rfl

theorem exec_cased (gen : Gen) (s : State) :
    exec (Instr.cased gen) s = perform (Instr.cased gen).length (caseBody .d gen) s :=
  performs (body := fun _ => caseBody .d gen) (length_one rfl rfl rfl rfl) rfl

theorem exec_addb (gen1 gen2 : Gen) (s : State) :
    exec (Instr.addb gen1 gen2) s = perform (Instr.addb gen1 gen2).length (addBody .b false gen1 gen2) s :=
  performs (body := fun _ => addBody .b false gen1 gen2) (length_two rfl rfl rfl rfl) rfl

theorem exec_addw (gen1 gen2 : Gen) (s : State) :
    exec (Instr.addw gen1 gen2) s = perform (Instr.addw gen1 gen2).length (addBody .w false gen1 gen2) s :=
  performs (body := fun _ => addBody .w false gen1 gen2) (length_two rfl rfl rfl rfl) rfl

theorem exec_addd (gen1 gen2 : Gen) (s : State) :
    exec (Instr.addd gen1 gen2) s = perform (Instr.addd gen1 gen2).length (addBody .d false gen1 gen2) s :=
  performs (body := fun _ => addBody .d false gen1 gen2) (length_two rfl rfl rfl rfl) rfl

theorem exec_cmpb (gen1 gen2 : Gen) (s : State) :
    exec (Instr.cmpb gen1 gen2) s = perform (Instr.cmpb gen1 gen2).length (cmpBody .b gen1 gen2) s :=
  performs (body := fun _ => cmpBody .b gen1 gen2) (length_two rfl rfl rfl rfl) rfl

theorem exec_cmpw (gen1 gen2 : Gen) (s : State) :
    exec (Instr.cmpw gen1 gen2) s = perform (Instr.cmpw gen1 gen2).length (cmpBody .w gen1 gen2) s :=
  performs (body := fun _ => cmpBody .w gen1 gen2) (length_two rfl rfl rfl rfl) rfl

theorem exec_cmpd (gen1 gen2 : Gen) (s : State) :
    exec (Instr.cmpd gen1 gen2) s = perform (Instr.cmpd gen1 gen2).length (cmpBody .d gen1 gen2) s :=
  performs (body := fun _ => cmpBody .d gen1 gen2) (length_two rfl rfl rfl rfl) rfl

theorem exec_bicb (gen1 gen2 : Gen) (s : State) :
    exec (Instr.bicb gen1 gen2) s = perform (Instr.bicb gen1 gen2).length (binaryBody .b (fun a b => b &&& ~~~a) gen1 gen2) s :=
  performs (body := fun _ => binaryBody .b (fun a b => b &&& ~~~a) gen1 gen2) (length_two rfl rfl rfl rfl) rfl

theorem exec_bicw (gen1 gen2 : Gen) (s : State) :
    exec (Instr.bicw gen1 gen2) s = perform (Instr.bicw gen1 gen2).length (binaryBody .w (fun a b => b &&& ~~~a) gen1 gen2) s :=
  performs (body := fun _ => binaryBody .w (fun a b => b &&& ~~~a) gen1 gen2) (length_two rfl rfl rfl rfl) rfl

theorem exec_bicd (gen1 gen2 : Gen) (s : State) :
    exec (Instr.bicd gen1 gen2) s = perform (Instr.bicd gen1 gen2).length (binaryBody .d (fun a b => b &&& ~~~a) gen1 gen2) s :=
  performs (body := fun _ => binaryBody .d (fun a b => b &&& ~~~a) gen1 gen2) (length_two rfl rfl rfl rfl) rfl

theorem exec_addcb (gen1 gen2 : Gen) (s : State) :
    exec (Instr.addcb gen1 gen2) s = perform (Instr.addcb gen1 gen2).length (addBody .b true gen1 gen2) s :=
  performs (body := fun _ => addBody .b true gen1 gen2) (length_two rfl rfl rfl rfl) rfl

theorem exec_addcw (gen1 gen2 : Gen) (s : State) :
    exec (Instr.addcw gen1 gen2) s = perform (Instr.addcw gen1 gen2).length (addBody .w true gen1 gen2) s :=
  performs (body := fun _ => addBody .w true gen1 gen2) (length_two rfl rfl rfl rfl) rfl

theorem exec_addcd (gen1 gen2 : Gen) (s : State) :
    exec (Instr.addcd gen1 gen2) s = perform (Instr.addcd gen1 gen2).length (addBody .d true gen1 gen2) s :=
  performs (body := fun _ => addBody .d true gen1 gen2) (length_two rfl rfl rfl rfl) rfl

theorem exec_movb (gen1 gen2 : Gen) (s : State) :
    exec (Instr.movb gen1 gen2) s = perform (Instr.movb gen1 gen2).length (convertBody 1 1 id gen1 gen2) s :=
  performs (body := fun _ => convertBody 1 1 id gen1 gen2) (length_two rfl rfl rfl rfl) rfl

theorem exec_movw (gen1 gen2 : Gen) (s : State) :
    exec (Instr.movw gen1 gen2) s = perform (Instr.movw gen1 gen2).length (convertBody 2 2 id gen1 gen2) s :=
  performs (body := fun _ => convertBody 2 2 id gen1 gen2) (length_two rfl rfl rfl rfl) rfl

theorem exec_movd (gen1 gen2 : Gen) (s : State) :
    exec (Instr.movd gen1 gen2) s = perform (Instr.movd gen1 gen2).length (convertBody 4 4 id gen1 gen2) s :=
  performs (body := fun _ => convertBody 4 4 id gen1 gen2) (length_two rfl rfl rfl rfl) rfl

theorem exec_orb (gen1 gen2 : Gen) (s : State) :
    exec (Instr.orb gen1 gen2) s = perform (Instr.orb gen1 gen2).length (binaryBody .b (fun a b => b ||| a) gen1 gen2) s :=
  performs (body := fun _ => binaryBody .b (fun a b => b ||| a) gen1 gen2) (length_two rfl rfl rfl rfl) rfl

theorem exec_orw (gen1 gen2 : Gen) (s : State) :
    exec (Instr.orw gen1 gen2) s = perform (Instr.orw gen1 gen2).length (binaryBody .w (fun a b => b ||| a) gen1 gen2) s :=
  performs (body := fun _ => binaryBody .w (fun a b => b ||| a) gen1 gen2) (length_two rfl rfl rfl rfl) rfl

theorem exec_ord (gen1 gen2 : Gen) (s : State) :
    exec (Instr.ord gen1 gen2) s = perform (Instr.ord gen1 gen2).length (binaryBody .d (fun a b => b ||| a) gen1 gen2) s :=
  performs (body := fun _ => binaryBody .d (fun a b => b ||| a) gen1 gen2) (length_two rfl rfl rfl rfl) rfl

theorem exec_subb (gen1 gen2 : Gen) (s : State) :
    exec (Instr.subb gen1 gen2) s = perform (Instr.subb gen1 gen2).length (subBody .b false gen1 gen2) s :=
  performs (body := fun _ => subBody .b false gen1 gen2) (length_two rfl rfl rfl rfl) rfl

theorem exec_subw (gen1 gen2 : Gen) (s : State) :
    exec (Instr.subw gen1 gen2) s = perform (Instr.subw gen1 gen2).length (subBody .w false gen1 gen2) s :=
  performs (body := fun _ => subBody .w false gen1 gen2) (length_two rfl rfl rfl rfl) rfl

theorem exec_subd (gen1 gen2 : Gen) (s : State) :
    exec (Instr.subd gen1 gen2) s = perform (Instr.subd gen1 gen2).length (subBody .d false gen1 gen2) s :=
  performs (body := fun _ => subBody .d false gen1 gen2) (length_two rfl rfl rfl rfl) rfl

theorem exec_andb (gen1 gen2 : Gen) (s : State) :
    exec (Instr.andb gen1 gen2) s = perform (Instr.andb gen1 gen2).length (binaryBody .b (fun a b => b &&& a) gen1 gen2) s :=
  performs (body := fun _ => binaryBody .b (fun a b => b &&& a) gen1 gen2) (length_two rfl rfl rfl rfl) rfl

theorem exec_andw (gen1 gen2 : Gen) (s : State) :
    exec (Instr.andw gen1 gen2) s = perform (Instr.andw gen1 gen2).length (binaryBody .w (fun a b => b &&& a) gen1 gen2) s :=
  performs (body := fun _ => binaryBody .w (fun a b => b &&& a) gen1 gen2) (length_two rfl rfl rfl rfl) rfl

theorem exec_andd (gen1 gen2 : Gen) (s : State) :
    exec (Instr.andd gen1 gen2) s = perform (Instr.andd gen1 gen2).length (binaryBody .d (fun a b => b &&& a) gen1 gen2) s :=
  performs (body := fun _ => binaryBody .d (fun a b => b &&& a) gen1 gen2) (length_two rfl rfl rfl rfl) rfl

theorem exec_subcb (gen1 gen2 : Gen) (s : State) :
    exec (Instr.subcb gen1 gen2) s = perform (Instr.subcb gen1 gen2).length (subBody .b true gen1 gen2) s :=
  performs (body := fun _ => subBody .b true gen1 gen2) (length_two rfl rfl rfl rfl) rfl

theorem exec_subcw (gen1 gen2 : Gen) (s : State) :
    exec (Instr.subcw gen1 gen2) s = perform (Instr.subcw gen1 gen2).length (subBody .w true gen1 gen2) s :=
  performs (body := fun _ => subBody .w true gen1 gen2) (length_two rfl rfl rfl rfl) rfl

theorem exec_subcd (gen1 gen2 : Gen) (s : State) :
    exec (Instr.subcd gen1 gen2) s = perform (Instr.subcd gen1 gen2).length (subBody .d true gen1 gen2) s :=
  performs (body := fun _ => subBody .d true gen1 gen2) (length_two rfl rfl rfl rfl) rfl

theorem exec_tbitb (gen1 gen2 : Gen) (s : State) :
    exec (Instr.tbitb gen1 gen2) s = perform (Instr.tbitb gen1 gen2).length (bitBody .b none gen1 gen2) s :=
  performs (body := fun _ => bitBody .b none gen1 gen2) (length_two rfl rfl rfl rfl) rfl

theorem exec_tbitw (gen1 gen2 : Gen) (s : State) :
    exec (Instr.tbitw gen1 gen2) s = perform (Instr.tbitw gen1 gen2).length (bitBody .w none gen1 gen2) s :=
  performs (body := fun _ => bitBody .w none gen1 gen2) (length_two rfl rfl rfl rfl) rfl

theorem exec_tbitd (gen1 gen2 : Gen) (s : State) :
    exec (Instr.tbitd gen1 gen2) s = perform (Instr.tbitd gen1 gen2).length (bitBody .d none gen1 gen2) s :=
  performs (body := fun _ => bitBody .d none gen1 gen2) (length_two rfl rfl rfl rfl) rfl

theorem exec_xorb (gen1 gen2 : Gen) (s : State) :
    exec (Instr.xorb gen1 gen2) s = perform (Instr.xorb gen1 gen2).length (binaryBody .b (fun a b => b ^^^ a) gen1 gen2) s :=
  performs (body := fun _ => binaryBody .b (fun a b => b ^^^ a) gen1 gen2) (length_two rfl rfl rfl rfl) rfl

theorem exec_xorw (gen1 gen2 : Gen) (s : State) :
    exec (Instr.xorw gen1 gen2) s = perform (Instr.xorw gen1 gen2).length (binaryBody .w (fun a b => b ^^^ a) gen1 gen2) s :=
  performs (body := fun _ => binaryBody .w (fun a b => b ^^^ a) gen1 gen2) (length_two rfl rfl rfl rfl) rfl

theorem exec_xord (gen1 gen2 : Gen) (s : State) :
    exec (Instr.xord gen1 gen2) s = perform (Instr.xord gen1 gen2).length (binaryBody .d (fun a b => b ^^^ a) gen1 gen2) s :=
  performs (body := fun _ => binaryBody .d (fun a b => b ^^^ a) gen1 gen2) (length_two rfl rfl rfl rfl) rfl

theorem exec_addr (gen1 gen2 : Gen) (s : State) :
    exec (Instr.addr gen1 gen2) s = perform (Instr.addr gen1 gen2).length (addrBody gen1 gen2) s :=
  performs (body := fun _ => addrBody gen1 gen2) (length_two rfl rfl rfl rfl) rfl

theorem exec_lxpd (disp1 disp2 : Disp) (dest : Gen) (s : State) :
    exec (Instr.lxpd disp1 disp2 dest) s = perform (Instr.lxpd disp1 disp2 dest).length (addrBody (.base (.ext disp1 disp2)) dest) s :=
  performs (body := fun _ => addrBody (.base (.ext disp1 disp2)) dest) (length_two rfl rfl rfl rfl) rfl

theorem exec_movsb (opts : StrOpts) (unused : BitVec 6) (s : State) :
    exec (Instr.movsb opts unused) s = perform (Instr.movsb opts unused).length (stringPass .movs 1 false opts unused) s :=
  performs (body := fun _ => stringPass .movs 1 false opts unused) (length_fixed rfl rfl rfl rfl) rfl

theorem exec_movsw (opts : StrOpts) (unused : BitVec 6) (s : State) :
    exec (Instr.movsw opts unused) s = perform (Instr.movsw opts unused).length (stringPass .movs 2 false opts unused) s :=
  performs (body := fun _ => stringPass .movs 2 false opts unused) (length_fixed rfl rfl rfl rfl) rfl

theorem exec_movsd (opts : StrOpts) (unused : BitVec 6) (s : State) :
    exec (Instr.movsd opts unused) s = perform (Instr.movsd opts unused).length (stringPass .movs 4 false opts unused) s :=
  performs (body := fun _ => stringPass .movs 4 false opts unused) (length_fixed rfl rfl rfl rfl) rfl

theorem exec_movst (opts : StrOpts) (unused : BitVec 6) (s : State) :
    exec (Instr.movst opts unused) s = perform (Instr.movst opts unused).length (stringPass .movs 1 true opts unused) s :=
  performs (body := fun _ => stringPass .movs 1 true opts unused) (length_fixed rfl rfl rfl rfl) rfl

theorem exec_cmpsb (opts : StrOpts) (unused : BitVec 6) (s : State) :
    exec (Instr.cmpsb opts unused) s = perform (Instr.cmpsb opts unused).length (stringPass .cmps 1 false opts unused) s :=
  performs (body := fun _ => stringPass .cmps 1 false opts unused) (length_fixed rfl rfl rfl rfl) rfl

theorem exec_cmpsw (opts : StrOpts) (unused : BitVec 6) (s : State) :
    exec (Instr.cmpsw opts unused) s = perform (Instr.cmpsw opts unused).length (stringPass .cmps 2 false opts unused) s :=
  performs (body := fun _ => stringPass .cmps 2 false opts unused) (length_fixed rfl rfl rfl rfl) rfl

theorem exec_cmpsd (opts : StrOpts) (unused : BitVec 6) (s : State) :
    exec (Instr.cmpsd opts unused) s = perform (Instr.cmpsd opts unused).length (stringPass .cmps 4 false opts unused) s :=
  performs (body := fun _ => stringPass .cmps 4 false opts unused) (length_fixed rfl rfl rfl rfl) rfl

theorem exec_cmpst (opts : StrOpts) (unused : BitVec 6) (s : State) :
    exec (Instr.cmpst opts unused) s = perform (Instr.cmpst opts unused).length (stringPass .cmps 1 true opts unused) s :=
  performs (body := fun _ => stringPass .cmps 1 true opts unused) (length_fixed rfl rfl rfl rfl) rfl

theorem exec_skpsb (opts : StrOpts) (unused : BitVec 6) (s : State) :
    exec (Instr.skpsb opts unused) s = perform (Instr.skpsb opts unused).length (stringPass .skps 1 false opts unused) s :=
  performs (body := fun _ => stringPass .skps 1 false opts unused) (length_fixed rfl rfl rfl rfl) rfl

theorem exec_skpsw (opts : StrOpts) (unused : BitVec 6) (s : State) :
    exec (Instr.skpsw opts unused) s = perform (Instr.skpsw opts unused).length (stringPass .skps 2 false opts unused) s :=
  performs (body := fun _ => stringPass .skps 2 false opts unused) (length_fixed rfl rfl rfl rfl) rfl

theorem exec_skpsd (opts : StrOpts) (unused : BitVec 6) (s : State) :
    exec (Instr.skpsd opts unused) s = perform (Instr.skpsd opts unused).length (stringPass .skps 4 false opts unused) s :=
  performs (body := fun _ => stringPass .skps 4 false opts unused) (length_fixed rfl rfl rfl rfl) rfl

theorem exec_skpst (opts : StrOpts) (unused : BitVec 6) (s : State) :
    exec (Instr.skpst opts unused) s = perform (Instr.skpst opts unused).length (stringPass .skps 1 true opts unused) s :=
  performs (body := fun _ => stringPass .skps 1 true opts unused) (length_fixed rfl rfl rfl rfl) rfl

theorem exec_setcfg (cfglist : BitVec 4) (unused : BitVec 6) (s : State) :
    exec (Instr.setcfg cfglist unused) s = perform (Instr.setcfg cfglist unused).length (setcfgBody cfglist unused) s :=
  performs (body := fun _ => setcfgBody cfglist unused) (length_fixed rfl rfl rfl rfl) rfl

theorem exec_rotb (gen1 gen2 : Gen) (s : State) :
    exec (Instr.rotb gen1 gen2) s = perform (Instr.rotb gen1 gen2).length (shiftBody .b (rotate 1) gen1 gen2) s :=
  performs (body := fun _ => shiftBody .b (rotate 1) gen1 gen2) (length_two rfl rfl rfl rfl) rfl

theorem exec_rotw (gen1 gen2 : Gen) (s : State) :
    exec (Instr.rotw gen1 gen2) s = perform (Instr.rotw gen1 gen2).length (shiftBody .w (rotate 2) gen1 gen2) s :=
  performs (body := fun _ => shiftBody .w (rotate 2) gen1 gen2) (length_two rfl rfl rfl rfl) rfl

theorem exec_rotd (gen1 gen2 : Gen) (s : State) :
    exec (Instr.rotd gen1 gen2) s = perform (Instr.rotd gen1 gen2).length (shiftBody .d (rotate 4) gen1 gen2) s :=
  performs (body := fun _ => shiftBody .d (rotate 4) gen1 gen2) (length_two rfl rfl rfl rfl) rfl

theorem exec_ashb (gen1 gen2 : Gen) (s : State) :
    exec (Instr.ashb gen1 gen2) s = perform (Instr.ashb gen1 gen2).length (shiftBody .b (shiftArith 1) gen1 gen2) s :=
  performs (body := fun _ => shiftBody .b (shiftArith 1) gen1 gen2) (length_two rfl rfl rfl rfl) rfl

theorem exec_ashw (gen1 gen2 : Gen) (s : State) :
    exec (Instr.ashw gen1 gen2) s = perform (Instr.ashw gen1 gen2).length (shiftBody .w (shiftArith 2) gen1 gen2) s :=
  performs (body := fun _ => shiftBody .w (shiftArith 2) gen1 gen2) (length_two rfl rfl rfl rfl) rfl

theorem exec_ashd (gen1 gen2 : Gen) (s : State) :
    exec (Instr.ashd gen1 gen2) s = perform (Instr.ashd gen1 gen2).length (shiftBody .d (shiftArith 4) gen1 gen2) s :=
  performs (body := fun _ => shiftBody .d (shiftArith 4) gen1 gen2) (length_two rfl rfl rfl rfl) rfl

theorem exec_cbitb (gen1 gen2 : Gen) (s : State) :
    exec (Instr.cbitb gen1 gen2) s = perform (Instr.cbitb gen1 gen2).length (bitBody .b (some fun _ => false) gen1 gen2) s :=
  performs (body := fun _ => bitBody .b (some fun _ => false) gen1 gen2) (length_two rfl rfl rfl rfl) rfl

theorem exec_cbitw (gen1 gen2 : Gen) (s : State) :
    exec (Instr.cbitw gen1 gen2) s = perform (Instr.cbitw gen1 gen2).length (bitBody .w (some fun _ => false) gen1 gen2) s :=
  performs (body := fun _ => bitBody .w (some fun _ => false) gen1 gen2) (length_two rfl rfl rfl rfl) rfl

theorem exec_cbitd (gen1 gen2 : Gen) (s : State) :
    exec (Instr.cbitd gen1 gen2) s = perform (Instr.cbitd gen1 gen2).length (bitBody .d (some fun _ => false) gen1 gen2) s :=
  performs (body := fun _ => bitBody .d (some fun _ => false) gen1 gen2) (length_two rfl rfl rfl rfl) rfl

theorem exec_cbitib (gen1 gen2 : Gen) (s : State) :
    exec (Instr.cbitib gen1 gen2) s = perform (Instr.cbitib gen1 gen2).length (bitBody .b (some fun _ => false) gen1 gen2) s :=
  performs (body := fun _ => bitBody .b (some fun _ => false) gen1 gen2) (length_two rfl rfl rfl rfl) rfl

theorem exec_cbitiw (gen1 gen2 : Gen) (s : State) :
    exec (Instr.cbitiw gen1 gen2) s = perform (Instr.cbitiw gen1 gen2).length (bitBody .w (some fun _ => false) gen1 gen2) s :=
  performs (body := fun _ => bitBody .w (some fun _ => false) gen1 gen2) (length_two rfl rfl rfl rfl) rfl

theorem exec_cbitid (gen1 gen2 : Gen) (s : State) :
    exec (Instr.cbitid gen1 gen2) s = perform (Instr.cbitid gen1 gen2).length (bitBody .d (some fun _ => false) gen1 gen2) s :=
  performs (body := fun _ => bitBody .d (some fun _ => false) gen1 gen2) (length_two rfl rfl rfl rfl) rfl

theorem exec_lshb (gen1 gen2 : Gen) (s : State) :
    exec (Instr.lshb gen1 gen2) s = perform (Instr.lshb gen1 gen2).length (shiftBody .b (shiftLogical 1) gen1 gen2) s :=
  performs (body := fun _ => shiftBody .b (shiftLogical 1) gen1 gen2) (length_two rfl rfl rfl rfl) rfl

theorem exec_lshw (gen1 gen2 : Gen) (s : State) :
    exec (Instr.lshw gen1 gen2) s = perform (Instr.lshw gen1 gen2).length (shiftBody .w (shiftLogical 2) gen1 gen2) s :=
  performs (body := fun _ => shiftBody .w (shiftLogical 2) gen1 gen2) (length_two rfl rfl rfl rfl) rfl

theorem exec_lshd (gen1 gen2 : Gen) (s : State) :
    exec (Instr.lshd gen1 gen2) s = perform (Instr.lshd gen1 gen2).length (shiftBody .d (shiftLogical 4) gen1 gen2) s :=
  performs (body := fun _ => shiftBody .d (shiftLogical 4) gen1 gen2) (length_two rfl rfl rfl rfl) rfl

theorem exec_sbitb (gen1 gen2 : Gen) (s : State) :
    exec (Instr.sbitb gen1 gen2) s = perform (Instr.sbitb gen1 gen2).length (bitBody .b (some fun _ => true) gen1 gen2) s :=
  performs (body := fun _ => bitBody .b (some fun _ => true) gen1 gen2) (length_two rfl rfl rfl rfl) rfl

theorem exec_sbitw (gen1 gen2 : Gen) (s : State) :
    exec (Instr.sbitw gen1 gen2) s = perform (Instr.sbitw gen1 gen2).length (bitBody .w (some fun _ => true) gen1 gen2) s :=
  performs (body := fun _ => bitBody .w (some fun _ => true) gen1 gen2) (length_two rfl rfl rfl rfl) rfl

theorem exec_sbitd (gen1 gen2 : Gen) (s : State) :
    exec (Instr.sbitd gen1 gen2) s = perform (Instr.sbitd gen1 gen2).length (bitBody .d (some fun _ => true) gen1 gen2) s :=
  performs (body := fun _ => bitBody .d (some fun _ => true) gen1 gen2) (length_two rfl rfl rfl rfl) rfl

theorem exec_sbitib (gen1 gen2 : Gen) (s : State) :
    exec (Instr.sbitib gen1 gen2) s = perform (Instr.sbitib gen1 gen2).length (bitBody .b (some fun _ => true) gen1 gen2) s :=
  performs (body := fun _ => bitBody .b (some fun _ => true) gen1 gen2) (length_two rfl rfl rfl rfl) rfl

theorem exec_sbitiw (gen1 gen2 : Gen) (s : State) :
    exec (Instr.sbitiw gen1 gen2) s = perform (Instr.sbitiw gen1 gen2).length (bitBody .w (some fun _ => true) gen1 gen2) s :=
  performs (body := fun _ => bitBody .w (some fun _ => true) gen1 gen2) (length_two rfl rfl rfl rfl) rfl

theorem exec_sbitid (gen1 gen2 : Gen) (s : State) :
    exec (Instr.sbitid gen1 gen2) s = perform (Instr.sbitid gen1 gen2).length (bitBody .d (some fun _ => true) gen1 gen2) s :=
  performs (body := fun _ => bitBody .d (some fun _ => true) gen1 gen2) (length_two rfl rfl rfl rfl) rfl

theorem exec_negb (gen1 gen2 : Gen) (s : State) :
    exec (Instr.negb gen1 gen2) s = perform (Instr.negb gen1 gen2).length (negBody .b gen1 gen2) s :=
  performs (body := fun _ => negBody .b gen1 gen2) (length_two rfl rfl rfl rfl) rfl

theorem exec_negw (gen1 gen2 : Gen) (s : State) :
    exec (Instr.negw gen1 gen2) s = perform (Instr.negw gen1 gen2).length (negBody .w gen1 gen2) s :=
  performs (body := fun _ => negBody .w gen1 gen2) (length_two rfl rfl rfl rfl) rfl

theorem exec_negd (gen1 gen2 : Gen) (s : State) :
    exec (Instr.negd gen1 gen2) s = perform (Instr.negd gen1 gen2).length (negBody .d gen1 gen2) s :=
  performs (body := fun _ => negBody .d gen1 gen2) (length_two rfl rfl rfl rfl) rfl

theorem exec_notb (gen1 gen2 : Gen) (s : State) :
    exec (Instr.notb gen1 gen2) s = perform (Instr.notb gen1 gen2).length (convertBody 1 1 (fun v => v ^^^ 1) gen1 gen2) s :=
  performs (body := fun _ => convertBody 1 1 (fun v => v ^^^ 1) gen1 gen2) (length_two rfl rfl rfl rfl) rfl

theorem exec_notw (gen1 gen2 : Gen) (s : State) :
    exec (Instr.notw gen1 gen2) s = perform (Instr.notw gen1 gen2).length (convertBody 2 2 (fun v => v ^^^ 1) gen1 gen2) s :=
  performs (body := fun _ => convertBody 2 2 (fun v => v ^^^ 1) gen1 gen2) (length_two rfl rfl rfl rfl) rfl

theorem exec_notd (gen1 gen2 : Gen) (s : State) :
    exec (Instr.notd gen1 gen2) s = perform (Instr.notd gen1 gen2).length (convertBody 4 4 (fun v => v ^^^ 1) gen1 gen2) s :=
  performs (body := fun _ => convertBody 4 4 (fun v => v ^^^ 1) gen1 gen2) (length_two rfl rfl rfl rfl) rfl

theorem exec_subpb (gen1 gen2 : Gen) (s : State) :
    exec (Instr.subpb gen1 gen2) s = perform (Instr.subpb gen1 gen2).length (decimalBody .b (fun b a c => b - a - c) gen1 gen2) s :=
  performs (body := fun _ => decimalBody .b (fun b a c => b - a - c) gen1 gen2) (length_two rfl rfl rfl rfl) rfl

theorem exec_subpw (gen1 gen2 : Gen) (s : State) :
    exec (Instr.subpw gen1 gen2) s = perform (Instr.subpw gen1 gen2).length (decimalBody .w (fun b a c => b - a - c) gen1 gen2) s :=
  performs (body := fun _ => decimalBody .w (fun b a c => b - a - c) gen1 gen2) (length_two rfl rfl rfl rfl) rfl

theorem exec_subpd (gen1 gen2 : Gen) (s : State) :
    exec (Instr.subpd gen1 gen2) s = perform (Instr.subpd gen1 gen2).length (decimalBody .d (fun b a c => b - a - c) gen1 gen2) s :=
  performs (body := fun _ => decimalBody .d (fun b a c => b - a - c) gen1 gen2) (length_two rfl rfl rfl rfl) rfl

theorem exec_absb (gen1 gen2 : Gen) (s : State) :
    exec (Instr.absb gen1 gen2) s = perform (Instr.absb gen1 gen2).length (absBody .b gen1 gen2) s :=
  performs (body := fun _ => absBody .b gen1 gen2) (length_two rfl rfl rfl rfl) rfl

theorem exec_absw (gen1 gen2 : Gen) (s : State) :
    exec (Instr.absw gen1 gen2) s = perform (Instr.absw gen1 gen2).length (absBody .w gen1 gen2) s :=
  performs (body := fun _ => absBody .w gen1 gen2) (length_two rfl rfl rfl rfl) rfl

theorem exec_absd (gen1 gen2 : Gen) (s : State) :
    exec (Instr.absd gen1 gen2) s = perform (Instr.absd gen1 gen2).length (absBody .d gen1 gen2) s :=
  performs (body := fun _ => absBody .d gen1 gen2) (length_two rfl rfl rfl rfl) rfl

theorem exec_comb (gen1 gen2 : Gen) (s : State) :
    exec (Instr.comb gen1 gen2) s = perform (Instr.comb gen1 gen2).length (convertBody 1 1 (fun v => ~~~v) gen1 gen2) s :=
  performs (body := fun _ => convertBody 1 1 (fun v => ~~~v) gen1 gen2) (length_two rfl rfl rfl rfl) rfl

theorem exec_comw (gen1 gen2 : Gen) (s : State) :
    exec (Instr.comw gen1 gen2) s = perform (Instr.comw gen1 gen2).length (convertBody 2 2 (fun v => ~~~v) gen1 gen2) s :=
  performs (body := fun _ => convertBody 2 2 (fun v => ~~~v) gen1 gen2) (length_two rfl rfl rfl rfl) rfl

theorem exec_comd (gen1 gen2 : Gen) (s : State) :
    exec (Instr.comd gen1 gen2) s = perform (Instr.comd gen1 gen2).length (convertBody 4 4 (fun v => ~~~v) gen1 gen2) s :=
  performs (body := fun _ => convertBody 4 4 (fun v => ~~~v) gen1 gen2) (length_two rfl rfl rfl rfl) rfl

theorem exec_ibitb (gen1 gen2 : Gen) (s : State) :
    exec (Instr.ibitb gen1 gen2) s = perform (Instr.ibitb gen1 gen2).length (bitBody .b (some not) gen1 gen2) s :=
  performs (body := fun _ => bitBody .b (some not) gen1 gen2) (length_two rfl rfl rfl rfl) rfl

theorem exec_ibitw (gen1 gen2 : Gen) (s : State) :
    exec (Instr.ibitw gen1 gen2) s = perform (Instr.ibitw gen1 gen2).length (bitBody .w (some not) gen1 gen2) s :=
  performs (body := fun _ => bitBody .w (some not) gen1 gen2) (length_two rfl rfl rfl rfl) rfl

theorem exec_ibitd (gen1 gen2 : Gen) (s : State) :
    exec (Instr.ibitd gen1 gen2) s = perform (Instr.ibitd gen1 gen2).length (bitBody .d (some not) gen1 gen2) s :=
  performs (body := fun _ => bitBody .d (some not) gen1 gen2) (length_two rfl rfl rfl rfl) rfl

theorem exec_addpb (gen1 gen2 : Gen) (s : State) :
    exec (Instr.addpb gen1 gen2) s = perform (Instr.addpb gen1 gen2).length (decimalBody .b (fun b a c => b + a + c) gen1 gen2) s :=
  performs (body := fun _ => decimalBody .b (fun b a c => b + a + c) gen1 gen2) (length_two rfl rfl rfl rfl) rfl

theorem exec_addpw (gen1 gen2 : Gen) (s : State) :
    exec (Instr.addpw gen1 gen2) s = perform (Instr.addpw gen1 gen2).length (decimalBody .w (fun b a c => b + a + c) gen1 gen2) s :=
  performs (body := fun _ => decimalBody .w (fun b a c => b + a + c) gen1 gen2) (length_two rfl rfl rfl rfl) rfl

theorem exec_addpd (gen1 gen2 : Gen) (s : State) :
    exec (Instr.addpd gen1 gen2) s = perform (Instr.addpd gen1 gen2).length (decimalBody .d (fun b a c => b + a + c) gen1 gen2) s :=
  performs (body := fun _ => decimalBody .d (fun b a c => b + a + c) gen1 gen2) (length_two rfl rfl rfl rfl) rfl

theorem exec_movmb (gen1 gen2 : Gen) (length : Disp) (s : State) :
    exec (Instr.movmb gen1 gen2 length) s = perform (Instr.movmb gen1 gen2 length).length (movmBody .b gen1 gen2 length) s :=
  performs (body := fun _ => movmBody .b gen1 gen2 length) (length_two_disp rfl rfl rfl rfl) rfl

theorem exec_movmw (gen1 gen2 : Gen) (length : Disp) (s : State) :
    exec (Instr.movmw gen1 gen2 length) s = perform (Instr.movmw gen1 gen2 length).length (movmBody .w gen1 gen2 length) s :=
  performs (body := fun _ => movmBody .w gen1 gen2 length) (length_two_disp rfl rfl rfl rfl) rfl

theorem exec_movmd (gen1 gen2 : Gen) (length : Disp) (s : State) :
    exec (Instr.movmd gen1 gen2 length) s = perform (Instr.movmd gen1 gen2 length).length (movmBody .d gen1 gen2 length) s :=
  performs (body := fun _ => movmBody .d gen1 gen2 length) (length_two_disp rfl rfl rfl rfl) rfl

theorem exec_cmpmb (gen1 gen2 : Gen) (length : Disp) (s : State) :
    exec (Instr.cmpmb gen1 gen2 length) s = perform (Instr.cmpmb gen1 gen2 length).length (cmpmBody .b gen1 gen2 length) s :=
  performs (body := fun _ => cmpmBody .b gen1 gen2 length) (length_two_disp rfl rfl rfl rfl) rfl

theorem exec_cmpmw (gen1 gen2 : Gen) (length : Disp) (s : State) :
    exec (Instr.cmpmw gen1 gen2 length) s = perform (Instr.cmpmw gen1 gen2 length).length (cmpmBody .w gen1 gen2 length) s :=
  performs (body := fun _ => cmpmBody .w gen1 gen2 length) (length_two_disp rfl rfl rfl rfl) rfl

theorem exec_cmpmd (gen1 gen2 : Gen) (length : Disp) (s : State) :
    exec (Instr.cmpmd gen1 gen2 length) s = perform (Instr.cmpmd gen1 gen2 length).length (cmpmBody .d gen1 gen2 length) s :=
  performs (body := fun _ => cmpmBody .d gen1 gen2 length) (length_two_disp rfl rfl rfl rfl) rfl

theorem exec_inssb (gen1 gen2 : Gen) (offset : BitVec 3) (lengthM1 : BitVec 5) (s : State) :
    exec (Instr.inssb gen1 gen2 offset lengthM1) s = perform (Instr.inssb gen1 gen2 offset lengthM1).length (insertBody .b (return offset.toNat) (lengthM1.toNat + 1) gen1 gen2) s :=
  performs (body := fun _ => insertBody .b (return offset.toNat) (lengthM1.toNat + 1) gen1 gen2) (length_two_imm rfl rfl rfl rfl) rfl

theorem exec_inssw (gen1 gen2 : Gen) (offset : BitVec 3) (lengthM1 : BitVec 5) (s : State) :
    exec (Instr.inssw gen1 gen2 offset lengthM1) s = perform (Instr.inssw gen1 gen2 offset lengthM1).length (insertBody .w (return offset.toNat) (lengthM1.toNat + 1) gen1 gen2) s :=
  performs (body := fun _ => insertBody .w (return offset.toNat) (lengthM1.toNat + 1) gen1 gen2) (length_two_imm rfl rfl rfl rfl) rfl

theorem exec_inssd (gen1 gen2 : Gen) (offset : BitVec 3) (lengthM1 : BitVec 5) (s : State) :
    exec (Instr.inssd gen1 gen2 offset lengthM1) s = perform (Instr.inssd gen1 gen2 offset lengthM1).length (insertBody .d (return offset.toNat) (lengthM1.toNat + 1) gen1 gen2) s :=
  performs (body := fun _ => insertBody .d (return offset.toNat) (lengthM1.toNat + 1) gen1 gen2) (length_two_imm rfl rfl rfl rfl) rfl

theorem exec_extsb (gen1 gen2 : Gen) (offset : BitVec 3) (lengthM1 : BitVec 5) (s : State) :
    exec (Instr.extsb gen1 gen2 offset lengthM1) s = perform (Instr.extsb gen1 gen2 offset lengthM1).length (extractBody .b (return offset.toNat) (lengthM1.toNat + 1) gen1 gen2) s :=
  performs (body := fun _ => extractBody .b (return offset.toNat) (lengthM1.toNat + 1) gen1 gen2) (length_two_imm rfl rfl rfl rfl) rfl

theorem exec_extsw (gen1 gen2 : Gen) (offset : BitVec 3) (lengthM1 : BitVec 5) (s : State) :
    exec (Instr.extsw gen1 gen2 offset lengthM1) s = perform (Instr.extsw gen1 gen2 offset lengthM1).length (extractBody .w (return offset.toNat) (lengthM1.toNat + 1) gen1 gen2) s :=
  performs (body := fun _ => extractBody .w (return offset.toNat) (lengthM1.toNat + 1) gen1 gen2) (length_two_imm rfl rfl rfl rfl) rfl

theorem exec_extsd (gen1 gen2 : Gen) (offset : BitVec 3) (lengthM1 : BitVec 5) (s : State) :
    exec (Instr.extsd gen1 gen2 offset lengthM1) s = perform (Instr.extsd gen1 gen2 offset lengthM1).length (extractBody .d (return offset.toNat) (lengthM1.toNat + 1) gen1 gen2) s :=
  performs (body := fun _ => extractBody .d (return offset.toNat) (lengthM1.toNat + 1) gen1 gen2) (length_two_imm rfl rfl rfl rfl) rfl

theorem exec_mulb (gen1 gen2 : Gen) (s : State) :
    exec (Instr.mulb gen1 gen2) s = perform (Instr.mulb gen1 gen2).length (binaryBody .b (product 1) gen1 gen2) s :=
  performs (body := fun _ => binaryBody .b (product 1) gen1 gen2) (length_two rfl rfl rfl rfl) rfl

theorem exec_mulw (gen1 gen2 : Gen) (s : State) :
    exec (Instr.mulw gen1 gen2) s = perform (Instr.mulw gen1 gen2).length (binaryBody .w (product 2) gen1 gen2) s :=
  performs (body := fun _ => binaryBody .w (product 2) gen1 gen2) (length_two rfl rfl rfl rfl) rfl

theorem exec_muld (gen1 gen2 : Gen) (s : State) :
    exec (Instr.muld gen1 gen2) s = perform (Instr.muld gen1 gen2).length (binaryBody .d (product 4) gen1 gen2) s :=
  performs (body := fun _ => binaryBody .d (product 4) gen1 gen2) (length_two rfl rfl rfl rfl) rfl

theorem exec_meib (gen1 gen2 : Gen) (s : State) :
    exec (Instr.meib gen1 gen2) s = perform (Instr.meib gen1 gen2).length (meiBody .b gen1 gen2) s :=
  performs (body := fun _ => meiBody .b gen1 gen2) (length_two rfl rfl rfl rfl) rfl

theorem exec_meiw (gen1 gen2 : Gen) (s : State) :
    exec (Instr.meiw gen1 gen2) s = perform (Instr.meiw gen1 gen2).length (meiBody .w gen1 gen2) s :=
  performs (body := fun _ => meiBody .w gen1 gen2) (length_two rfl rfl rfl rfl) rfl

theorem exec_meid (gen1 gen2 : Gen) (s : State) :
    exec (Instr.meid gen1 gen2) s = perform (Instr.meid gen1 gen2).length (meiBody .d gen1 gen2) s :=
  performs (body := fun _ => meiBody .d gen1 gen2) (length_two rfl rfl rfl rfl) rfl

theorem exec_deib (gen1 gen2 : Gen) (s : State) :
    exec (Instr.deib gen1 gen2) s = perform (Instr.deib gen1 gen2).length (deiBody .b gen1 gen2) s :=
  performs (body := fun _ => deiBody .b gen1 gen2) (length_two rfl rfl rfl rfl) rfl

theorem exec_deiw (gen1 gen2 : Gen) (s : State) :
    exec (Instr.deiw gen1 gen2) s = perform (Instr.deiw gen1 gen2).length (deiBody .w gen1 gen2) s :=
  performs (body := fun _ => deiBody .w gen1 gen2) (length_two rfl rfl rfl rfl) rfl

theorem exec_deid (gen1 gen2 : Gen) (s : State) :
    exec (Instr.deid gen1 gen2) s = perform (Instr.deid gen1 gen2).length (deiBody .d gen1 gen2) s :=
  performs (body := fun _ => deiBody .d gen1 gen2) (length_two rfl rfl rfl rfl) rfl

theorem exec_quob (gen1 gen2 : Gen) (s : State) :
    exec (Instr.quob gen1 gen2) s = perform (Instr.quob gen1 gen2).length (divideBody .b true Int.tdiv gen1 gen2) s :=
  performs (body := fun _ => divideBody .b true Int.tdiv gen1 gen2) (length_two rfl rfl rfl rfl) rfl

theorem exec_quow (gen1 gen2 : Gen) (s : State) :
    exec (Instr.quow gen1 gen2) s = perform (Instr.quow gen1 gen2).length (divideBody .w true Int.tdiv gen1 gen2) s :=
  performs (body := fun _ => divideBody .w true Int.tdiv gen1 gen2) (length_two rfl rfl rfl rfl) rfl

theorem exec_quod (gen1 gen2 : Gen) (s : State) :
    exec (Instr.quod gen1 gen2) s = perform (Instr.quod gen1 gen2).length (divideBody .d true Int.tdiv gen1 gen2) s :=
  performs (body := fun _ => divideBody .d true Int.tdiv gen1 gen2) (length_two rfl rfl rfl rfl) rfl

theorem exec_remb (gen1 gen2 : Gen) (s : State) :
    exec (Instr.remb gen1 gen2) s = perform (Instr.remb gen1 gen2).length (divideBody .b false Int.tmod gen1 gen2) s :=
  performs (body := fun _ => divideBody .b false Int.tmod gen1 gen2) (length_two rfl rfl rfl rfl) rfl

theorem exec_remw (gen1 gen2 : Gen) (s : State) :
    exec (Instr.remw gen1 gen2) s = perform (Instr.remw gen1 gen2).length (divideBody .w false Int.tmod gen1 gen2) s :=
  performs (body := fun _ => divideBody .w false Int.tmod gen1 gen2) (length_two rfl rfl rfl rfl) rfl

theorem exec_remd (gen1 gen2 : Gen) (s : State) :
    exec (Instr.remd gen1 gen2) s = perform (Instr.remd gen1 gen2).length (divideBody .d false Int.tmod gen1 gen2) s :=
  performs (body := fun _ => divideBody .d false Int.tmod gen1 gen2) (length_two rfl rfl rfl rfl) rfl

theorem exec_modb (gen1 gen2 : Gen) (s : State) :
    exec (Instr.modb gen1 gen2) s = perform (Instr.modb gen1 gen2).length (divideBody .b false Int.fmod gen1 gen2) s :=
  performs (body := fun _ => divideBody .b false Int.fmod gen1 gen2) (length_two rfl rfl rfl rfl) rfl

theorem exec_modw (gen1 gen2 : Gen) (s : State) :
    exec (Instr.modw gen1 gen2) s = perform (Instr.modw gen1 gen2).length (divideBody .w false Int.fmod gen1 gen2) s :=
  performs (body := fun _ => divideBody .w false Int.fmod gen1 gen2) (length_two rfl rfl rfl rfl) rfl

theorem exec_modd (gen1 gen2 : Gen) (s : State) :
    exec (Instr.modd gen1 gen2) s = perform (Instr.modd gen1 gen2).length (divideBody .d false Int.fmod gen1 gen2) s :=
  performs (body := fun _ => divideBody .d false Int.fmod gen1 gen2) (length_two rfl rfl rfl rfl) rfl

theorem exec_divb (gen1 gen2 : Gen) (s : State) :
    exec (Instr.divb gen1 gen2) s = perform (Instr.divb gen1 gen2).length (divideBody .b true Int.fdiv gen1 gen2) s :=
  performs (body := fun _ => divideBody .b true Int.fdiv gen1 gen2) (length_two rfl rfl rfl rfl) rfl

theorem exec_divw (gen1 gen2 : Gen) (s : State) :
    exec (Instr.divw gen1 gen2) s = perform (Instr.divw gen1 gen2).length (divideBody .w true Int.fdiv gen1 gen2) s :=
  performs (body := fun _ => divideBody .w true Int.fdiv gen1 gen2) (length_two rfl rfl rfl rfl) rfl

theorem exec_divd (gen1 gen2 : Gen) (s : State) :
    exec (Instr.divd gen1 gen2) s = perform (Instr.divd gen1 gen2).length (divideBody .d true Int.fdiv gen1 gen2) s :=
  performs (body := fun _ => divideBody .d true Int.fdiv gen1 gen2) (length_two rfl rfl rfl rfl) rfl

theorem exec_movxbw (gen1 gen2 : Gen) (s : State) :
    exec (Instr.movxbw gen1 gen2) s = perform (Instr.movxbw gen1 gen2).length (convertBody 1 2 (fun v => narrow 2 (sval 1 v)) gen1 gen2) s :=
  performs (body := fun _ => convertBody 1 2 (fun v => narrow 2 (sval 1 v)) gen1 gen2) (length_two rfl rfl rfl rfl) rfl

theorem exec_movzbw (gen1 gen2 : Gen) (s : State) :
    exec (Instr.movzbw gen1 gen2) s = perform (Instr.movzbw gen1 gen2).length (convertBody 1 2 (fun v => narrow 2 (uval 1 v)) gen1 gen2) s :=
  performs (body := fun _ => convertBody 1 2 (fun v => narrow 2 (uval 1 v)) gen1 gen2) (length_two rfl rfl rfl rfl) rfl

theorem exec_movzbd (gen1 gen2 : Gen) (s : State) :
    exec (Instr.movzbd gen1 gen2) s = perform (Instr.movzbd gen1 gen2).length (convertBody 1 4 (fun v => narrow 4 (uval 1 v)) gen1 gen2) s :=
  performs (body := fun _ => convertBody 1 4 (fun v => narrow 4 (uval 1 v)) gen1 gen2) (length_two rfl rfl rfl rfl) rfl

theorem exec_movzwd (gen1 gen2 : Gen) (s : State) :
    exec (Instr.movzwd gen1 gen2) s = perform (Instr.movzwd gen1 gen2).length (convertBody 2 4 (fun v => narrow 4 (uval 2 v)) gen1 gen2) s :=
  performs (body := fun _ => convertBody 2 4 (fun v => narrow 4 (uval 2 v)) gen1 gen2) (length_two rfl rfl rfl rfl) rfl

theorem exec_movxbd (gen1 gen2 : Gen) (s : State) :
    exec (Instr.movxbd gen1 gen2) s = perform (Instr.movxbd gen1 gen2).length (convertBody 1 4 (fun v => narrow 4 (sval 1 v)) gen1 gen2) s :=
  performs (body := fun _ => convertBody 1 4 (fun v => narrow 4 (sval 1 v)) gen1 gen2) (length_two rfl rfl rfl rfl) rfl

theorem exec_movxwd (gen1 gen2 : Gen) (s : State) :
    exec (Instr.movxwd gen1 gen2) s = perform (Instr.movxwd gen1 gen2).length (convertBody 2 4 (fun v => narrow 4 (sval 2 v)) gen1 gen2) s :=
  performs (body := fun _ => convertBody 2 4 (fun v => narrow 4 (sval 2 v)) gen1 gen2) (length_two rfl rfl rfl rfl) rfl

theorem exec_extb (reg : Reg) (gen1 gen2 : Gen) (length : Disp) (s : State) :
    exec (Instr.extb reg gen1 gen2 length) s = perform (Instr.extb reg gen1 gen2 length).length (extBody .b reg gen1 gen2 length) s :=
  performs (body := fun _ => extBody .b reg gen1 gen2 length) (length_two_disp rfl rfl rfl rfl) rfl

theorem exec_extw (reg : Reg) (gen1 gen2 : Gen) (length : Disp) (s : State) :
    exec (Instr.extw reg gen1 gen2 length) s = perform (Instr.extw reg gen1 gen2 length).length (extBody .w reg gen1 gen2 length) s :=
  performs (body := fun _ => extBody .w reg gen1 gen2 length) (length_two_disp rfl rfl rfl rfl) rfl

theorem exec_extd (reg : Reg) (gen1 gen2 : Gen) (length : Disp) (s : State) :
    exec (Instr.extd reg gen1 gen2 length) s = perform (Instr.extd reg gen1 gen2 length).length (extBody .d reg gen1 gen2 length) s :=
  performs (body := fun _ => extBody .d reg gen1 gen2 length) (length_two_disp rfl rfl rfl rfl) rfl

theorem exec_insb (reg : Reg) (gen1 gen2 : Gen) (length : Disp) (s : State) :
    exec (Instr.insb reg gen1 gen2 length) s = perform (Instr.insb reg gen1 gen2 length).length (insBody .b reg gen1 gen2 length) s :=
  performs (body := fun _ => insBody .b reg gen1 gen2 length) (length_two_disp rfl rfl rfl rfl) rfl

theorem exec_insw (reg : Reg) (gen1 gen2 : Gen) (length : Disp) (s : State) :
    exec (Instr.insw reg gen1 gen2 length) s = perform (Instr.insw reg gen1 gen2 length).length (insBody .w reg gen1 gen2 length) s :=
  performs (body := fun _ => insBody .w reg gen1 gen2 length) (length_two_disp rfl rfl rfl rfl) rfl

theorem exec_insd (reg : Reg) (gen1 gen2 : Gen) (length : Disp) (s : State) :
    exec (Instr.insd reg gen1 gen2 length) s = perform (Instr.insd reg gen1 gen2 length).length (insBody .d reg gen1 gen2 length) s :=
  performs (body := fun _ => insBody .d reg gen1 gen2 length) (length_two_disp rfl rfl rfl rfl) rfl

theorem exec_checkb (reg : Reg) (gen1 gen2 : Gen) (s : State) :
    exec (Instr.checkb reg gen1 gen2) s = perform (Instr.checkb reg gen1 gen2).length (checkBody .b reg gen1 gen2) s :=
  performs (body := fun _ => checkBody .b reg gen1 gen2) (length_two rfl rfl rfl rfl) rfl

theorem exec_checkw (reg : Reg) (gen1 gen2 : Gen) (s : State) :
    exec (Instr.checkw reg gen1 gen2) s = perform (Instr.checkw reg gen1 gen2).length (checkBody .w reg gen1 gen2) s :=
  performs (body := fun _ => checkBody .w reg gen1 gen2) (length_two rfl rfl rfl rfl) rfl

theorem exec_checkd (reg : Reg) (gen1 gen2 : Gen) (s : State) :
    exec (Instr.checkd reg gen1 gen2) s = perform (Instr.checkd reg gen1 gen2).length (checkBody .d reg gen1 gen2) s :=
  performs (body := fun _ => checkBody .d reg gen1 gen2) (length_two rfl rfl rfl rfl) rfl

theorem exec_indexb (reg : Reg) (gen1 gen2 : Gen) (s : State) :
    exec (Instr.indexb reg gen1 gen2) s = perform (Instr.indexb reg gen1 gen2).length (indexBody .b reg gen1 gen2) s :=
  performs (body := fun _ => indexBody .b reg gen1 gen2) (length_two rfl rfl rfl rfl) rfl

theorem exec_indexw (reg : Reg) (gen1 gen2 : Gen) (s : State) :
    exec (Instr.indexw reg gen1 gen2) s = perform (Instr.indexw reg gen1 gen2).length (indexBody .w reg gen1 gen2) s :=
  performs (body := fun _ => indexBody .w reg gen1 gen2) (length_two rfl rfl rfl rfl) rfl

theorem exec_indexd (reg : Reg) (gen1 gen2 : Gen) (s : State) :
    exec (Instr.indexd reg gen1 gen2) s = perform (Instr.indexd reg gen1 gen2).length (indexBody .d reg gen1 gen2) s :=
  performs (body := fun _ => indexBody .d reg gen1 gen2) (length_two rfl rfl rfl rfl) rfl

theorem exec_cvtp (reg : Reg) (gen1 gen2 : Gen) (s : State) :
    exec (Instr.cvtp reg gen1 gen2) s = perform (Instr.cvtp reg gen1 gen2).length (cvtpBody reg gen1 gen2) s :=
  performs (body := fun _ => cvtpBody reg gen1 gen2) (length_two rfl rfl rfl rfl) rfl

theorem exec_ffsb (gen1 gen2 : Gen) (unused : BitVec 3) (s : State) :
    exec (Instr.ffsb gen1 gen2 unused) s = perform (Instr.ffsb gen1 gen2 unused).length (ffsBody .b unused gen1 gen2) s :=
  performs (body := fun _ => ffsBody .b unused gen1 gen2) (length_two rfl rfl rfl rfl) rfl

theorem exec_ffsw (gen1 gen2 : Gen) (unused : BitVec 3) (s : State) :
    exec (Instr.ffsw gen1 gen2 unused) s = perform (Instr.ffsw gen1 gen2 unused).length (ffsBody .w unused gen1 gen2) s :=
  performs (body := fun _ => ffsBody .w unused gen1 gen2) (length_two rfl rfl rfl rfl) rfl

theorem exec_ffsd (gen1 gen2 : Gen) (unused : BitVec 3) (s : State) :
    exec (Instr.ffsd gen1 gen2 unused) s = perform (Instr.ffsd gen1 gen2 unused).length (ffsBody .d unused gen1 gen2) s :=
  performs (body := fun _ => ffsBody .d unused gen1 gen2) (length_two rfl rfl rfl rfl) rfl

theorem exec_movsub (gen1 gen2 : Gen) (s : State) :
    exec (Instr.movsub gen1 gen2) s = perform (Instr.movsub gen1 gen2).length (moveSpaceBody .b .supervisor .user gen1 gen2) s :=
  performs (body := fun _ => moveSpaceBody .b .supervisor .user gen1 gen2) (length_two rfl rfl rfl rfl) rfl

theorem exec_movsuw (gen1 gen2 : Gen) (s : State) :
    exec (Instr.movsuw gen1 gen2) s = perform (Instr.movsuw gen1 gen2).length (moveSpaceBody .w .supervisor .user gen1 gen2) s :=
  performs (body := fun _ => moveSpaceBody .w .supervisor .user gen1 gen2) (length_two rfl rfl rfl rfl) rfl

theorem exec_movsud (gen1 gen2 : Gen) (s : State) :
    exec (Instr.movsud gen1 gen2) s = perform (Instr.movsud gen1 gen2).length (moveSpaceBody .d .supervisor .user gen1 gen2) s :=
  performs (body := fun _ => moveSpaceBody .d .supervisor .user gen1 gen2) (length_two rfl rfl rfl rfl) rfl

theorem exec_movusb (gen1 gen2 : Gen) (s : State) :
    exec (Instr.movusb gen1 gen2) s = perform (Instr.movusb gen1 gen2).length (moveSpaceBody .b .user .supervisor gen1 gen2) s :=
  performs (body := fun _ => moveSpaceBody .b .user .supervisor gen1 gen2) (length_two rfl rfl rfl rfl) rfl

theorem exec_movusw (gen1 gen2 : Gen) (s : State) :
    exec (Instr.movusw gen1 gen2) s = perform (Instr.movusw gen1 gen2).length (moveSpaceBody .w .user .supervisor gen1 gen2) s :=
  performs (body := fun _ => moveSpaceBody .w .user .supervisor gen1 gen2) (length_two rfl rfl rfl rfl) rfl

theorem exec_movusd (gen1 gen2 : Gen) (s : State) :
    exec (Instr.movusd gen1 gen2) s = perform (Instr.movusd gen1 gen2).length (moveSpaceBody .d .user .supervisor gen1 gen2) s :=
  performs (body := fun _ => moveSpaceBody .d .user .supervisor gen1 gen2) (length_two rfl rfl rfl rfl) rfl

theorem exec_movbf (gen1 gen2 : Gen) (s : State) :
    exec (Instr.movbf gen1 gen2) s = perform (Instr.movbf gen1 gen2).length (fpFromInt .b .f gen1 gen2) s :=
  performs (body := fun _ => fpFromInt .b .f gen1 gen2) (length_two rfl rfl rfl rfl) rfl

theorem exec_movbl (gen1 gen2 : Gen) (s : State) :
    exec (Instr.movbl gen1 gen2) s = perform (Instr.movbl gen1 gen2).length (fpFromInt .b .l gen1 gen2) s :=
  performs (body := fun _ => fpFromInt .b .l gen1 gen2) (length_two rfl rfl rfl rfl) rfl

theorem exec_movwf (gen1 gen2 : Gen) (s : State) :
    exec (Instr.movwf gen1 gen2) s = perform (Instr.movwf gen1 gen2).length (fpFromInt .w .f gen1 gen2) s :=
  performs (body := fun _ => fpFromInt .w .f gen1 gen2) (length_two rfl rfl rfl rfl) rfl

theorem exec_movwl (gen1 gen2 : Gen) (s : State) :
    exec (Instr.movwl gen1 gen2) s = perform (Instr.movwl gen1 gen2).length (fpFromInt .w .l gen1 gen2) s :=
  performs (body := fun _ => fpFromInt .w .l gen1 gen2) (length_two rfl rfl rfl rfl) rfl

theorem exec_movdf (gen1 gen2 : Gen) (s : State) :
    exec (Instr.movdf gen1 gen2) s = perform (Instr.movdf gen1 gen2).length (fpFromInt .d .f gen1 gen2) s :=
  performs (body := fun _ => fpFromInt .d .f gen1 gen2) (length_two rfl rfl rfl rfl) rfl

theorem exec_movdl (gen1 gen2 : Gen) (s : State) :
    exec (Instr.movdl gen1 gen2) s = perform (Instr.movdl gen1 gen2).length (fpFromInt .d .l gen1 gen2) s :=
  performs (body := fun _ => fpFromInt .d .l gen1 gen2) (length_two rfl rfl rfl rfl) rfl

theorem exec_roundfb (gen1 gen2 : Gen) (s : State) :
    exec (Instr.roundfb gen1 gen2) s = perform (Instr.roundfb gen1 gen2).length (fpToInt roundInt .f .b gen1 gen2) s :=
  performs (body := fun _ => fpToInt roundInt .f .b gen1 gen2) (length_two rfl rfl rfl rfl) rfl

theorem exec_roundfw (gen1 gen2 : Gen) (s : State) :
    exec (Instr.roundfw gen1 gen2) s = perform (Instr.roundfw gen1 gen2).length (fpToInt roundInt .f .w gen1 gen2) s :=
  performs (body := fun _ => fpToInt roundInt .f .w gen1 gen2) (length_two rfl rfl rfl rfl) rfl

theorem exec_roundfd (gen1 gen2 : Gen) (s : State) :
    exec (Instr.roundfd gen1 gen2) s = perform (Instr.roundfd gen1 gen2).length (fpToInt roundInt .f .d gen1 gen2) s :=
  performs (body := fun _ => fpToInt roundInt .f .d gen1 gen2) (length_two rfl rfl rfl rfl) rfl

theorem exec_roundlb (gen1 gen2 : Gen) (s : State) :
    exec (Instr.roundlb gen1 gen2) s = perform (Instr.roundlb gen1 gen2).length (fpToInt roundInt .l .b gen1 gen2) s :=
  performs (body := fun _ => fpToInt roundInt .l .b gen1 gen2) (length_two rfl rfl rfl rfl) rfl

theorem exec_roundlw (gen1 gen2 : Gen) (s : State) :
    exec (Instr.roundlw gen1 gen2) s = perform (Instr.roundlw gen1 gen2).length (fpToInt roundInt .l .w gen1 gen2) s :=
  performs (body := fun _ => fpToInt roundInt .l .w gen1 gen2) (length_two rfl rfl rfl rfl) rfl

theorem exec_roundld (gen1 gen2 : Gen) (s : State) :
    exec (Instr.roundld gen1 gen2) s = perform (Instr.roundld gen1 gen2).length (fpToInt roundInt .l .d gen1 gen2) s :=
  performs (body := fun _ => fpToInt roundInt .l .d gen1 gen2) (length_two rfl rfl rfl rfl) rfl

theorem exec_truncfb (gen1 gen2 : Gen) (s : State) :
    exec (Instr.truncfb gen1 gen2) s = perform (Instr.truncfb gen1 gen2).length (fpToInt truncInt .f .b gen1 gen2) s :=
  performs (body := fun _ => fpToInt truncInt .f .b gen1 gen2) (length_two rfl rfl rfl rfl) rfl

theorem exec_truncfw (gen1 gen2 : Gen) (s : State) :
    exec (Instr.truncfw gen1 gen2) s = perform (Instr.truncfw gen1 gen2).length (fpToInt truncInt .f .w gen1 gen2) s :=
  performs (body := fun _ => fpToInt truncInt .f .w gen1 gen2) (length_two rfl rfl rfl rfl) rfl

theorem exec_truncfd (gen1 gen2 : Gen) (s : State) :
    exec (Instr.truncfd gen1 gen2) s = perform (Instr.truncfd gen1 gen2).length (fpToInt truncInt .f .d gen1 gen2) s :=
  performs (body := fun _ => fpToInt truncInt .f .d gen1 gen2) (length_two rfl rfl rfl rfl) rfl

theorem exec_trunclb (gen1 gen2 : Gen) (s : State) :
    exec (Instr.trunclb gen1 gen2) s = perform (Instr.trunclb gen1 gen2).length (fpToInt truncInt .l .b gen1 gen2) s :=
  performs (body := fun _ => fpToInt truncInt .l .b gen1 gen2) (length_two rfl rfl rfl rfl) rfl

theorem exec_trunclw (gen1 gen2 : Gen) (s : State) :
    exec (Instr.trunclw gen1 gen2) s = perform (Instr.trunclw gen1 gen2).length (fpToInt truncInt .l .w gen1 gen2) s :=
  performs (body := fun _ => fpToInt truncInt .l .w gen1 gen2) (length_two rfl rfl rfl rfl) rfl

theorem exec_truncld (gen1 gen2 : Gen) (s : State) :
    exec (Instr.truncld gen1 gen2) s = perform (Instr.truncld gen1 gen2).length (fpToInt truncInt .l .d gen1 gen2) s :=
  performs (body := fun _ => fpToInt truncInt .l .d gen1 gen2) (length_two rfl rfl rfl rfl) rfl

theorem exec_floorfb (gen1 gen2 : Gen) (s : State) :
    exec (Instr.floorfb gen1 gen2) s = perform (Instr.floorfb gen1 gen2).length (fpToInt floorInt .f .b gen1 gen2) s :=
  performs (body := fun _ => fpToInt floorInt .f .b gen1 gen2) (length_two rfl rfl rfl rfl) rfl

theorem exec_floorfw (gen1 gen2 : Gen) (s : State) :
    exec (Instr.floorfw gen1 gen2) s = perform (Instr.floorfw gen1 gen2).length (fpToInt floorInt .f .w gen1 gen2) s :=
  performs (body := fun _ => fpToInt floorInt .f .w gen1 gen2) (length_two rfl rfl rfl rfl) rfl

theorem exec_floorfd (gen1 gen2 : Gen) (s : State) :
    exec (Instr.floorfd gen1 gen2) s = perform (Instr.floorfd gen1 gen2).length (fpToInt floorInt .f .d gen1 gen2) s :=
  performs (body := fun _ => fpToInt floorInt .f .d gen1 gen2) (length_two rfl rfl rfl rfl) rfl

theorem exec_floorlb (gen1 gen2 : Gen) (s : State) :
    exec (Instr.floorlb gen1 gen2) s = perform (Instr.floorlb gen1 gen2).length (fpToInt floorInt .l .b gen1 gen2) s :=
  performs (body := fun _ => fpToInt floorInt .l .b gen1 gen2) (length_two rfl rfl rfl rfl) rfl

theorem exec_floorlw (gen1 gen2 : Gen) (s : State) :
    exec (Instr.floorlw gen1 gen2) s = perform (Instr.floorlw gen1 gen2).length (fpToInt floorInt .l .w gen1 gen2) s :=
  performs (body := fun _ => fpToInt floorInt .l .w gen1 gen2) (length_two rfl rfl rfl rfl) rfl

theorem exec_floorld (gen1 gen2 : Gen) (s : State) :
    exec (Instr.floorld gen1 gen2) s = perform (Instr.floorld gen1 gen2).length (fpToInt floorInt .l .d gen1 gen2) s :=
  performs (body := fun _ => fpToInt floorInt .l .d gen1 gen2) (length_two rfl rfl rfl rfl) rfl

theorem exec_movlf (gen1 gen2 : Gen) (s : State) :
    exec (Instr.movlf gen1 gen2) s = perform (Instr.movlf gen1 gen2).length (movlfBody gen1 gen2) s :=
  performs (body := fun _ => movlfBody gen1 gen2) (length_two rfl rfl rfl rfl) rfl

theorem exec_movfl (gen1 gen2 : Gen) (s : State) :
    exec (Instr.movfl gen1 gen2) s = perform (Instr.movfl gen1 gen2).length (movflBody gen1 gen2) s :=
  performs (body := fun _ => movflBody gen1 gen2) (length_two rfl rfl rfl rfl) rfl

theorem exec_lfsr (gen : Gen) (unused : BitVec 5) (s : State) :
    exec (Instr.lfsr gen unused) s = perform (Instr.lfsr gen unused).length (lfsrBody gen unused) s :=
  performs (body := fun _ => lfsrBody gen unused) (length_one rfl rfl rfl rfl) rfl

theorem exec_sfsr (gen : Gen) (unused : BitVec 5) (s : State) :
    exec (Instr.sfsr gen unused) s = perform (Instr.sfsr gen unused).length (sfsrBody gen unused) s :=
  performs (body := fun _ => sfsrBody gen unused) (length_one rfl rfl rfl rfl) rfl

theorem exec_addf (gen1 gen2 : Gen) (s : State) :
    exec (Instr.addf gen1 gen2) s = perform (Instr.addf gen1 gen2).length (fpArith .add .f gen1 gen2) s :=
  performs (body := fun _ => fpArith .add .f gen1 gen2) (length_two rfl rfl rfl rfl) rfl

theorem exec_addl (gen1 gen2 : Gen) (s : State) :
    exec (Instr.addl gen1 gen2) s = perform (Instr.addl gen1 gen2).length (fpArith .add .l gen1 gen2) s :=
  performs (body := fun _ => fpArith .add .l gen1 gen2) (length_two rfl rfl rfl rfl) rfl

theorem exec_movf (gen1 gen2 : Gen) (s : State) :
    exec (Instr.movf gen1 gen2) s = perform (Instr.movf gen1 gen2).length (fpMove .f gen1 gen2) s :=
  performs (body := fun _ => fpMove .f gen1 gen2) (length_two rfl rfl rfl rfl) rfl

theorem exec_movl (gen1 gen2 : Gen) (s : State) :
    exec (Instr.movl gen1 gen2) s = perform (Instr.movl gen1 gen2).length (fpMove .l gen1 gen2) s :=
  performs (body := fun _ => fpMove .l gen1 gen2) (length_two rfl rfl rfl rfl) rfl

theorem exec_cmpf (gen1 gen2 : Gen) (s : State) :
    exec (Instr.cmpf gen1 gen2) s = perform (Instr.cmpf gen1 gen2).length (fpCompare .f gen1 gen2) s :=
  performs (body := fun _ => fpCompare .f gen1 gen2) (length_two rfl rfl rfl rfl) rfl

theorem exec_cmpl (gen1 gen2 : Gen) (s : State) :
    exec (Instr.cmpl gen1 gen2) s = perform (Instr.cmpl gen1 gen2).length (fpCompare .l gen1 gen2) s :=
  performs (body := fun _ => fpCompare .l gen1 gen2) (length_two rfl rfl rfl rfl) rfl

theorem exec_subf (gen1 gen2 : Gen) (s : State) :
    exec (Instr.subf gen1 gen2) s = perform (Instr.subf gen1 gen2).length (fpArith .sub .f gen1 gen2) s :=
  performs (body := fun _ => fpArith .sub .f gen1 gen2) (length_two rfl rfl rfl rfl) rfl

theorem exec_subl (gen1 gen2 : Gen) (s : State) :
    exec (Instr.subl gen1 gen2) s = perform (Instr.subl gen1 gen2).length (fpArith .sub .l gen1 gen2) s :=
  performs (body := fun _ => fpArith .sub .l gen1 gen2) (length_two rfl rfl rfl rfl) rfl

theorem exec_negf (gen1 gen2 : Gen) (s : State) :
    exec (Instr.negf gen1 gen2) s = perform (Instr.negf gen1 gen2).length (fpSign not .f gen1 gen2) s :=
  performs (body := fun _ => fpSign not .f gen1 gen2) (length_two rfl rfl rfl rfl) rfl

theorem exec_negl (gen1 gen2 : Gen) (s : State) :
    exec (Instr.negl gen1 gen2) s = perform (Instr.negl gen1 gen2).length (fpSign not .l gen1 gen2) s :=
  performs (body := fun _ => fpSign not .l gen1 gen2) (length_two rfl rfl rfl rfl) rfl

theorem exec_divf (gen1 gen2 : Gen) (s : State) :
    exec (Instr.divf gen1 gen2) s = perform (Instr.divf gen1 gen2).length (fpArith .div .f gen1 gen2) s :=
  performs (body := fun _ => fpArith .div .f gen1 gen2) (length_two rfl rfl rfl rfl) rfl

theorem exec_divl (gen1 gen2 : Gen) (s : State) :
    exec (Instr.divl gen1 gen2) s = perform (Instr.divl gen1 gen2).length (fpArith .div .l gen1 gen2) s :=
  performs (body := fun _ => fpArith .div .l gen1 gen2) (length_two rfl rfl rfl rfl) rfl

theorem exec_mulf (gen1 gen2 : Gen) (s : State) :
    exec (Instr.mulf gen1 gen2) s = perform (Instr.mulf gen1 gen2).length (fpArith .mul .f gen1 gen2) s :=
  performs (body := fun _ => fpArith .mul .f gen1 gen2) (length_two rfl rfl rfl rfl) rfl

theorem exec_mull (gen1 gen2 : Gen) (s : State) :
    exec (Instr.mull gen1 gen2) s = perform (Instr.mull gen1 gen2).length (fpArith .mul .l gen1 gen2) s :=
  performs (body := fun _ => fpArith .mul .l gen1 gen2) (length_two rfl rfl rfl rfl) rfl

theorem exec_absf (gen1 gen2 : Gen) (s : State) :
    exec (Instr.absf gen1 gen2) s = perform (Instr.absf gen1 gen2).length (fpSign (fun _ => false) .f gen1 gen2) s :=
  performs (body := fun _ => fpSign (fun _ => false) .f gen1 gen2) (length_two rfl rfl rfl rfl) rfl

theorem exec_absl (gen1 gen2 : Gen) (s : State) :
    exec (Instr.absl gen1 gen2) s = perform (Instr.absl gen1 gen2).length (fpSign (fun _ => false) .l gen1 gen2) s :=
  performs (body := fun _ => fpSign (fun _ => false) .l gen1 gen2) (length_two rfl rfl rfl rfl) rfl

theorem exec_rdval (loc : Gen) (unused : BitVec 5) (s : State) :
    exec (Instr.rdval loc unused) s = perform (Instr.rdval loc unused).length (validateBody .read loc unused) s :=
  performs (body := fun _ => validateBody .read loc unused) (length_one rfl rfl rfl rfl) rfl

theorem exec_wrval (loc : Gen) (unused : BitVec 5) (s : State) :
    exec (Instr.wrval loc unused) s = perform (Instr.wrval loc unused).length (validateBody .write loc unused) s :=
  performs (body := fun _ => validateBody .write loc unused) (length_one rfl rfl rfl rfl) rfl

theorem exec_lmr (mmureg : BitVec 4) (gen : Gen) (unused : BitVec 1) (s : State) :
    exec (Instr.lmr mmureg gen unused) s = perform (Instr.lmr mmureg gen unused).length (lmrBody mmureg gen unused) s :=
  performs (body := fun _ => lmrBody mmureg gen unused) (length_one rfl rfl rfl rfl) rfl

theorem exec_smr (mmureg : BitVec 4) (gen : Gen) (unused : BitVec 1) (s : State) :
    exec (Instr.smr mmureg gen unused) s = perform (Instr.smr mmureg gen unused).length (smrBody mmureg gen unused) s :=
  performs (body := fun _ => smrBody mmureg gen unused) (length_one rfl rfl rfl rfl) rfl

theorem exec_custom16 (s : State) :
    exec Instr.custom16 s = perform Instr.custom16.length (customBody true) s :=
  performs (body := fun _ => customBody true) (length_fixed rfl rfl rfl rfl) rfl

theorem exec_custom36 (s : State) :
    exec Instr.custom36 s = perform Instr.custom36.length (customBody false) s :=
  performs (body := fun _ => customBody false) (length_fixed rfl rfl rfl rfl) rfl

theorem exec_customB6 (s : State) :
    exec Instr.customB6 s = perform Instr.customB6.length (customBody false) s :=
  performs (body := fun _ => customBody false) (length_fixed rfl rfl rfl rfl) rfl

theorem exec_und7E (s : State) :
    exec Instr.und7E s = perform Instr.und7E.length (raise .und) s :=
  performs (body := fun _ => raise .und) (length_fixed rfl rfl rfl rfl) rfl

theorem exec_undFE (s : State) :
    exec Instr.undFE s = perform Instr.undFE.length (raise .und) s :=
  performs (body := fun _ => raise .und) (length_fixed rfl rfl rfl rfl) rfl

theorem exec_und9E (s : State) :
    exec Instr.und9E s = perform Instr.und9E.length (raise .und) s :=
  performs (body := fun _ => raise .und) (length_fixed rfl rfl rfl rfl) rfl

theorem exec_und5E (s : State) :
    exec Instr.und5E s = perform Instr.und5E.length (raise .und) s :=
  performs (body := fun _ => raise .und) (length_fixed rfl rfl rfl rfl) rfl

theorem exec_undDE (s : State) :
    exec Instr.undDE s = perform Instr.undDE.length (raise .und) s :=
  performs (body := fun _ => raise .und) (length_fixed rfl rfl rfl rfl) rfl

theorem exec_und8E (s : State) :
    exec Instr.und8E s = perform Instr.und8E.length (raise .und) s :=
  performs (body := fun _ => raise .und) (length_fixed rfl rfl rfl rfl) rfl

theorem exec_undX6Other (raw : Byte) (s : State) :
    exec (Instr.undX6Other raw) s = perform (Instr.undX6Other raw).length (raise .und) s :=
  performs (body := fun _ => raise .und) (length_fixed rfl rfl rfl rfl) rfl

theorem exec_undF3Op1000B (raw : Word) (s : State) :
    exec (Instr.undF3Op1000B raw) s = perform (Instr.undF3Op1000B raw).length (raise .und) s :=
  performs (body := fun _ => raise .und) (length_fixed rfl rfl rfl rfl) rfl

theorem exec_undF3OpOddB (raw : Word) (s : State) :
    exec (Instr.undF3OpOddB raw) s = perform (Instr.undF3OpOddB raw).length (raise .und) s :=
  performs (body := fun _ => raise .und) (length_fixed rfl rfl rfl rfl) rfl

theorem exec_undCXPDIB (raw : Word) (s : State) :
    exec (Instr.undCXPDIB raw) s = perform (Instr.undCXPDIB raw).length (raise .und) s :=
  performs (body := fun _ => raise .und) (length_fixed rfl rfl rfl rfl) rfl

theorem exec_undJUMPIB (raw : Word) (s : State) :
    exec (Instr.undJUMPIB raw) s = perform (Instr.undJUMPIB raw).length (raise .und) s :=
  performs (body := fun _ => raise .und) (length_fixed rfl rfl rfl rfl) rfl

theorem exec_undJSRIB (raw : Word) (s : State) :
    exec (Instr.undJSRIB raw) s = perform (Instr.undJSRIB raw).length (raise .und) s :=
  performs (body := fun _ => raise .und) (length_fixed rfl rfl rfl rfl) rfl

theorem exec_undF3Op1000W (raw : Word) (s : State) :
    exec (Instr.undF3Op1000W raw) s = perform (Instr.undF3Op1000W raw).length (raise .und) s :=
  performs (body := fun _ => raise .und) (length_fixed rfl rfl rfl rfl) rfl

theorem exec_undF3OpOddW (raw : Word) (s : State) :
    exec (Instr.undF3OpOddW raw) s = perform (Instr.undF3OpOddW raw).length (raise .und) s :=
  performs (body := fun _ => raise .und) (length_fixed rfl rfl rfl rfl) rfl

theorem exec_undCXPDIW (raw : Word) (s : State) :
    exec (Instr.undCXPDIW raw) s = perform (Instr.undCXPDIW raw).length (raise .und) s :=
  performs (body := fun _ => raise .und) (length_fixed rfl rfl rfl rfl) rfl

theorem exec_undJUMPIW (raw : Word) (s : State) :
    exec (Instr.undJUMPIW raw) s = perform (Instr.undJUMPIW raw).length (raise .und) s :=
  performs (body := fun _ => raise .und) (length_fixed rfl rfl rfl rfl) rfl

theorem exec_undJSRIW (raw : Word) (s : State) :
    exec (Instr.undJSRIW raw) s = perform (Instr.undJSRIW raw).length (raise .und) s :=
  performs (body := fun _ => raise .und) (length_fixed rfl rfl rfl rfl) rfl

theorem exec_undF3Op1000D (raw : Word) (s : State) :
    exec (Instr.undF3Op1000D raw) s = perform (Instr.undF3Op1000D raw).length (raise .und) s :=
  performs (body := fun _ => raise .und) (length_fixed rfl rfl rfl rfl) rfl

theorem exec_undF3OpOddD (raw : Word) (s : State) :
    exec (Instr.undF3OpOddD raw) s = perform (Instr.undF3OpOddD raw).length (raise .und) s :=
  performs (body := fun _ => raise .und) (length_fixed rfl rfl rfl rfl) rfl

theorem exec_undBICPSRD (raw : Word) (s : State) :
    exec (Instr.undBICPSRD raw) s = perform (Instr.undBICPSRD raw).length (raise .und) s :=
  performs (body := fun _ => raise .und) (length_fixed rfl rfl rfl rfl) rfl

theorem exec_undBISPSRD (raw : Word) (s : State) :
    exec (Instr.undBISPSRD raw) s = perform (Instr.undBISPSRD raw).length (raise .und) s :=
  performs (body := fun _ => raise .und) (length_fixed rfl rfl rfl rfl) rfl

theorem exec_undADDRIB (raw : Word) (s : State) :
    exec (Instr.undADDRIB raw) s = perform (Instr.undADDRIB raw).length (raise .und) s :=
  performs (body := fun _ => raise .und) (length_fixed rfl rfl rfl rfl) rfl

theorem exec_undADDRIW (raw : Word) (s : State) :
    exec (Instr.undADDRIW raw) s = perform (Instr.undADDRIW raw).length (raise .und) s :=
  performs (body := fun _ => raise .und) (length_fixed rfl rfl rfl rfl) rfl

theorem exec_undF5Op1xxx (raw : BitVec 24) (s : State) :
    exec (Instr.undF5Op1xxx raw) s = perform (Instr.undF5Op1xxx raw).length (raise .und) s :=
  performs (body := fun _ => raise .und) (length_fixed rfl rfl rfl rfl) rfl

theorem exec_undF5OpX1xx (raw : BitVec 24) (s : State) :
    exec (Instr.undF5OpX1xx raw) s = perform (Instr.undF5OpX1xx raw).length (raise .und) s :=
  performs (body := fun _ => raise .und) (length_fixed rfl rfl rfl rfl) rfl

theorem exec_undSETCFGI (raw : BitVec 24) (s : State) :
    exec (Instr.undSETCFGI raw) s = perform (Instr.undSETCFGI raw).length (raise .und) s :=
  performs (body := fun _ => raise .und) (length_fixed rfl rfl rfl rfl) rfl

theorem exec_faultF5TI (raw : BitVec 24) (s : State) :
    exec (Instr.faultF5TI raw) s = perform (Instr.faultF5TI raw).length (stop .translateLength) s :=
  performs (body := fun _ => stop .translateLength) (length_fixed rfl rfl rfl rfl) rfl

theorem exec_faultF5I10 (raw : BitVec 24) (s : State) :
    exec (Instr.faultF5I10 raw) s = perform (Instr.faultF5I10 raw).length (stop .lengthField) s :=
  performs (body := fun _ => stop .lengthField) (length_fixed rfl rfl rfl rfl) rfl

theorem exec_undF6Op0100 (raw : BitVec 24) (s : State) :
    exec (Instr.undF6Op0100 raw) s = perform (Instr.undF6Op0100 raw).length (raise .und) s :=
  performs (body := fun _ => raise .und) (length_fixed rfl rfl rfl rfl) rfl

theorem exec_undF6Op1010 (raw : BitVec 24) (s : State) :
    exec (Instr.undF6Op1010 raw) s = perform (Instr.undF6Op1010 raw).length (raise .und) s :=
  performs (body := fun _ => raise .und) (length_fixed rfl rfl rfl rfl) rfl

theorem exec_faultF6I10 (raw : BitVec 24) (s : State) :
    exec (Instr.faultF6I10 raw) s = perform (Instr.faultF6I10 raw).length (stop .lengthField) s :=
  performs (body := fun _ => stop .lengthField) (length_fixed rfl rfl rfl rfl) rfl

theorem exec_undF7Op1010 (raw : BitVec 24) (s : State) :
    exec (Instr.undF7Op1010 raw) s = perform (Instr.undF7Op1010 raw).length (raise .und) s :=
  performs (body := fun _ => raise .und) (length_fixed rfl rfl rfl rfl) rfl

theorem exec_undMOVXBWI (raw : BitVec 24) (s : State) :
    exec (Instr.undMOVXBWI raw) s = perform (Instr.undMOVXBWI raw).length (raise .und) s :=
  performs (body := fun _ => raise .und) (length_fixed rfl rfl rfl rfl) rfl

theorem exec_undMOVZBWI (raw : BitVec 24) (s : State) :
    exec (Instr.undMOVZBWI raw) s = perform (Instr.undMOVZBWI raw).length (raise .und) s :=
  performs (body := fun _ => raise .und) (length_fixed rfl rfl rfl rfl) rfl

theorem exec_undMOVZiDD (raw : BitVec 24) (s : State) :
    exec (Instr.undMOVZiDD raw) s = perform (Instr.undMOVZiDD raw).length (raise .und) s :=
  performs (body := fun _ => raise .und) (length_fixed rfl rfl rfl rfl) rfl

theorem exec_undMOVXiDD (raw : BitVec 24) (s : State) :
    exec (Instr.undMOVXiDD raw) s = perform (Instr.undMOVXiDD raw).length (raise .und) s :=
  performs (body := fun _ => raise .und) (length_fixed rfl rfl rfl rfl) rfl

theorem exec_faultF7I10 (raw : BitVec 24) (s : State) :
    exec (Instr.faultF7I10 raw) s = perform (Instr.faultF7I10 raw).length (stop .lengthField) s :=
  performs (body := fun _ => stop .lengthField) (length_fixed rfl rfl rfl rfl) rfl

theorem exec_undF8Op111 (raw : BitVec 24) (s : State) :
    exec (Instr.undF8Op111 raw) s = perform (Instr.undF8Op111 raw).length (raise .und) s :=
  performs (body := fun _ => raise .und) (length_fixed rfl rfl rfl rfl) rfl

theorem exec_undCVTPI (raw : BitVec 24) (s : State) :
    exec (Instr.undCVTPI raw) s = perform (Instr.undCVTPI raw).length (raise .und) s :=
  performs (body := fun _ => raise .und) (length_fixed rfl rfl rfl rfl) rfl

theorem exec_undF8Op110Reg000 (raw : BitVec 24) (s : State) :
    exec (Instr.undF8Op110Reg000 raw) s = perform (Instr.undF8Op110Reg000 raw).length (raise .und) s :=
  performs (body := fun _ => raise .und) (length_fixed rfl rfl rfl rfl) rfl

theorem exec_undF8Op110Reg010 (raw : BitVec 24) (s : State) :
    exec (Instr.undF8Op110Reg010 raw) s = perform (Instr.undF8Op110Reg010 raw).length (raise .und) s :=
  performs (body := fun _ => raise .und) (length_fixed rfl rfl rfl rfl) rfl

theorem exec_undF8Op110Reg100 (raw : BitVec 24) (s : State) :
    exec (Instr.undF8Op110Reg100 raw) s = perform (Instr.undF8Op110Reg100 raw).length (raise .und) s :=
  performs (body := fun _ => raise .und) (length_fixed rfl rfl rfl rfl) rfl

theorem exec_undF8Op110Reg101 (raw : BitVec 24) (s : State) :
    exec (Instr.undF8Op110Reg101 raw) s = perform (Instr.undF8Op110Reg101 raw).length (raise .und) s :=
  performs (body := fun _ => raise .und) (length_fixed rfl rfl rfl rfl) rfl

theorem exec_undF8Op110Reg110 (raw : BitVec 24) (s : State) :
    exec (Instr.undF8Op110Reg110 raw) s = perform (Instr.undF8Op110Reg110 raw).length (raise .und) s :=
  performs (body := fun _ => raise .und) (length_fixed rfl rfl rfl rfl) rfl

theorem exec_undF8Op110Reg111 (raw : BitVec 24) (s : State) :
    exec (Instr.undF8Op110Reg111 raw) s = perform (Instr.undF8Op110Reg111 raw).length (raise .und) s :=
  performs (body := fun _ => raise .und) (length_fixed rfl rfl rfl rfl) rfl

theorem exec_faultF8I10 (raw : BitVec 24) (s : State) :
    exec (Instr.faultF8I10 raw) s = perform (Instr.faultF8I10 raw).length (stop .lengthField) s :=
  performs (body := fun _ => stop .lengthField) (length_fixed rfl rfl rfl rfl) rfl

theorem exec_undLFSRFi (raw : BitVec 24) (s : State) :
    exec (Instr.undLFSRFi raw) s = perform (Instr.undLFSRFi raw).length (raise .und) s :=
  performs (body := fun _ => raise .und) (length_fixed rfl rfl rfl rfl) rfl

theorem exec_undMOVLFFi (raw : BitVec 24) (s : State) :
    exec (Instr.undMOVLFFi raw) s = perform (Instr.undMOVLFFi raw).length (raise .und) s :=
  performs (body := fun _ => raise .und) (length_fixed rfl rfl rfl rfl) rfl

theorem exec_undMOVFLFi (raw : BitVec 24) (s : State) :
    exec (Instr.undMOVFLFi raw) s = perform (Instr.undMOVFLFi raw).length (raise .und) s :=
  performs (body := fun _ => raise .und) (length_fixed rfl rfl rfl rfl) rfl

theorem exec_undSFSRFi (raw : BitVec 24) (s : State) :
    exec (Instr.undSFSRFi raw) s = perform (Instr.undSFSRFi raw).length (raise .und) s :=
  performs (body := fun _ => raise .und) (length_fixed rfl rfl rfl rfl) rfl

theorem exec_faultF9I10 (raw : BitVec 24) (s : State) :
    exec (Instr.faultF9I10 raw) s = perform (Instr.faultF9I10 raw).length format9Length s :=
  performs (body := fun _ => format9Length) (length_fixed rfl rfl rfl rfl) rfl

theorem exec_fpuILLEGAL0011 (raw : BitVec 24) (s : State) :
    exec (Instr.fpuILLEGAL0011 raw) s = perform (Instr.fpuILLEGAL0011 raw).length fpIllegal s :=
  performs (body := fun _ => fpIllegal) (length_fixed rfl rfl rfl rfl) rfl

theorem exec_fpuILLEGAL1001 (raw : BitVec 24) (s : State) :
    exec (Instr.fpuILLEGAL1001 raw) s = perform (Instr.fpuILLEGAL1001 raw).length fpIllegal s :=
  performs (body := fun _ => fpIllegal) (length_fixed rfl rfl rfl rfl) rfl

theorem exec_undF11Op011x (raw : BitVec 24) (s : State) :
    exec (Instr.undF11Op011x raw) s = perform (Instr.undF11Op011x raw).length (raise .und) s :=
  performs (body := fun _ => raise .und) (length_fixed rfl rfl rfl rfl) rfl

theorem exec_undF11Op101x (raw : BitVec 24) (s : State) :
    exec (Instr.undF11Op101x raw) s = perform (Instr.undF11Op101x raw).length (raise .und) s :=
  performs (body := fun _ => raise .und) (length_fixed rfl rfl rfl rfl) rfl

theorem exec_undF11Op111x (raw : BitVec 24) (s : State) :
    exec (Instr.undF11Op111x raw) s = perform (Instr.undF11Op111x raw).length (raise .und) s :=
  performs (body := fun _ => raise .und) (length_fixed rfl rfl rfl rfl) rfl

theorem exec_undF11Bit9 (raw : BitVec 24) (s : State) :
    exec (Instr.undF11Bit9 raw) s = perform (Instr.undF11Bit9 raw).length (raise .und) s :=
  performs (body := fun _ => raise .und) (length_fixed rfl rfl rfl rfl) rfl

theorem exec_undF14Op1xxx (raw : BitVec 24) (s : State) :
    exec (Instr.undF14Op1xxx raw) s = perform (Instr.undF14Op1xxx raw).length (raise .und) s :=
  performs (body := fun _ => raise .und) (length_fixed rfl rfl rfl rfl) rfl

theorem exec_undF14OpX1xx (raw : BitVec 24) (s : State) :
    exec (Instr.undF14OpX1xx raw) s = perform (Instr.undF14OpX1xx raw).length (raise .und) s :=
  performs (body := fun _ => raise .und) (length_fixed rfl rfl rfl rfl) rfl

theorem exec_undF14I (raw : BitVec 24) (s : State) :
    exec (Instr.undF14I raw) s = perform (Instr.undF14I raw).length (raise .und) s :=
  performs (body := fun _ => raise .und) (length_fixed rfl rfl rfl rfl) rfl

end Sys2Proof.Machine
end

