-- ==== Sys2Proof/Laws/Memory.lean ====
section
/-! SUPPORT. Memory reads after writes, and the canonical form, which every memory operation keeps. -/

namespace Sys2Proof.Machine

theorem Memory.read_filter_ne (m : List Host.Cell) (a p : Nat) :
    Memory.read (m.filter fun c => c.1 != a) p = if p = a then Memory.unlisted else Memory.read m p := by
  induction m with
  | nil => simp [Memory.read]
  | cons c m ih =>
    by_cases h : c.1 = a
    · have : (c.1 != a) = false := by simp [h]
      rw [List.filter_cons_of_neg (by simp [h]), ih]
      by_cases hp : p = a
      · simp [hp]
      · have : ¬ c.1 = p := by omega
        simp [Memory.read, hp, this]
    · rw [List.filter_cons_of_pos (by simp [h])]
      by_cases hp : c.1 = p
      · have : ¬ p = a := by omega
        simp [Memory.read, hp, this]
      · simp [Memory.read, hp, ih]

theorem Memory.read_insert (m : List Host.Cell) (a p : Nat) (v : Byte) (h : ∀ c ∈ m, c.1 ≠ a) :
    Memory.read (Memory.insert a v m) p = if p = a then v else Memory.read m p := by
  induction m with
  | nil => by_cases hp : p = a <;> simp [Memory.insert, Memory.read, hp]; intro e; exact absurd e.symm hp
  | cons c m ih =>
    have hc : c.1 ≠ a := h c (by simp)
    have ih := ih fun d hd => h d (by simp [hd])
    by_cases hlt : a < c.1
    · by_cases hp : p = a
      · simp [Memory.insert, hlt, Memory.read, hp]
      · have : ¬ a = p := fun e => hp e.symm
        simp [Memory.insert, hlt, Memory.read, hp, this]
    · simp only [Memory.insert, hlt, ite_false, Memory.read]
      by_cases hp : c.1 = p
      · have : ¬ p = a := by omega
        simp [hp, this]
      · simp [hp, ih]

/-- A byte read after one is written: the written byte at that address, the old one at every other. -/
theorem Memory.read_write (m : List Host.Cell) (a p : Nat) (v : Byte) :
    Memory.read (Memory.write m a v) p = if p = a then v else Memory.read m p := by
  simp only [Memory.write]
  split
  · rename_i hv
    rw [Memory.read_filter_ne, hv]
  · rw [Memory.read_insert _ _ _ _ (by simp), Memory.read_filter_ne]
    by_cases hp : p = a <;> simp [hp]

@[simp] theorem Memory.read_write_same (m : List Host.Cell) (a : Nat) (v : Byte) :
    Memory.read (Memory.write m a v) a = v := by simp [Memory.read_write]

theorem Memory.read_write_other (m : List Host.Cell) (a p : Nat) (v : Byte) (h : p ≠ a) :
    Memory.read (Memory.write m a v) p = Memory.read m p := by simp [Memory.read_write, h]

/-! ### The canonical form -/

theorem Memory.rising_iff (m : List Host.Cell) : Memory.rising m = true ↔ m.Pairwise fun c d => c.1 < d.1 := by
  induction m with
  | nil => simp [Memory.rising]
  | cons c m ih =>
    cases m with
    | nil => simp [Memory.rising]
    | cons d m =>
      simp only [Memory.rising, Bool.and_eq_true, decide_eq_true_eq, ih, List.pairwise_cons]
      constructor
      · rintro ⟨h, h1, h2⟩
        refine ⟨?_, h1, h2⟩
        intro e he
        rcases List.mem_cons.mp he with rfl | he
        · exact h
        · exact h.trans (h1 e he)
      · rintro ⟨h, h1, h2⟩
        exact ⟨h d (by simp), h1, h2⟩

theorem Memory.mem_insert (m : List Host.Cell) (a : Nat) (v : Byte) (c : Host.Cell) :
    c ∈ Memory.insert a v m ↔ c = (a, v) ∨ c ∈ m := by
  induction m with
  | nil => simp [Memory.insert]
  | cons d m ih =>
    simp only [Memory.insert]
    split
    · simp
    · simp only [List.mem_cons, ih]
      tauto

theorem Memory.insert_pairwise (m : List Host.Cell) (a : Nat) (v : Byte) (h : m.Pairwise fun c d => c.1 < d.1)
    (ha : ∀ c ∈ m, c.1 ≠ a) : (Memory.insert a v m).Pairwise fun c d => c.1 < d.1 := by
  induction m with
  | nil => simp [Memory.insert]
  | cons d m ih =>
    have hd := List.pairwise_cons.mp h
    have had : d.1 ≠ a := ha d (by simp)
    simp only [Memory.insert]
    split
    · rename_i hlt
      refine List.pairwise_cons.mpr ⟨?_, h⟩
      intro e he
      rcases List.mem_cons.mp he with rfl | he
      · exact hlt
      · exact Nat.lt_trans hlt (hd.1 e he)
    · refine List.pairwise_cons.mpr ⟨?_, ih hd.2 fun c hc => ha c (by simp [hc])⟩
      intro e he
      rcases (Memory.mem_insert m a v e).mp he with rfl | he
      · show d.1 < a
        omega
      · exact hd.1 e he

/-- A write to an implemented address keeps the canonical form. -/
theorem Memory.wf_write (m : List Host.Cell) (a : Nat) (v : Byte) (h : Memory.wf m = true) (ha : a < 2 ^ 24) :
    Memory.wf (Memory.write m a v) = true := by
  simp only [Memory.wf, Bool.and_eq_true, Memory.rising_iff, List.all_eq_true] at h ⊢
  have hf : (m.filter fun c => c.1 != a).Pairwise fun c d => c.1 < d.1 := h.1.filter _
  simp only [Memory.write]
  split
  · exact ⟨hf, fun c hc => h.2 c (List.mem_of_mem_filter hc)⟩
  · rename_i hv
    refine ⟨Memory.insert_pairwise _ _ _ hf (by simp), fun c hc => ?_⟩
    rcases (Memory.mem_insert _ a v c).mp hc with rfl | hc
    · simp [hv]; omega
    · exact h.2 c (List.mem_of_mem_filter hc)

/-- A byte stored keeps the canonical form. -/
theorem State.wf_storeByte (s : State) (a : Nat) (v : Byte) (h : Memory.wf s.mem = true) (ha : a < 2 ^ 24) :
    Memory.wf (s.storeByte a v).mem = true := Memory.wf_write _ _ _ h ha

/-- The bytes of an instruction placed in memory keep the canonical form. -/
theorem wf_storeBytes (bs : List Byte) (a : Nat) (m : List Host.Cell) (h : Memory.wf m = true) :
    Memory.wf (storeBytes bs a m) = true := by
  induction bs generalizing a m with
  | nil => exact h
  | cons b bs ih =>
    refine ih _ _ ?_
    split
    · rename_i ha
      exact Memory.wf_write _ _ _ h ha
    · exact h

/-- The memory of the state after Reset is in canonical form. -/
theorem reset_memory_wf : Memory.wf State.reset.mem = true := rfl

end Sys2Proof.Machine
end

