-- ==== Sys2Proof/Laws/Operations.lean ====
section
/-! SUPPORT. For each shared operation, once, all it can do to the state when it succeeds: `Reads` for one that stores
nothing, `Stores` for one that stores bytes, and `Keeps` for operands. -/

namespace Sys2Proof.Machine

/-! ### Reads -/

/-- From `s` to `t` the environment has at most answered and seen reads and writes, free values have been drawn, and the MMU
has observed accesses, if it is active. -/
structure Reads (s t : State) : Prop where
  eq : t = { s with
    answers := t.answers, events := t.events, draws := t.draws, buffer := t.buffer,
    mmu := { s.mmu with bcnt := t.mmu.bcnt } }
  mmu : s.translating = false → t.mmu = s.mmu

@[refl] theorem Reads.refl (s : State) : Reads s s := ⟨rfl, fun _ => rfl⟩

theorem Reads.translating {s t : State} (h : Reads s t) : t.translating = s.translating := by
  rw [h.eq]
  rfl

theorem Reads.trans {s t u : State} (h : Reads s t) (k : Reads t u) : Reads s u := by
  refine ⟨?_, fun e => by rw [k.mmu (by rw [h.translating, e]), h.mmu e]⟩
  rw [k.eq, h.eq]

theorem draw_reads {s t : State} {v : QWord} (h : Gives draw s v t) : Reads s t := by
  obtain ⟨-, rfl⟩ := (gives_draw _ _ _).mp h
  exact ⟨rfl, fun _ => rfl⟩

theorem answer_reads {s t : State} {b : Byte} (h : Gives answer s b t) : Reads s t := by
  unfold answer at h
  simp only [gives_bind, gives_get] at h
  obtain ⟨a, u, ⟨rfl, rfl⟩, h⟩ := h
  split at h
  · simp only [gives_bind, gives_modify, gives_pure] at h
    obtain ⟨_, u, rfl, -, rfl⟩ := h
    exact ⟨rfl, fun _ => rfl⟩
  · simp only [gives_bind, gives_pure] at h
    obtain ⟨v, u, hd, -, rfl⟩ := h
    exact draw_reads hd

theorem emit_reads {e : Event} {s t : State} {v : PUnit} (h : Gives (emit e) s v t) : Reads s t := by
  obtain rfl := (gives_modify _ _ _ _).mp h
  exact ⟨rfl, fun _ => rfl⟩

/-- The MMU's part in an access that goes on. -/
theorem observe_gives {a : Addr} {n : Nat} {mode : Mode} {kind : AccessKind} {s t : State} {v : PUnit}
    (h : Gives (observe a n mode kind) s v t) :
    (s.translating = false ∧ t = s) ∨
      (s.translating = true ∧ ∃ c, Config.watch s.mmu a n mode kind = .goesOn c ∧ t = s.recordAccess a n mode kind c) := by
  unfold observe at h
  simp only [gives_bind, gives_get, gives_ite] at h
  obtain ⟨w, u, ⟨rfl, rfl⟩, ⟨ht, h⟩ | ⟨ht, h⟩⟩ := h
  · split at h
    · rename_i c e
      exact .inr ⟨ht, c, e, (gives_set _ _ _ _).mp h⟩
    · exact ((gives_refuse _ _ _ _).mp h).elim
  · exact .inl ⟨by simpa using ht, ((gives_pure _ _ _ _).mp h).2⟩

theorem observe_reads {a : Addr} {n : Nat} {mode : Mode} {kind : AccessKind} {s t : State} {v : PUnit}
    (h : Gives (observe a n mode kind) s v t) : Reads s t := by
  obtain ⟨-, rfl⟩ | ⟨ht, c, -, rfl⟩ := observe_gives h
  · exact Reads.refl _
  · exact ⟨rfl, fun e => by simp [e] at ht⟩

/-- A translation that succeeds changes nothing; for a store it answers the address the byte is stored at. -/
theorem physical_gives {a pa : Addr} {mode : Mode} {kind : AccessKind} {s t : State}
    (h : Gives (physical a mode kind) s pa t) :
    t = s ∧ (kind = .write → pa.toNat = s.storedAt mode a.toNat) := by
  unfold physical at h
  simp only [gives_bind, gives_get, gives_ite] at h
  obtain ⟨w, u, ⟨rfl, rfl⟩, ⟨ht, h⟩ | ⟨ht, h⟩⟩ := h
  · split at h
    · rename_i pa' e
      obtain ⟨rfl, rfl⟩ := (gives_pure _ _ _ _).mp h
      refine ⟨rfl, fun hk => ?_⟩
      subst hk
      simp [State.storedAt, ht, e]
    · simp only [gives_bind, gives_set, gives_raise] at h
      obtain ⟨_, _, _, h⟩ := h
      exact h.elim
  · obtain ⟨rfl, rfl⟩ := (gives_pure _ _ _ _).mp h
    refine ⟨rfl, fun _ => ?_⟩
    simp [State.storedAt, ht]

/-- The physical addresses of a store are those of `State.storedAt`. -/
theorem physicals_gives {mode : Mode} {kind : AccessKind} {n a : Nat} {s t : State} {pas : List Addr}
    (h : Gives (physicals mode kind a n) s pas t) :
    t = s ∧ (kind = .write → a + n ≤ 2 ^ 24 →
      pas.map BitVec.toNat = (List.range n).map fun k => s.storedAt mode (a + k)) := by
  induction n generalizing a pas t s with
  | zero =>
    obtain ⟨rfl, rfl⟩ := (gives_pure _ _ _ _).mp h
    simp
  | succ n ih =>
    simp only [physicals, gives_bind, gives_pure] at h
    obtain ⟨pa, u, h1, rest, u', h2, rfl, rfl⟩ := h
    obtain ⟨rfl, e1⟩ := physical_gives h1
    obtain ⟨rfl, e2⟩ := ih h2
    refine ⟨rfl, fun hk ha => ?_⟩
    rw [List.range_succ_eq_map, List.map_cons, List.map_cons, List.map_map, e1 hk, e2 hk (by omega)]
    have : a % 2 ^ 24 = a := Nat.mod_eq_of_lt (by omega)
    simp only [BitVec.toNat_ofNat, this, Nat.add_zero]
    congr 1
    apply List.map_congr_left
    intro k _
    simp only [Function.comp, Nat.succ_eq_add_one]
    rw [show a + 1 + k = a + (k + 1) by omega]

/-- The physical addresses of a store are those of the state in which it is made. -/
theorem access_gives {mode : Mode} {kind : AccessKind} {n a : Nat} {s t : State} {pas : List Addr}
    (h : Gives (access mode kind a n) s pas t) :
    ∃ v, Gives (observe (BitVec.ofNat 24 a) n mode kind) s v t ∧ (kind = .write → a + n ≤ 2 ^ 24 →
      pas.map BitVec.toNat = (List.range n).map fun k => s.storedAt mode (a + k)) := by
  simp only [access, gives_bind, gives_pure] at h
  obtain ⟨ps, u, h1, v, u', h2, rfl, rfl⟩ := h
  obtain ⟨rfl, e⟩ := physicals_gives h1
  exact ⟨v, h2, e⟩

theorem readByte_reads {pa : Addr} {s t : State} {b : Byte} (h : Gives (readByte pa) s b t) : Reads s t := by
  unfold readByte at h
  simp only [gives_bind, gives_get] at h
  obtain ⟨w, u, ⟨rfl, rfl⟩, h⟩ := h
  split at h
  · obtain ⟨-, rfl⟩ := (gives_pure _ _ _ _).mp h; exact Reads.refl _
  · obtain ⟨-, rfl⟩ := (gives_pure _ _ _ _).mp h; exact Reads.refl _
  · simp only [gives_bind, gives_pure] at h
    obtain ⟨b', u1, h1, _, u2, h2, -, rfl⟩ := h
    exact (answer_reads h1).trans (emit_reads h2)
  · exact ((gives_stop _ _ _ _).mp h).elim

theorem readBytes_reads {pas : List Addr} {s t : State} {v : QWord} (h : Gives (readBytes pas) s v t) : Reads s t := by
  induction pas generalizing s v t with
  | nil => obtain ⟨-, rfl⟩ := (gives_pure _ _ _ _).mp h; exact Reads.refl _
  | cons pa pas ih =>
    simp only [readBytes, gives_bind, gives_pure] at h
    obtain ⟨b, u1, h1, w, u2, h2, -, rfl⟩ := h
    exact (readByte_reads h1).trans (ih h2)

/-- A memory read stores nothing. -/
theorem memReadAs_reads {mode : Mode} {a : Int} {n : Nat} {s t : State} {v : QWord}
    (h : Gives (memReadAs mode a n) s v t) : Reads s t := by
  simp only [memReadAs, gives_bind, gives_ensure] at h
  obtain ⟨_, u, ⟨-, rfl⟩, pas, u2, h1, h2⟩ := h
  obtain ⟨_, h, -⟩ := access_gives h1
  exact (observe_reads h).trans (readBytes_reads h2)

theorem memRead_reads {a : Int} {n : Nat} {s t : State} {v : QWord} (h : Gives (memRead a n) s v t) : Reads s t := by
  simp only [memRead, gives_bind, gives_get] at h
  obtain ⟨w, u, ⟨rfl, rfl⟩, h⟩ := h
  exact memReadAs_reads h

theorem ioRead_reads {e : Addr → Byte → Event} {a : Int} {s t : State} {b : Byte} (h : Gives (ioRead e a) s b t) :
    Reads s t := by
  simp only [ioRead, gives_bind, gives_ensure, gives_get, gives_pure] at h
  obtain ⟨_, u, ⟨-, rfl⟩, w, u1, ⟨rfl, rfl⟩, pa, u2, h1, w', u3, ⟨rfl, rfl⟩, _, u4, h2, w'', u5, ⟨rfl, rfl⟩, _, u6,
    ⟨-, rfl⟩, b', u7, h3, _, u8, h4, -, rfl⟩ := h
  obtain ⟨rfl, -⟩ := physical_gives h1
  exact (observe_reads h2).trans ((answer_reads h3).trans (emit_reads h4))

/-! ### Stores -/

/-- From `s` to `t` bytes at the given physical addresses have been stored, the environment may have seen writes, and the
MMU has observed accesses, if it is active. -/
structure Stores (cells : List Nat) (s t : State) : Prop where
  eq : t = { s with
    mem := t.mem, queueDirty := t.queueDirty, events := t.events, buffer := t.buffer,
    mmu := { s.mmu with bcnt := t.mmu.bcnt } }
  mmu : s.translating = false → t.mmu = s.mmu
  others : ∀ a, a ∉ cells → Memory.read t.mem a = Memory.read s.mem a
  wf : Memory.wf s.mem = true → Memory.wf t.mem = true

theorem Stores.refl (cells : List Nat) (s : State) : Stores cells s s := ⟨rfl, fun _ => rfl, fun _ _ => rfl, id⟩

theorem Stores.translating {cells : List Nat} {s t : State} (h : Stores cells s t) : t.translating = s.translating := by
  rw [h.eq]
  rfl

theorem Stores.trans {c d : List Nat} {s t u : State} (h : Stores c s t) (k : Stores d t u) : Stores (c ++ d) s u := by
  refine ⟨?_, fun e => ?_, fun a ha => ?_, fun w => k.wf (h.wf w)⟩
  · rw [k.eq, h.eq]
  · rw [k.mmu (by rw [h.translating, e]), h.mmu e]
  · simp only [List.mem_append, not_or] at ha
    rw [k.others a ha.2, h.others a ha.1]

theorem observe_stores {a : Addr} {n : Nat} {mode : Mode} {kind : AccessKind} {s t : State} {v : PUnit}
    (h : Gives (observe a n mode kind) s v t) : Stores [] s t := by
  obtain ⟨-, rfl⟩ | ⟨ht, c, -, rfl⟩ := observe_gives h
  · exact Stores.refl _ _
  · exact ⟨rfl, fun e => by simp [e] at ht, fun _ _ => rfl, id⟩

theorem writeByte_stores {pa : Addr} {b : Byte} {s t : State} {v : PUnit} (h : Gives (writeByte pa b) s v t) :
    Stores [pa.toNat] s t := by
  unfold writeByte at h
  simp only [gives_bind, gives_get] at h
  obtain ⟨w, u, ⟨rfl, rfl⟩, h⟩ := h
  split at h
  · obtain rfl := (gives_set _ _ _ _).mp h
    refine ⟨rfl, fun _ => rfl, fun a ha => ?_, fun hw => ?_⟩
    · exact Memory.read_write_other _ _ _ _ (by simpa using ha)
    · exact State.wf_storeByte _ _ _ hw pa.isLt
  · obtain ⟨-, rfl⟩ := (gives_pure _ _ _ _).mp h
    exact Stores.refl _ _
  · simp only [gives_bind, gives_modify] at h
    obtain ⟨_, u, h1, rfl⟩ := h
    obtain rfl := (gives_modify _ _ _ _).mp h1
    exact ⟨rfl, fun _ => rfl, fun _ _ => rfl, id⟩
  · exact ((gives_stop _ _ _ _).mp h).elim

theorem writeBytes_stores {pas : List Addr} {x : QWord} {s t : State} {v : PUnit} (h : Gives (writeBytes pas x) s v t) :
    Stores (pas.map BitVec.toNat) s t := by
  induction pas generalizing s x t with
  | nil =>
    obtain ⟨-, rfl⟩ := (gives_pure _ _ _ _).mp h
    exact Stores.refl _ _
  | cons pa pas ih =>
    simp only [writeBytes, gives_bind] at h
    obtain ⟨_, u, h1, h2⟩ := h
    exact (writeByte_stores h1).trans (ih h2)

theorem inSpace_iff (a : Int) (n : Nat) : inSpace a n = true ↔ 0 ≤ a ∧ a + n ≤ 2 ^ 24 := by
  simp [inSpace]

/-- A memory write stores to the bytes of `State.cellsAt`. -/
theorem memWriteAs_stores {mode : Mode} {a : Int} {n : Nat} {x : QWord} {s t : State} {v : PUnit}
    (h : Gives (memWriteAs mode a n x) s v t) : Stores (s.cellsAt mode a n) s t := by
  simp only [memWriteAs, gives_bind, gives_ensure] at h
  obtain ⟨_, u, ⟨hs, rfl⟩, pas, u2, h1, h2⟩ := h
  obtain ⟨_, h, e⟩ := access_gives h1
  have := (inSpace_iff _ _).mp hs
  have e := e rfl (by omega)
  rw [State.cellsAt, ← e]
  exact (observe_stores h).trans (writeBytes_stores h2)

theorem memWrite_stores {a : Int} {n : Nat} {x : QWord} {s t : State} {v : PUnit} (h : Gives (memWrite a n x) s v t) :
    Stores (s.cellsAt s.mode a n) s t := by
  simp only [memWrite, gives_bind, gives_get] at h
  obtain ⟨w, u, ⟨rfl, rfl⟩, h⟩ := h
  exact memWriteAs_stores h

/-- Moving the selected stack pointer sets it to an address in the implemented space. -/
theorem moveSp_gives {a : Int} {s t : State} {v : PUnit} (h : Gives (moveSp a) s v t) :
    0 ≤ a ∧ a < 2 ^ 24 ∧ t = s.setSp (BitVec.ofInt 24 a) := by
  simp only [moveSp, gives_bind, gives_ensure, gives_modify] at h
  obtain ⟨_, u, ⟨hs, rfl⟩, rfl⟩ := h
  have := (inSpace_iff _ _).mp hs
  exact ⟨this.1, by omega, rfl⟩

theorem jumpTo_gives {a : Int} {s t : State} {v : PUnit} (h : Gives (jumpTo a) s v t) :
    0 ≤ a ∧ a < 2 ^ 24 ∧ t = { s with pc := BitVec.ofInt 24 a, queueDirty := [], flow := .nonSequential } := by
  simp only [jumpTo, gives_bind, gives_ensure, gives_modify] at h
  obtain ⟨_, u, ⟨hs, rfl⟩, rfl⟩ := h
  have := (inSpace_iff _ _).mp hs
  exact ⟨this.1, by omega, rfl⟩

/-- A pop reads and moves the selected stack pointer up. -/
theorem pop_gives {n : Nat} {s t : State} {v : QWord} (h : Gives (pop n) s v t) :
    ∃ u, Gives (memRead s.sp.toNat n) s v u ∧ s.sp.toNat + n < 2 ^ 24 ∧
      t = u.setSp (BitVec.ofNat 24 (s.sp.toNat + n)) := by
  simp only [pop, gives_bind, gives_get, gives_pure] at h
  obtain ⟨w, u, ⟨rfl, rfl⟩, x, u1, h1, w2, u2, ⟨e2, e3⟩, _, u3, h3, rfl, rfl⟩ := h
  subst e3
  subst e2
  have r := memRead_reads h1
  obtain ⟨h0, h2, rfl⟩ := moveSp_gives h3
  have e : w2.sp = u.sp := by rw [r.eq]; rfl
  refine ⟨w2, h1, by rw [e] at h2; omega, ?_⟩
  rw [e, ← Nat.cast_add, BitVec.ofInt_natCast]

/-- A push moves the selected stack pointer down, then stores there. -/
theorem pushSlot_gives {slot n : Nat} {x : QWord} {s t : State} {v : PUnit} (h : Gives (pushSlot slot n x) s v t) :
    slot ≤ s.sp.toNat ∧ s.sp.toNat - slot < 2 ^ 24 ∧
      Stores ((s.setSp (BitVec.ofNat 24 (s.sp.toNat - slot))).cellsAt s.mode (s.sp.toNat - slot : Nat) n)
        (s.setSp (BitVec.ofNat 24 (s.sp.toNat - slot))) t := by
  simp only [pushSlot, gives_bind, gives_get] at h
  obtain ⟨w, u, ⟨rfl, rfl⟩, _, u1, h1, w2, u2, ⟨rfl, rfl⟩, h3⟩ := h
  obtain ⟨h0, hlt, rfl⟩ := moveSp_gives h1
  have hs := memWrite_stores h3
  have e : ((u.sp.toNat : Int) - (slot : Int)) = ((u.sp.toNat - slot : Nat) : Int) := by omega
  rw [e, BitVec.ofInt_natCast] at hs
  have hlt' : u.sp.toNat - slot < 2 ^ 24 := by omega
  have m : (u.setSp (BitVec.ofNat 24 (u.sp.toNat - slot))).mode = u.mode := by simp [State.mode]
  rw [State.sp_setSp, m, BitVec.toNat_ofNat, Nat.mod_eq_of_lt hlt'] at hs
  exact ⟨by omega, hlt', hs⟩

/-! ### What is kept -/

theorem Keeps.refl (w : Touched) (s : State) : Keeps w s s := by
  constructor <;> intros <;> first | rfl | (split <;> rfl)

/-- A step that keeps more keeps less. -/
theorem Keeps.mono {w x : Touched} {s t : State} (h : Keeps w s t) (h1 : ∀ r ∈ w.regs, r ∈ x.regs)
    (h2 : ∀ r ∈ w.fregs, r ∈ x.fregs) (h3 : ∀ a ∈ w.cells, a ∈ x.cells) (h4 : ∀ k ∈ w.flags, k ∈ x.flags)
    (h5 : ∀ k ∈ w.special, k ∈ x.special) : Keeps x s t where
  regs r hr := h.regs r fun e => hr (h1 r e)
  fregs r hr := h.fregs r fun e => hr (h2 r e)
  cells a ha := h.cells a fun e => ha (h3 a e)
  flags k hk := h.flags k fun e => hk (h4 k e)
  sp hk := h.sp fun e => hk (h5 _ e)
  otherSp hk := h.otherSp fun e => hk (h5 _ e)
  fp hk := h.fp fun e => hk (h5 _ e)
  sb hk := h.sb fun e => hk (h5 _ e)
  mod hk := h.mod fun e => hk (h5 _ e)
  intbase hk := h.intbase fun e => hk (h5 _ e)
  cfg hk := h.cfg fun e => hk (h5 _ e)
  fsr hk := h.fsr fun e => hk (h5 _ e)
  mmu hk := h.mmu fun e => hk (h5 _ e)
  bcnt hk hc := h.bcnt (fun e => hk (h5 _ e)) fun e => hc (h5 _ e)
  platform := h.platform
  inputs := h.inputs
  nmi := h.nmi
  int := h.int

/-- Two steps one after the other, the first of which leaves PSR.S alone. -/
theorem Keeps.trans {w x : Touched} {s t u : State} (h : Keeps w s t) (k : Keeps x t u) (hS : bitS ∉ w.flags) :
    Keeps ⟨w.regs ++ x.regs, w.fregs ++ x.fregs, w.cells ++ x.cells, w.flags ++ x.flags, w.special ++ x.special⟩
      s u where
  regs r hr := by simp only [List.mem_append, not_or] at hr; rw [k.regs r hr.2, h.regs r hr.1]
  fregs r hr := by simp only [List.mem_append, not_or] at hr; rw [k.fregs r hr.2, h.fregs r hr.1]
  cells r hr := by simp only [List.mem_append, not_or] at hr; rw [k.cells r hr.2, h.cells r hr.1]
  flags r hr := by simp only [List.mem_append, not_or] at hr; rw [k.flags r hr.2, h.flags r hr.1]
  sp hr := by
    simp only [List.mem_append, not_or] at hr
    have a := h.sp hr.1
    have b := k.sp hr.2
    have c : t.flag bitS = s.flag bitS := h.flags bitS hS
    rw [c] at b
    split <;> simp_all
  otherSp hr := by
    simp only [List.mem_append, not_or] at hr
    have a := h.otherSp hr.1
    have b := k.otherSp hr.2
    have c : t.flag bitS = s.flag bitS := h.flags bitS hS
    rw [c] at b
    split <;> simp_all
  fp hr := by simp only [List.mem_append, not_or] at hr; rw [k.fp hr.2, h.fp hr.1]
  sb hr := by simp only [List.mem_append, not_or] at hr; rw [k.sb hr.2, h.sb hr.1]
  mod hr := by simp only [List.mem_append, not_or] at hr; rw [k.mod hr.2, h.mod hr.1]
  intbase hr := by simp only [List.mem_append, not_or] at hr; rw [k.intbase hr.2, h.intbase hr.1]
  cfg hr := by simp only [List.mem_append, not_or] at hr; rw [k.cfg hr.2, h.cfg hr.1]
  fsr hr := by simp only [List.mem_append, not_or] at hr; rw [k.fsr hr.2, h.fsr hr.1]
  mmu hr := by simp only [List.mem_append, not_or] at hr; rw [k.mmu hr.2, h.mmu hr.1]
  bcnt hr hc e := by
    simp only [List.mem_append, not_or] at hr hc
    have a := h.bcnt hr.1 hc.1 e
    have b : t.translating = s.translating := by
      unfold State.translating
      rw [a, h.cfg hc.1, h.platform]
    rw [k.bcnt hr.2 hc.2 (by rw [b, e]), a]
  platform := by rw [k.platform, h.platform]
  inputs := by rw [k.inputs, h.inputs]
  nmi := by rw [k.nmi, h.nmi]
  int := by rw [k.int, h.int]

/-- A step that only reads touches nothing. -/
theorem Reads.keeps {s t : State} (h : Reads s t) (w : Touched) : Keeps w s t := by
  have e := h.eq
  constructor
  case bcnt => exact fun _ _ => h.mmu
  all_goals
    intros
    rw [e]
    first | done | rfl | (split <;> rfl)

theorem Reads.pc {s t : State} (h : Reads s t) : t.pc = s.pc := by rw [h.eq]

/-- Moving the selected stack pointer touches nothing else. -/
theorem setSp_keeps (s : State) (a : Addr) : Keeps { special := [.sp] } s (s.setSp a) := by
  unfold State.setSp
  constructor <;> intros <;> (split <;> simp_all [State.reg, State.freg])

/-- Storing bytes touches nothing else. -/
theorem Stores.keeps {c : List Nat} {s t : State} (h : Stores c s t) : Keeps { cells := c } s t := by
  have o := h.others
  have e := h.eq
  constructor
  case cells => exact o
  case bcnt => exact fun _ _ => h.mmu
  all_goals
    intros
    first | (rw [e]; done) | (rw [e]; rfl) | (rw [e]; split <;> rfl)

theorem Stores.pc {c : List Nat} {s t : State} (h : Stores c s t) : t.pc = s.pc := by rw [h.eq]

theorem setReg_keeps (s : State) (r : Reg) (v : DWord) : Keeps { regs := [r] } s (s.setReg r v) := by
  constructor
  case regs =>
    intro q hq
    refine State.reg_setReg_ne s r q v fun e => hq ?_
    simp [e]
  all_goals
    intros
    first | rfl | (split <;> rfl)

theorem setFreg_keeps (s : State) (r : Reg) (v : DWord) : Keeps { fregs := [r] } s (s.setFreg r v) := by
  constructor
  case fregs =>
    intro q hq
    have : r ≠ q := fun e => hq (by simp [e])
    simp [State.freg_setFreg, this]
  all_goals
    intros
    first | rfl | (split <;> rfl)

/-- Setting a flag other than S touches nothing else. -/
theorem setFlag_keeps (s : State) (k : Nat) (b : Bool) (hk : k < 16) (_hS : k ≠ bitS) :
    Keeps { flags := [k] } s (s.setFlag k b) := by
  constructor
  case flags =>
    intro j hj
    have : j ≠ k := fun e => hj (by simp [e])
    show (putBit s.psr k b).getLsbD j = _
    rw [putBit_getLsbD _ _ _ _ hk]
    simp [this]
  all_goals
    intros
    first | rfl | (split <;> rfl)

theorem setCF_keeps (s : State) (c f : Bool) : Keeps { flags := [bitC, bitF] } s (s.setCF c f) :=
  (setFlag_keeps s bitC c (by decide) (by decide)).trans (setFlag_keeps (s.setFlag bitC c) bitF f (by decide) (by decide))
    (by decide)

theorem setZNL_keeps (s : State) (z n l : Bool) : Keeps { flags := [bitZ, bitN, bitL] } s (s.setZNL z n l) :=
  ((setFlag_keeps s bitZ z (by decide) (by decide)).trans
    (setFlag_keeps (s.setFlag bitZ z) bitN n (by decide) (by decide)) (by decide)).trans
    (setFlag_keeps ((s.setFlag bitZ z).setFlag bitN n) bitL l (by decide) (by decide)) (by decide)

/-! ### Operands -/

theorem dispValue_gives {d : Disp} {s t : State} {x : Int} (h : Gives (dispValue d) s x t) : x = d.value ∧ t = s := by
  simp only [dispValue, gives_bind, gives_ensure, gives_pure] at h
  obtain ⟨_, u, ⟨-, rfl⟩, rfl, rfl⟩ := h
  exact ⟨rfl, rfl⟩

theorem viaRegister_reads {b : Int} {d : Disp} {s t : State} {x : Int} (h : Gives (viaRegister b d) s x t) :
    x = b + d.value ∧ t = s := by
  simp only [viaRegister, gives_bind, gives_pure] at h
  obtain ⟨x1, u, h1, rfl, rfl⟩ := h
  obtain ⟨rfl, rfl⟩ := dispValue_gives h1
  exact ⟨rfl, rfl⟩

theorem viaPointer_reads {b : Int} {d1 d2 : Disp} {s t : State} {x : Int} (h : Gives (viaPointer b d1 d2) s x t) :
    Reads s t := by
  simp only [viaPointer, gives_bind, gives_pure] at h
  obtain ⟨x1, u, h1, x2, u2, h2, p, u3, h3, -, rfl⟩ := h
  obtain ⟨-, rfl⟩ := dispValue_gives h1
  obtain ⟨-, rfl⟩ := dispValue_gives h2
  exact memRead_reads h3

theorem moduleAddress_gives {m : Word} {s t : State} {x : Int} (h : Gives (moduleAddress m) s x t) :
    x = m.toNat ∧ m.toNat < 0xFFF1 ∧ t = s := by
  simp only [moduleAddress, gives_bind, gives_ensure, gives_pure, decide_eq_true_eq] at h
  obtain ⟨_, u, ⟨hm, rfl⟩, rfl, rfl⟩ := h
  exact ⟨rfl, hm, rfl⟩

theorem linkEntry_reads {i : Int} {s t : State} {x : QWord} (h : Gives (linkEntry i) s x t) : Reads s t := by
  simp only [linkEntry, gives_bind, gives_get] at h
  obtain ⟨w, u, ⟨rfl, rfl⟩, m, u1, h1, lb, u2, h2, h3⟩ := h
  obtain ⟨-, -, rfl⟩ := moduleAddress_gives h1
  exact (memRead_reads h2).trans (memRead_reads h3)

/-- Computing an effective address stores nothing. -/
theorem address_reads {m : Base} {s t : State} {x : Int} (h : Gives (Base.address m) s x t) : Reads s t := by
  unfold Base.address at h
  simp only [gives_bind, gives_get] at h
  obtain ⟨w, u, ⟨rfl, rfl⟩, h⟩ := h
  cases m <;> simp only [gives_bind, gives_pure, gives_stop] at h
  case reg => obtain ⟨-, rfl⟩ := h; rfl
  case regRel => obtain ⟨-, rfl⟩ := viaRegister_reads h; rfl
  case frameRel => exact viaPointer_reads h
  case stackRel => exact viaPointer_reads h
  case staticRel => exact viaPointer_reads h
  case abs => obtain ⟨-, rfl⟩ := dispValue_gives h; rfl
  case ext =>
    obtain ⟨x1, u1, h1, x2, u2, h2, p, u3, h3, -, rfl⟩ := h
    obtain ⟨-, rfl⟩ := dispValue_gives h1
    obtain ⟨-, rfl⟩ := dispValue_gives h2
    exact linkEntry_reads h3
  case tos => obtain ⟨-, rfl⟩ := h; rfl
  case frame => obtain ⟨-, rfl⟩ := viaRegister_reads h; rfl
  case stack => obtain ⟨-, rfl⟩ := viaRegister_reads h; rfl
  case static => obtain ⟨-, rfl⟩ := viaRegister_reads h; rfl
  case program => obtain ⟨-, rfl⟩ := viaRegister_reads h; rfl

/-- A scaled index is added and nothing changes. -/
theorem scaledBy_gives {sc : Scale} {idx : Reg} {a x : Int} {s t : State} (h : Gives (scaledBy sc idx a) s x t) :
    x = a + scaleFactor sc * (s.reg idx).toInt ∧ t = s := by
  simp only [scaledBy, gives_bind, gives_get, gives_pure] at h
  obtain ⟨_, _, ⟨rfl, rfl⟩, rfl, rfl⟩ := h
  exact ⟨rfl, rfl⟩

theorem exactAddress_reads {g : Gen} {s t : State} {x : Int} (h : Gives (exactAddress g) s x t) : Reads s t := by
  unfold exactAddress at h
  split at h
  · exact address_reads h
  · exact ((gives_stop _ _ _ _).mp h).elim
  · simp only [gives_bind] at h
    obtain ⟨a, u, h1, h2⟩ := h
    exact (scaledBy_gives h2).2 ▸ address_reads h1

/-- An address that exists is itself. -/
theorem existing_gives {a x : Int} {s t : State} :
    Gives (existing a) s x t ↔ (0 ≤ a ∧ a < 2 ^ 24) ∧ x = a ∧ t = s := by
  simp only [existing, gives_bind, gives_ensure, gives_pure, inSpace_iff]
  constructor
  · rintro ⟨_, _, ⟨hs, rfl⟩, rfl, rfl⟩
    exact ⟨by omega, rfl, rfl⟩
  · rintro ⟨hs, rfl, rfl⟩
    exact ⟨(), _, ⟨by omega, rfl⟩, rfl, rfl⟩

theorem addrOp_reads {g : Gen} {s t : State} {x : Int} (h : Gives (addrOp g) s x t) :
    Reads s t ∧ 0 ≤ x ∧ x < 2 ^ 24 := by
  unfold addrOp at h
  split at h
  · simp only [gives_bind, existing_gives] at h
    obtain ⟨a, u, h1, b, u1, ⟨-, rfl, rfl⟩, c, v, h2, hr, rfl, rfl⟩ := h
    exact ⟨(scaledBy_gives h2).2 ▸ address_reads h1, hr⟩
  · simp only [gives_bind, existing_gives] at h
    obtain ⟨a, u, h1, hr, rfl, rfl⟩ := h
    exact ⟨exactAddress_reads h1, hr⟩

theorem legalReg_gives {k : Kind} {n : Nat} {r : Reg} {s t : State} {v : PUnit} (h : Gives (legalReg k n r) s v t) :
    t = s := by
  unfold legalReg at h
  split at h
  · exact ((gives_pure _ _ _ _).mp h).2
  · exact ((gives_ensure _ _ _ _ _).mp h).2
  · exact ((gives_ensure _ _ _ _ _).mp h).2

/-- Locating an operand of class rmw stores nothing; it is a register or memory. -/
theorem locateRmw_reads {k : Kind} {n : Nat} {g : Gen} {s t : State} {x : Loc} (h : Gives (locateRmw k n g) s x t) :
    Reads s t ∧ x ≠ .push := by
  unfold locateRmw at h
  split at h
  · simp only [gives_bind, gives_pure] at h
    obtain ⟨_, u, h1, rfl, rfl⟩ := h
    obtain rfl := legalReg_gives h1
    exact ⟨Reads.refl _, by simp⟩
  · simp only [gives_bind, gives_pure] at h
    obtain ⟨a, u, h1, rfl, rfl⟩ := h
    exact ⟨(addrOp_reads h1).1, by simp⟩

/-- Locating an operand of class write stores nothing; only Top of Stack is pushed. -/
theorem locateWrite_reads {k : Kind} {n : Nat} {g : Gen} {s t : State} {x : Loc}
    (h : Gives (locateWrite k n g) s x t) : Reads s t ∧ (x = .push → g = .base .tos) := by
  unfold locateWrite at h
  split at h
  · obtain ⟨rfl, rfl⟩ := (gives_pure _ _ _ _).mp h
    exact ⟨Reads.refl _, fun _ => rfl⟩
  · have := locateRmw_reads h
    exact ⟨this.1, fun e => (this.2 e).elim⟩

theorem readLoc_reads {k : Kind} {n : Nat} {x : Loc} {s t : State} {v : QWord} (h : Gives (readLoc k n x) s v t) :
    Reads s t := by
  unfold readLoc at h
  split at h
  · simp only [gives_bind, gives_get, gives_pure] at h
    obtain ⟨w, u, ⟨rfl, rfl⟩, -, rfl⟩ := h
    rfl
  · exact memRead_reads h
  · obtain ⟨-, rfl⟩ := (gives_pure _ _ _ _).mp h
    rfl

theorem readsRmw_reads {k : Kind} {n : Nat} {g : Gen} {s t : State} {x : Loc} {v : QWord}
    (h : ReadsRmw k n g s x v t) : Reads s t ∧ x ≠ .push := by
  obtain ⟨u, h1, h2⟩ := h
  exact ⟨(locateRmw_reads h1).1.trans (readLoc_reads h2), (locateRmw_reads h1).2⟩

/-- Reading an operand moves the stack pointer if it is Top of Stack, and touches nothing else. -/
theorem readOp_keeps {k : Kind} {n : Nat} {g : Gen} {s t : State} {v : QWord} (h : Gives (readOp k n g) s v t) :
    Keeps { special := movesSp g } s t ∧ t.pc = s.pc := by
  unfold readOp at h
  split at h
  · simp only [gives_bind, gives_get, gives_pure] at h
    obtain ⟨_, u, h1, w, u1, ⟨-, rfl⟩, -, rfl⟩ := h
    obtain rfl := legalReg_gives h1
    exact ⟨Keeps.refl _ _, rfl⟩
  · obtain ⟨u, h1, -, rfl⟩ := pop_gives h
    have r := memRead_reads h1
    refine ⟨?_, by rw [State.setSp_pc, r.pc]⟩
    exact (r.keeps {}).trans (setSp_keeps _ _) (by simp)
  · obtain ⟨-, rfl⟩ := (gives_pure _ _ _ _).mp h
    exact ⟨Keeps.refl _ _, rfl⟩
  · simp only [gives_bind] at h
    obtain ⟨a, u, h1, h2⟩ := h
    have r := (addrOp_reads h1).1.trans (memRead_reads h2)
    exact ⟨r.keeps _, r.pc⟩

theorem writeReg_keeps (s : State) (k : Kind) (n : Nat) (r : Reg) (v : QWord) :
    Keeps { regs := (Loc.reg r).regs k, fregs := if k = .float then (Loc.reg r).fregs n else [] } s
      (s.writeReg k n r v) ∧ (s.writeReg k n r v).pc = s.pc := by
  cases k with
  | int =>
    refine ⟨(setReg_keeps _ _ _).mono ?_ ?_ ?_ ?_ ?_, rfl⟩ <;> simp [Loc.regs]
  | pair =>
    refine ⟨?_, rfl⟩
    refine Keeps.mono (Keeps.trans (setReg_keeps s r _) (setReg_keeps _ (pairOf r) _) (by simp)) ?_ ?_ ?_ ?_ ?_ <;>
      simp [Loc.regs]
  | float =>
    unfold State.writeReg
    by_cases hn : n = 4
    · simp only [hn, if_true]
      refine ⟨(setFreg_keeps _ _ _).mono ?_ ?_ ?_ ?_ ?_, rfl⟩ <;> simp [Loc.fregs]
    · simp only [hn, if_false]
      refine ⟨?_, rfl⟩
      refine Keeps.mono (Keeps.trans (setFreg_keeps s r _) (setFreg_keeps _ (pairOf r) _) (by simp)) ?_ ?_ ?_ ?_ ?_ <;>
        simp [Loc.fregs, hn]

/-- A push touches the selected stack pointer and the bytes below it. -/
theorem pushSlot_keeps {slot n : Nat} {x : QWord} {s t : State} {v : PUnit} (h : Gives (pushSlot slot n x) s v t) :
    Keeps { cells := s.cellsAt s.mode (s.sp.toNat - slot) n, special := [.sp] } s t ∧ t.pc = s.pc := by
  obtain ⟨h1, h2, h3⟩ := pushSlot_gives h
  have c : (s.setSp (BitVec.ofNat 24 (s.sp.toNat - slot))).cellsAt s.mode (s.sp.toNat - slot : Nat) n =
      s.cellsAt s.mode ((s.sp.toNat : Int) - slot) n := by
    rw [show ((s.sp.toNat - slot : Nat) : Int) = (s.sp.toNat : Int) - slot by omega]
    simp [State.cellsAt, State.storedAt, State.translating]
  rw [c] at h3
  refine ⟨?_, by rw [h3.pc, State.setSp_pc]⟩
  exact ((setSp_keeps s _).trans h3.keeps (by simp))

/-- Writing a located operand touches the registers and the bytes of its location, and the stack pointer if it is pushed. -/
theorem writeLoc_keeps {k : Kind} {n : Nat} {x : Loc} {y : QWord} {s t : State} {v : PUnit}
    (h : Gives (writeLoc k n x y) s v t) :
    Keeps { regs := x.regs k, fregs := if k = .float then x.fregs n else [], cells := x.cells n s,
            special := if x = .push then [.sp] else [] } s t ∧ t.pc = s.pc := by
  unfold writeLoc at h
  split at h
  · obtain rfl := (gives_modify _ _ _ _).mp h
    have := writeReg_keeps s k n ‹Reg› y
    refine ⟨this.1.mono ?_ ?_ ?_ ?_ ?_, this.2⟩ <;> simp
  · have := memWrite_stores h
    refine ⟨this.keeps.mono ?_ ?_ ?_ ?_ ?_, this.pc⟩ <;> simp [Loc.cells]
  · have := pushSlot_keeps h
    refine ⟨this.1.mono ?_ ?_ ?_ ?_ ?_, this.2⟩ <;> simp [Loc.cells]

end Sys2Proof.Machine
end

