-- ==== Sys2Proof/Laws/Completion.lean ====
section
/-! SUPPORT. From what an instruction's body gives to how the instruction ends, and what the reading and the writing of its
operands together leave unchanged. -/

namespace Sys2Proof.Machine

/-- An instruction whose body gives the next instruction in sequence completes. -/
theorem completes_of {i : Instr} {body : Act Next} {s w : State} {z : Touched}
    (hx : exec i s = perform i.length body s) (hb : Gives body s .seq w) (hpc : w.pc = s.pc) (hf : s.fits i)
    (hk : Keeps z s w) : Completes i s w z := by
  refine ⟨?_, hk⟩
  rw [hx, perform_of_gives hb, finish_seq (by rw [hpc]; exact hf), hpc]
  rfl

theorem draw_keeps (s : State) (z : Touched) : Keeps z s { s with draws := s.draws + 1 } := by
  constructor <;> intros <;> first | rfl | (split <;> rfl)

/-- Operand A read, an rmw operand B read, then B written. -/
theorem rmw_write_keeps {k z : Kind} {n g : Nat} {src dest : Gen} {s s1 s2 w : State} {a b y : QWord} {x : Loc}
    {v : PUnit} (h1 : Gives (readOp k n src) s a s1) (h2 : ReadsRmw z g dest s1 x b s2)
    (h3 : Gives (writeLoc z g x y) s2 v w) :
    Keeps { regs := x.regs z, fregs := if z = .float then x.fregs g else [], cells := x.cells g s2,
            special := movesSp src } s w ∧ w.pc = s.pc := by
  have r1 := readOp_keeps h1
  have r2 := readsRmw_reads h2
  have r3 := writeLoc_keeps h3
  refine ⟨((r1.1.trans (r2.1.keeps {}) (by simp)).trans r3.1 (by simp)).mono ?_ ?_ ?_ ?_ ?_, ?_⟩ <;>
    simp_all [Reads.pc r2.1]

/-- The same with a free value drawn before B is written. -/
theorem rmw_draw_keeps {k z : Kind} {n g : Nat} {src dest : Gen} {s s1 s2 w : State} {a b y : QWord} {x : Loc}
    {v : PUnit} (h1 : Gives (readOp k n src) s a s1) (h2 : ReadsRmw z g dest s1 x b s2)
    (h3 : Gives (draw >>= fun _ => writeLoc z g x y) s2 v w) :
    Keeps { regs := x.regs z, fregs := if z = .float then x.fregs g else [], cells := x.cells g s2,
            special := movesSp src } s w ∧ w.pc = s.pc := by
  have r1 := readOp_keeps h1
  have r2 := readsRmw_reads h2
  simp only [gives_bind, gives_draw] at h3
  obtain ⟨_, _, ⟨rfl, rfl⟩, h3⟩ := h3
  have r3 := writeLoc_keeps h3
  have e : ({ s2 with draws := s2.draws + 1 } : State).cellsAt = s2.cellsAt := rfl
  refine ⟨(((r1.1.trans (r2.1.keeps {}) (by simp)).trans (draw_keeps s2 {}) (by simp)).trans r3.1
    (by simp)).mono ?_ ?_ ?_ ?_ ?_, ?_⟩ <;> simp_all [Reads.pc r2.1]
  cases x <;> simp_all [Loc.cells]
  exact fun a h => h

/-- Operand A read, an operand of class write located, then written. -/
theorem write_keeps {k z : Kind} {n g : Nat} {src dest : Gen} {s s1 s2 w : State} {a y : QWord} {x : Loc} {v : PUnit}
    (h1 : Gives (readOp k n src) s a s1) (h2 : Gives (locateWrite z g dest) s1 x s2)
    (h3 : Gives (writeLoc z g x y) s2 v w) :
    Keeps { regs := x.regs z, fregs := if z = .float then x.fregs g else [], cells := x.cells g s2,
            special := movesSp src ++ movesSp dest } s w ∧ w.pc = s.pc := by
  have r1 := readOp_keeps h1
  have r2 := locateWrite_reads h2
  have r3 := writeLoc_keeps h3
  refine ⟨((r1.1.trans (r2.1.keeps {}) (by simp)).trans r3.1 (by simp)).mono ?_ ?_ ?_ ?_ ?_, ?_⟩
  all_goals simp_all [Reads.pc r2.1]
  rintro _ (h | h)
  · exact .inl h
  · right
    by_cases hp : x = .push
    · rw [r2.2 hp]
      simp_all [movesSp]
    · simp_all

/-- After steps that only read, an operand of class write located, then written. -/
theorem reads_write_keeps {z : Kind} {n : Nat} {dest : Gen} {s s1 s2 w : State} {y : QWord} {x : Loc} {v : PUnit}
    (h0 : Reads s s1) (h2 : Gives (locateWrite z n dest) s1 x s2) (h3 : Gives (writeLoc z n x y) s2 v w) :
    Keeps { regs := x.regs z, fregs := if z = .float then x.fregs n else [], cells := x.cells n s2,
            special := movesSp dest } s w ∧ w.pc = s.pc := by
  have r2 := locateWrite_reads h2
  have r3 := writeLoc_keeps h3
  refine ⟨(((h0.keeps {}).trans (r2.1.keeps {}) (by simp)).trans r3.1 (by simp)).mono ?_ ?_ ?_ ?_ ?_, ?_⟩
  all_goals simp_all [Reads.pc r2.1, Reads.pc h0]
  simp [movesSp]

/-- All that the word of an address can be (R391): the address, or a free value where 32 bits do not hold it. -/
theorem addressWord_gives {a : Int} {s t : State} {v : QWord} : Gives (addressWord a) s v t ↔
    ((0 ≤ a ∧ a < 2 ^ 32) ∧ v = BitVec.ofInt 64 a ∧ t = s) ∨
      (¬(0 ≤ a ∧ a < 2 ^ 32) ∧ v = Config.freeValue s.draws ∧ t = { s with draws := s.draws + 1 }) := by
  rw [addressWord, gives_ite, gives_pure, gives_draw]

/-- A branch target is PC plus a displacement in its range (R350, R164). -/
theorem branchTarget_gives {d : Disp} {s t : State} {a : Int} :
    Gives (branchTarget d) s a t ↔ d.ok = true ∧ a = s.pc.toNat + d.value ∧ t = s := by
  simp only [branchTarget, dispValue, gives_bind, gives_ensure, gives_pure, gives_get]
  constructor
  · rintro ⟨_, _, ⟨_, _, ⟨hd, rfl⟩, rfl, rfl⟩, _, _, ⟨rfl, rfl⟩, rfl, rfl⟩
    exact ⟨hd, rfl, rfl⟩
  · rintro ⟨hd, rfl, rfl⟩
    exact ⟨_, _, ⟨(), _, ⟨hd, rfl⟩, rfl, rfl⟩, _, _, ⟨rfl, rfl⟩, rfl, rfl⟩

end Sys2Proof.Machine
end

