-- ==== Sys2Proof/Laws/Plain.lean ====
section
/-! SUPPORT. Memory where every address is physical and RAM (`State.plain`): reads are `load`, writes are `State.store`, and
neither depends on the mode. -/

namespace Sys2Proof.Machine

/-! ### The values of bytes in memory -/

theorem load_lt (m : List Host.Cell) (a n : Nat) : load m a n < 256 ^ n := by
  induction n generalizing a with
  | zero => simp [load]
  | succ n ih =>
    have h := ih (a + 1)
    have hb := (Memory.read m a).isLt
    simp only [load, pow_succ]
    omega

/-- `load` sees only the bytes it loads. -/
theorem load_congr {m m' : List Host.Cell} {a n : Nat}
    (h : ∀ k, k < n → Memory.read m (a + k) = Memory.read m' (a + k)) : load m a n = load m' a n := by
  induction n generalizing a with
  | zero => rfl
  | succ n ih =>
    have e := ih (a := a + 1) fun k hk => by
      have := h (k + 1) (by omega)
      rwa [show a + (k + 1) = a + 1 + k by omega] at this
    have e0 := h 0 (by omega)
    simp only [load]
    rw [e, show Memory.read m a = Memory.read m' a from e0]

/-! ### `State.store` -/

theorem State.store_eq (s : State) (a n v : Nat) :
    s.store a n v = { s with mem := (s.store a n v).mem, queueDirty := (s.store a n v).queueDirty } := by
  induction n generalizing s a v with
  | zero => rfl
  | succ n ih => exact ih (s.storeByte a (BitVec.ofNat 8 v)) (a + 1) (v / 256)

theorem State.read_store (s : State) (a n v b : Nat) :
    Memory.read (s.store a n v).mem b =
      if a ≤ b ∧ b < a + n then BitVec.ofNat 8 (v / 256 ^ (b - a)) else Memory.read s.mem b := by
  induction n generalizing s a v with
  | zero => simp [State.store]
  | succ n ih =>
    simp only [State.store, ih]
    by_cases h1 : a + 1 ≤ b ∧ b < a + 1 + n
    · rw [if_pos h1, if_pos (by omega), Nat.div_div_eq_div_mul, ← Nat.pow_succ', show (b - (a + 1)).succ = b - a by omega]
    · rw [if_neg h1]
      by_cases h2 : b = a
      · subst h2
        rw [if_pos (by omega)]
        simp [State.storeByte]
      · rw [if_neg (by omega)]
        exact Memory.read_write_other s.mem a b _ h2

/-- What was stored is loaded. -/
theorem State.load_store (s : State) (a n v : Nat) : load (s.store a n v).mem a n = v % 256 ^ n := by
  have key : ∀ (k : Nat) (m : List Host.Cell) (x c : Nat),
      (∀ j, j < k → Memory.read m (x + j) = BitVec.ofNat 8 (c / 256 ^ j)) → load m x k = c % 256 ^ k := by
    intro k
    induction k with
    | zero => intro m x c _; simp [load, Nat.mod_one]
    | succ k ih =>
      intro m x c h
      have e0 := h 0 (by omega)
      have e1 := ih m (x + 1) (c / 256) fun j hj => by
        have := h (j + 1) (by omega)
        rw [Nat.div_div_eq_div_mul, ← Nat.pow_succ', Nat.succ_eq_add_one, ← this]
        congr 1
        omega
      simp only [load, e1]
      rw [show Memory.read m x = _ from e0, Nat.pow_succ']
      simp only [pow_zero, Nat.div_one, BitVec.toNat_ofNat]
      have : c % (256 * 256 ^ k) = c % 256 + 256 * (c / 256 % 256 ^ k) := Nat.mod_mul
      omega
  refine key n _ a v fun j hj => ?_
  rw [State.read_store, if_pos (by omega), Nat.add_sub_cancel_left]

/-- A store elsewhere is not loaded. -/
theorem State.load_store_apart (s : State) (a n v b k : Nat) (h : b + k ≤ a ∨ a + n ≤ b) :
    load (s.store a n v).mem b k = load s.mem b k :=
  load_congr fun j hj => by rw [State.read_store, if_neg (by omega)]

/-! ### Reads and writes -/

theorem State.plain.of_eq {s t : State} (h : s.plain) (hc : t.cfg = s.cfg) (hp : t.platform = s.platform)
    (hm : t.mmu = s.mmu) : t.plain := by
  refine ⟨?_, fun a => by rw [hp]; exact h.2 a⟩
  have := h.1
  unfold State.translating at *
  rw [hc, hp, hm]
  exact this

theorem State.plain.store {s : State} (h : s.plain) (a n v : Nat) : (s.store a n v).plain :=
  h.of_eq (by rw [State.store_eq]) (by rw [State.store_eq]) (by rw [State.store_eq])

theorem State.plain.setSp {s : State} (h : s.plain) (a : Addr) : (s.setSp a).plain := by
  refine h.of_eq ?_ ?_ ?_ <;> (unfold State.setSp; split <;> rfl)

theorem State.plain.storedAt {s : State} (h : s.plain) (mode : Mode) (a : Nat) : s.storedAt mode a = a := by
  simp [State.storedAt, h.1]

theorem State.plain.cellsAt {s : State} (h : s.plain) (mode : Mode) (a : Int) (n : Nat) :
    s.cellsAt mode a n = (List.range n).map fun k => a.toNat + k := by
  unfold State.cellsAt
  exact List.map_congr_left fun k _ => h.storedAt mode _

theorem physical_direct {s : State} (h : s.translating = false) (a : Addr) (mode : Mode) (kind : AccessKind) :
    Gives (physical a mode kind) s a s := by
  unfold physical
  simp only [gives_bind, gives_get]
  refine ⟨_, _, ⟨rfl, rfl⟩, ?_⟩
  rw [h]
  exact (gives_pure ..).mpr ⟨rfl, rfl⟩

theorem physicals_direct {s : State} (h : s.translating = false) (mode : Mode) (kind : AccessKind) (n a : Nat) :
    Gives (physicals mode kind a n) s ((List.range n).map fun k => BitVec.ofNat 24 (a + k)) s := by
  induction n generalizing a with
  | zero => exact (gives_pure ..).mpr ⟨rfl, rfl⟩
  | succ n ih =>
    unfold physicals
    simp only [gives_bind, gives_pure]
    refine ⟨_, _, physical_direct h _ mode kind, _, _, ih (a + 1), ?_, rfl⟩
    rw [List.range_succ_eq_map, List.map_cons, List.map_map]
    congr 1
    exact List.map_congr_left fun k _ => by simp only [Function.comp]; congr 1; omega

theorem observe_direct {s : State} (h : s.translating = false) (a : Addr) (n : Nat) (mode : Mode) (kind : AccessKind) :
    Gives (observe a n mode kind) s () s := by
  unfold observe
  simp only [gives_bind, gives_get]
  refine ⟨_, _, ⟨rfl, rfl⟩, ?_⟩
  rw [h]
  exact (gives_pure ..).mpr ⟨rfl, rfl⟩

/-- Without translation an access is of the addresses it names, and the MMU takes no part in it (R102). -/
theorem access_direct {s : State} (h : s.translating = false) (mode : Mode) (kind : AccessKind) (n a : Nat) :
    Gives (access mode kind a n) s ((List.range n).map fun k => BitVec.ofNat 24 (a + k)) s := by
  unfold access
  simp only [gives_bind, gives_pure]
  exact ⟨_, _, physicals_direct h mode kind n a, (), _, observe_direct h _ n mode kind, rfl, rfl⟩

theorem readByte_plain {s : State} (h : s.plain) (pa : Addr) : Gives (readByte pa) s (Memory.read s.mem pa.toNat) s := by
  unfold readByte
  simp only [gives_bind, gives_get]
  refine ⟨_, _, ⟨rfl, rfl⟩, ?_⟩
  rw [h.2]
  exact (gives_pure ..).mpr ⟨rfl, rfl⟩

theorem readBytes_plain {s : State} (h : s.plain) (n a : Nat) (hn : n ≤ 8) (ha : a + n ≤ 2 ^ 24) :
    Gives (readBytes ((List.range n).map fun k => BitVec.ofNat 24 (a + k))) s (BitVec.ofNat 64 (load s.mem a n)) s := by
  induction n generalizing a with
  | zero => exact (gives_pure ..).mpr ⟨rfl, rfl⟩
  | succ n ih =>
    rw [List.range_succ_eq_map, List.map_cons, List.map_map]
    have e : (List.range n).map ((fun k => BitVec.ofNat 24 (a + k)) ∘ Nat.succ) =
        (List.range n).map fun k => BitVec.ofNat 24 (a + 1 + k) :=
      List.map_congr_left fun k _ => by simp only [Function.comp]; congr 1; omega
    rw [e]
    unfold readBytes
    simp only [gives_bind, gives_pure]
    refine ⟨_, _, readByte_plain h _, _, _, ih (a + 1) (by omega) (by omega), ?_, rfl⟩
    rw [BitVec.toNat_ofNat, Nat.add_zero, Nat.mod_eq_of_lt (by omega)]
    have hl := load_lt s.mem (a + 1) n
    have hp : 256 ^ n ≤ 256 ^ 7 := Nat.pow_le_pow_right (by norm_num) (by omega)
    have hb := (Memory.read s.mem a).isLt
    apply BitVec.eq_of_toNat_eq
    simp only [load, BitVec.toNat_or, BitVec.toNat_shiftLeft, BitVec.toNat_ofNat, BitVec.toNat_setWidth]
    generalize load s.mem (a + 1) n = x at *
    generalize (Memory.read s.mem a).toNat = b at *
    rw [Nat.mod_eq_of_lt (show x < 2 ^ 64 by omega), Nat.mod_eq_of_lt (show b < 2 ^ 64 by omega),
      Nat.mod_eq_of_lt (show x <<< 8 < 2 ^ 64 by rw [Nat.shiftLeft_eq]; omega),
      Nat.mod_eq_of_lt (show b + 256 * x < 2 ^ 64 by omega), ← Nat.shiftLeft_add_eq_or_of_lt (by omega), Nat.shiftLeft_eq]
    omega

theorem memReadAs_plain {s : State} (h : s.plain) (mode : Mode) (a : Int) (n : Nat) (hn : n ≤ 8)
    (ha : inSpace a n = true) : Gives (memReadAs mode a n) s (BitVec.ofNat 64 (load s.mem a.toNat n)) s := by
  have hr := (inSpace_iff a n).mp ha
  unfold memReadAs
  simp only [gives_bind, gives_ensure]
  exact ⟨(), s, ⟨ha, rfl⟩, _, s, access_direct h.1 mode .read n a.toNat, readBytes_plain h n a.toNat hn (by omega)⟩

/-- A read of plain memory loads its bytes and changes nothing. -/
theorem memRead_plain {s : State} (h : s.plain) (a : Int) (n : Nat) (hn : n ≤ 8) (ha : inSpace a n = true) :
    Gives (memRead a n) s (BitVec.ofNat 64 (load s.mem a.toNat n)) s := by
  unfold memRead
  simp only [gives_bind, gives_get]
  exact ⟨_, _, ⟨rfl, rfl⟩, memReadAs_plain h _ a n hn ha⟩

theorem writeByte_plain {s : State} (h : s.plain) (pa : Addr) (v : Byte) :
    Gives (writeByte pa v) s () (s.storeByte pa.toNat v) := by
  unfold writeByte
  simp only [gives_bind, gives_get]
  refine ⟨_, _, ⟨rfl, rfl⟩, ?_⟩
  rw [h.2]
  exact (gives_set ..).mpr rfl

theorem writeBytes_plain {s : State} (h : s.plain) (n a : Nat) (v : QWord) (ha : a + n ≤ 2 ^ 24) :
    Gives (writeBytes ((List.range n).map fun k => BitVec.ofNat 24 (a + k)) v) s () (s.store a n v.toNat) := by
  induction n generalizing s a v with
  | zero => exact (gives_pure ..).mpr ⟨rfl, rfl⟩
  | succ n ih =>
    rw [List.range_succ_eq_map, List.map_cons, List.map_map]
    have e : (List.range n).map ((fun k => BitVec.ofNat 24 (a + k)) ∘ Nat.succ) =
        (List.range n).map fun k => BitVec.ofNat 24 (a + 1 + k) :=
      List.map_congr_left fun k _ => by simp only [Function.comp]; congr 1; omega
    rw [e]
    unfold writeBytes
    simp only [gives_bind]
    refine ⟨(), _, writeByte_plain h _ _, ?_⟩
    have k := ih (s := s.storeByte a (BitVec.ofNat 8 v.toNat)) (h.of_eq rfl rfl rfl) (a + 1) (v >>> 8) (by omega)
    have ev : (v >>> 8).toNat = v.toNat / 256 := by rw [BitVec.toNat_ushiftRight, Nat.shiftRight_eq_div_pow]
    have eb : v.setWidth 8 = BitVec.ofNat 8 v.toNat := by
      apply BitVec.eq_of_toNat_eq
      simp
    rw [ev] at k
    rw [eb, BitVec.toNat_ofNat, Nat.add_zero, Nat.mod_eq_of_lt (by omega)]
    exact k

theorem memWriteAs_plain {s : State} (h : s.plain) (mode : Mode) (a : Int) (n : Nat) (v : QWord)
    (ha : inSpace a n = true) : Gives (memWriteAs mode a n v) s () (s.store a.toNat n v.toNat) := by
  have hr := (inSpace_iff a n).mp ha
  unfold memWriteAs
  simp only [gives_bind, gives_ensure]
  exact ⟨(), s, ⟨ha, rfl⟩, _, s, access_direct h.1 mode .write n a.toNat, writeBytes_plain h n a.toNat v (by omega)⟩

/-- A write of plain memory stores the bytes and changes nothing else. -/
theorem memWrite_plain {s : State} (h : s.plain) (a : Int) (n : Nat) (v : QWord) (ha : inSpace a n = true) :
    Gives (memWrite a n v) s () (s.store a.toNat n v.toNat) := by
  unfold memWrite
  simp only [gives_bind, gives_get]
  exact ⟨_, _, ⟨rfl, rfl⟩, memWriteAs_plain h _ a n v ha⟩

/-! ### The stack -/

/-- A pop from plain memory (R93). -/
theorem pop_plain {s : State} (h : s.plain) (n : Nat) (hn : n ≤ 8) (ha : s.sp.toNat + n < 2 ^ 24) :
    Gives (pop n) s (BitVec.ofNat 64 (load s.mem s.sp.toNat n)) (s.setSp (BitVec.ofNat 24 (s.sp.toNat + n))) := by
  unfold pop moveSp
  simp only [gives_bind, gives_get, gives_ensure, gives_modify, gives_pure]
  refine ⟨_, _, ⟨rfl, rfl⟩, _, _, memRead_plain h s.sp.toNat n hn (by rw [inSpace_iff]; omega), _, _, ⟨rfl, rfl⟩, (), _,
    ⟨(), _, ⟨by rw [inSpace_iff]; omega, rfl⟩, rfl⟩, by simp, ?_⟩
  congr 1

/-- A push on plain memory, in a slot of `slot` bytes (R93). -/
theorem pushSlot_plain {s : State} (h : s.plain) (slot n : Nat) (v : QWord) (hn : n ≤ slot) (ha : slot ≤ s.sp.toNat) :
    Gives (pushSlot slot n v) s ()
      ((s.setSp (BitVec.ofNat 24 (s.sp.toNat - slot))).store (s.sp.toNat - slot) n v.toNat) := by
  have hlt := s.sp.isLt
  unfold pushSlot moveSp
  simp only [gives_bind, gives_get, gives_ensure, gives_modify]
  have e : ((s.sp.toNat : Int) - (slot : Int)) = ((s.sp.toNat - slot : Nat) : Int) := by omega
  refine ⟨_, _, ⟨rfl, rfl⟩, (), _, ⟨(), _, ⟨by rw [inSpace_iff]; omega, rfl⟩, rfl⟩, _, _, ⟨rfl, rfl⟩, ?_⟩
  rw [e, BitVec.ofInt_natCast, State.sp_setSp, BitVec.toNat_ofNat, Nat.mod_eq_of_lt (by omega)]
  exact memWrite_plain (h.setSp _) _ n v (by rw [inSpace_iff]; omega)

end Sys2Proof.Machine
end

