-- ==== Sys2Proof/Laws/Values.lean ====
section
/-! SUPPORT. Unsigned and signed values of operands (R9), `narrow`, and the PSR masks of the exception sequences. -/

namespace Sys2Proof.Machine

/-! ### Lengths -/

theorem pow_bits (l : Len) : (2 : Int) ^ (8 * l.bytes) = 2 ^ l.bits := by cases l <;> rfl

theorem pow_bits_nat (l : Len) : (2 : Nat) ^ (8 * l.bytes) = 2 ^ l.bits := by cases l <;> rfl

theorem bits_eq (l : Len) : l.bits = 8 * l.bytes := by cases l <;> rfl

/-! ### Values -/

theorem uval_lt (l : Len) (v : QWord) : uval l.bytes v < 2 ^ l.bits := by
  rw [← pow_bits_nat]
  exact Nat.mod_lt _ (by positivity)

theorem uval_setWidth (l : Len) (v : QWord) : (v.setWidth l.bits).toNat = uval l.bytes v := by
  rw [BitVec.toNat_setWidth, ← pow_bits_nat]
  rfl

theorem sval_setWidth (l : Len) (v : QWord) : (v.setWidth l.bits).toInt = sval l.bytes v := by
  unfold sval
  rw [BitVec.toInt_eq_toNat_cond, uval_setWidth, pow_bits, bits_eq l]
  have h : 2 ^ (8 * l.bytes) = 2 * 2 ^ (8 * l.bytes - 1) := by
    rw [← pow_succ']
    congr 1
    cases l <;> rfl
  split <;> split <;> first | rfl | (exfalso; omega)

/-- The signed and the unsigned value agree modulo the length. -/
theorem sval_emod (n : Nat) (v : QWord) : sval n v % 2 ^ (8 * n) = (uval n v : Int) := by
  unfold sval
  have h : uval n v < 2 ^ (8 * n) := Nat.mod_lt _ (by positivity)
  split
  · exact Int.emod_eq_of_lt (by positivity) (by exact_mod_cast h)
  · rw [Int.sub_emod_right]
    exact Int.emod_eq_of_lt (by positivity) (by exact_mod_cast h)

theorem narrow_eq (n : Nat) (x : Int) : narrow n x = BitVec.ofInt 64 (x % 2 ^ (8 * n)) := by
  unfold narrow
  have h : 0 ≤ x % 2 ^ (8 * n) := Int.emod_nonneg _ (by positivity)
  conv_rhs => rw [← Int.toNat_of_nonneg h]
  rw [BitVec.ofInt_natCast]

theorem narrow_toNat (l : Len) (x : Int) : ((narrow l.bytes x).toNat : Int) = x % 2 ^ l.bits := by
  have h0 : 0 ≤ x % 2 ^ (8 * l.bytes) := Int.emod_nonneg _ (by positivity)
  have h1 : x % 2 ^ (8 * l.bytes) < 2 ^ (8 * l.bytes) := Int.emod_lt_of_pos _ (by positivity)
  have h2 : (x % 2 ^ (8 * l.bytes)).toNat < 2 ^ (8 * l.bytes) := by
    zify
    rw [Int.toNat_of_nonneg h0]
    exact_mod_cast h1
  have h3 : (2 : Nat) ^ (8 * l.bytes) ≤ 2 ^ 64 := Nat.pow_le_pow_right (by norm_num) (by cases l <;> decide)
  unfold narrow
  rw [BitVec.toNat_ofNat, Nat.mod_eq_of_lt (lt_of_lt_of_le h2 h3), Int.toNat_of_nonneg h0, pow_bits]

/-- A number survives narrowing exactly if it is in the range of the length (R452). -/
theorem sval_narrow (l : Len) (x : Int) : (sval l.bytes (narrow l.bytes x) != x) = !inRange l x := by
  have key : sval l.bytes (narrow l.bytes x) = x ↔ inRange l x = true := by
    have hu : (uval l.bytes (narrow l.bytes x) : Int) = x % 2 ^ (8 * l.bytes) := by
      have h := narrow_toNat l x
      have hp := pow_bits l
      unfold uval
      push_cast
      rw [h, hp]
      exact Int.emod_emod_of_dvd _ dvd_rfl
    unfold sval inRange
    simp only [Bool.and_eq_true, decide_eq_true_eq]
    cases l <;> simp only [Len.bytes, Len.bits] at * <;> norm_num at * <;> split <;> omega
  cases h : inRange l x
  · simp only [Bool.not_false, bne_iff_ne, ne_eq]
    rw [key, h]
    simp
  · simp only [Bool.not_true, bne_eq_false_iff_eq]
    rw [key, h]

/-! ### The PSR in exception sequences -/

theorem psrInService_trap (w : Word) : psrInService w false = trapPsr w := by
  unfold psrInService trapPsr putBit bitS bitU bitT bitP
  simp only [Bool.false_eq_true, if_false]
  apply BitVec.eq_of_getLsbD_eq
  intro i hi
  interval_cases i <;> simp

theorem psrInService_interrupt (w : Word) : psrInService w true = interruptPsr w := by
  unfold psrInService interruptPsr putBit bitS bitU bitT bitP bitI
  simp only [Bool.false_eq_true, if_false, if_true]
  apply BitVec.eq_of_getLsbD_eq
  intro i hi
  interval_cases i <;> simp

theorem putBit_P (w : Word) : putBit w bitP false = withoutP w := by
  unfold withoutP putBit bitP
  simp only [Bool.false_eq_true, if_false]
  apply BitVec.eq_of_getLsbD_eq
  intro i hi
  interval_cases i <;> simp

end Sys2Proof.Machine
end

