-- ==== Sys2Proof/Tests/Slice0.lean ====
section
/-! SUPPORT. Tests and witnesses. The encodings are written out from the tables of spec/30_encoding.md and the field
positions of spec/opcode_table.json; the expected results of the instruction tests are those of the vectors of
spec/95_test_vectors.md, whose number ends a test's name. The witnesses show states that meet the hypotheses of the
statements in Obligations.lean. -/

namespace Sys2Proof.Tests

open Sys2Proof.Machine

set_option Elab.async false

/-! ### Well-formedness: each check refuses a term -/

/-- An immediate is neither a destination nor an address; its value fits its length (R151 to R154, U1). -/
theorem test_wf_immediates :
    (!(Instr.addb (.imm 1) (.imm 2)).wf && !(Instr.jump (.imm 1)).wf && !(Instr.addb (.imm 0x100) (.base (.reg 2))).wf &&
      !(Instr.sbitb (.imm 1) (.imm 2)).wf && (Instr.addb (.imm 0xFF) (.base (.reg 2))).wf) = true := by
  decide +kernel

/-- Code 10011, and an illegal base mode of a Scaled Index (U2). -/
theorem test_wf_modes :
    (!(Instr.negb (.base (.illegal 0b10011)) (.base (.reg 2))).wf &&
      !(Instr.negb (.scaled .w 1 (.illegal 0b10100)) (.base (.reg 2))).wf &&
      (Instr.negb (.scaled .w 1 .tos) (.base (.reg 2))).wf) = true := by
  decide +kernel

/-- An odd register for an operand of length 2i or a Long operand (U13, U14). -/
theorem test_wf_pairs :
    (!(Instr.meid (.base (.reg 1)) (.base (.reg 3))).wf && (Instr.meid (.base (.reg 1)) (.base (.reg 4))).wf &&
      !(Instr.movl (.base (.reg 1)) (.base (.reg 2))).wf && (Instr.movf (.base (.reg 1)) (.base (.reg 3))).wf) = true := by
  decide +kernel

/-- A displacement outside its range (U3), as an operand's and as an instruction's own. -/
theorem test_wf_displacements :
    (!(Instr.jump (.base (.abs (.d4 16277216)))).wf && (Instr.jump (.base (.abs (.d4 16277215)))).wf &&
      !(Instr.br (.d4 0x3F000000)).wf && (Instr.br (.d4 (-16277215))).wf) = true := by
  decide +kernel

/-- A register code with another length (U20), or unassigned (U22, R175). -/
theorem test_wf_register_codes :
    (!(Instr.lprb 0b1000 (.base (.reg 0))).wf && !(Instr.sprd 0b0011 (.base (.reg 0))).wf &&
      (Instr.sprd 0b1000 (.base (.reg 0))).wf && !(Instr.lmr 0b0010 (.base (.reg 0)) 0).wf &&
      (Instr.lmr 0b1100 (.base (.reg 0)) 0).wf) = true := by
  decide +kernel

/-- Block lengths (U8), field lengths (U10), string options (U6). -/
theorem test_wf_lengths_and_options :
    (!(Instr.movmw (.base (.reg 0)) (.base (.reg 1)) (.d1 3)).wf && !(Instr.cmpmb (.base (.reg 0)) (.base (.reg 1)) (.d1 16)).wf &&
      (Instr.movmw (.base (.reg 0)) (.base (.reg 1)) (.d1 14)).wf &&
      !(Instr.extb 1 (.base (.reg 0)) (.base (.reg 2)) (.d1 33)).wf && !(Instr.insb 1 (.imm 1) (.base (.reg 2)) (.d1 0)).wf &&
      !(Instr.movsb ⟨.reserved, false⟩ 0).wf && (Instr.movsb ⟨.untilMatch, false⟩ 0).wf) = true := by
  decide +kernel

/-- Fields that must be zero (U41), and an External operand of ADDR, which makes it LXPD (R192). -/
theorem test_wf_unused_fields :
    (!(Instr.setcfg 1 1).wf && !(Instr.skpsd ⟨.neither, true⟩ 32).wf && !(Instr.ffsb (.imm 1) (.base (.reg 2)) 1).wf &&
      !(Instr.lfsr (.imm 1) 1).wf && !(Instr.rdval (.base (.reg 1)) 16).wf && !(Instr.smr 0 (.base (.reg 1)) 1).wf &&
      !(Instr.addr (.base (.ext (.d1 1) (.d1 2))) (.base (.reg 0))).wf && (Instr.lxpd (.d1 1) (.d1 2) (.base (.reg 0))).wf)
      = true := by
  decide +kernel

/-- A row that is no instruction holds an encoding of that row, and of no earlier one (R190). -/
theorem test_wf_rows_that_are_no_instruction :
    (!(Instr.undX6Other 0x16).wf && !(Instr.undX6Other 0x41).wf && (Instr.undX6Other 0x06).wf &&
      !(Instr.faultF6I10 0x00004E).wf && (Instr.faultF6I10 0x00024E).wf) = true := by
  decide +kernel

/-! ### Decoding: one encoding of each row of spec/opcode_table.json

The encodings put R2 (00010) in the first general operand and R4 (00100) in the second; a row that is no instruction has
zeros where it leaves a bit open. -/

/-- The bytes are one whole encoding, of this instruction. -/
noncomputable def reads (bs : List Byte) (i : Instr) : Bool :=
  match decode bs with
  | .ok (j, []) => j == i
  | _ => false

theorem test_decode_format0 :
    (reads [0x0A, 0x11] (.beq (.d1 17)) &&
      reads [0x1A, 0x11] (.bne (.d1 17)) &&
      reads [0x2A, 0x11] (.bcs (.d1 17)) &&
      reads [0x3A, 0x11] (.bcc (.d1 17)) &&
      reads [0x4A, 0x11] (.bhi (.d1 17)) &&
      reads [0x5A, 0x11] (.bls (.d1 17)) &&
      reads [0x6A, 0x11] (.bgt (.d1 17)) &&
      reads [0x7A, 0x11] (.ble (.d1 17)) &&
      reads [0x8A, 0x11] (.bfs (.d1 17)) &&
      reads [0x9A, 0x11] (.bfc (.d1 17)) &&
      reads [0xAA, 0x11] (.blo (.d1 17)) &&
      reads [0xBA, 0x11] (.bhs (.d1 17)) &&
      reads [0xCA, 0x11] (.blt (.d1 17)) &&
      reads [0xDA, 0x11] (.bge (.d1 17)) &&
      reads [0xEA, 0x11] (.br (.d1 17)) &&
      reads [0xFA, 0x11] (.bcond1111 (.d1 17))) = true := by
  decide +kernel

theorem test_decode_format1 :
    (reads [0x02, 0x11] (.bsr (.d1 17)) &&
      reads [0x12, 0x11] (.ret (.d1 17)) &&
      reads [0x22, 0x11] (.cxp (.d1 17)) &&
      reads [0x32, 0x11] (.rxp (.d1 17)) &&
      reads [0x42, 0x11] (.rett (.d1 17)) &&
      reads [0x52] (.reti) &&
      reads [0x62, 0x28] (.save 0x28) &&
      reads [0x72, 0x28] (.restore 0x28) &&
      reads [0x82, 0x28, 0x11] (.enter 0x28 (.d1 17)) &&
      reads [0x92, 0x28] (.exit 0x28) &&
      reads [0xA2] (.nop) &&
      reads [0xB2] (.wait) &&
      reads [0xC2] (.dia) &&
      reads [0xD2] (.flag) &&
      reads [0xE2] (.svc) &&
      reads [0xF2] (.bpt)) = true := by
  decide +kernel

theorem test_decode_format2_1 :
    (reads [0x8C, 0x14] (.addqb 9 (.base (.reg 2))) &&
      reads [0x9C, 0x14] (.cmpqb 9 (.base (.reg 2))) &&
      reads [0x2C, 0x15] (.sprb 10 (.base (.reg 2))) &&
      reads [0xCC, 0x14, 0x11] (.acbb 9 (.base (.reg 2)) (.d1 17)) &&
      reads [0xDC, 0x14] (.movqb 9 (.base (.reg 2))) &&
      reads [0x6C, 0x15] (.lprb 10 (.base (.reg 2))) &&
      reads [0x3C, 0x10] (.seqb (.base (.reg 2))) &&
      reads [0xBC, 0x10] (.sneb (.base (.reg 2))) &&
      reads [0x3C, 0x11] (.scsb (.base (.reg 2))) &&
      reads [0xBC, 0x11] (.sccb (.base (.reg 2))) &&
      reads [0x3C, 0x12] (.shib (.base (.reg 2))) &&
      reads [0xBC, 0x12] (.slsb (.base (.reg 2))) &&
      reads [0x3C, 0x13] (.sgtb (.base (.reg 2))) &&
      reads [0xBC, 0x13] (.sleb (.base (.reg 2))) &&
      reads [0x3C, 0x14] (.sfsb (.base (.reg 2))) &&
      reads [0xBC, 0x14] (.sfcb (.base (.reg 2))) &&
      reads [0x3C, 0x15] (.slob (.base (.reg 2))) &&
      reads [0xBC, 0x15] (.shsb (.base (.reg 2))) &&
      reads [0x3C, 0x16] (.sltb (.base (.reg 2))) &&
      reads [0xBC, 0x16] (.sgeb (.base (.reg 2))) &&
      reads [0x3C, 0x17] (.srb (.base (.reg 2))) &&
      reads [0xBC, 0x17] (.s1111b (.base (.reg 2))) &&
      reads [0x8D, 0x14] (.addqw 9 (.base (.reg 2))) &&
      reads [0x9D, 0x14] (.cmpqw 9 (.base (.reg 2))) &&
      reads [0x2D, 0x15] (.sprw 10 (.base (.reg 2))) &&
      reads [0xCD, 0x14, 0x11] (.acbw 9 (.base (.reg 2)) (.d1 17)) &&
      reads [0xDD, 0x14] (.movqw 9 (.base (.reg 2))) &&
      reads [0x6D, 0x15] (.lprw 10 (.base (.reg 2))) &&
      reads [0x3D, 0x10] (.seqw (.base (.reg 2))) &&
      reads [0xBD, 0x10] (.snew (.base (.reg 2))) &&
      reads [0x3D, 0x11] (.scsw (.base (.reg 2))) &&
      reads [0xBD, 0x11] (.sccw (.base (.reg 2)))) = true := by
  decide +kernel

theorem test_decode_format2_2 :
    (reads [0x3D, 0x12] (.shiw (.base (.reg 2))) &&
      reads [0xBD, 0x12] (.slsw (.base (.reg 2))) &&
      reads [0x3D, 0x13] (.sgtw (.base (.reg 2))) &&
      reads [0xBD, 0x13] (.slew (.base (.reg 2))) &&
      reads [0x3D, 0x14] (.sfsw (.base (.reg 2))) &&
      reads [0xBD, 0x14] (.sfcw (.base (.reg 2))) &&
      reads [0x3D, 0x15] (.slow (.base (.reg 2))) &&
      reads [0xBD, 0x15] (.shsw (.base (.reg 2))) &&
      reads [0x3D, 0x16] (.sltw (.base (.reg 2))) &&
      reads [0xBD, 0x16] (.sgew (.base (.reg 2))) &&
      reads [0x3D, 0x17] (.srw (.base (.reg 2))) &&
      reads [0xBD, 0x17] (.s1111w (.base (.reg 2))) &&
      reads [0x8F, 0x14] (.addqd 9 (.base (.reg 2))) &&
      reads [0x9F, 0x14] (.cmpqd 9 (.base (.reg 2))) &&
      reads [0x2F, 0x15] (.sprd 10 (.base (.reg 2))) &&
      reads [0xCF, 0x14, 0x11] (.acbd 9 (.base (.reg 2)) (.d1 17)) &&
      reads [0xDF, 0x14] (.movqd 9 (.base (.reg 2))) &&
      reads [0x6F, 0x15] (.lprd 10 (.base (.reg 2))) &&
      reads [0x3F, 0x10] (.seqd (.base (.reg 2))) &&
      reads [0xBF, 0x10] (.sned (.base (.reg 2))) &&
      reads [0x3F, 0x11] (.scsd (.base (.reg 2))) &&
      reads [0xBF, 0x11] (.sccd (.base (.reg 2))) &&
      reads [0x3F, 0x12] (.shid (.base (.reg 2))) &&
      reads [0xBF, 0x12] (.slsd (.base (.reg 2))) &&
      reads [0x3F, 0x13] (.sgtd (.base (.reg 2))) &&
      reads [0xBF, 0x13] (.sled (.base (.reg 2))) &&
      reads [0x3F, 0x14] (.sfsd (.base (.reg 2))) &&
      reads [0xBF, 0x14] (.sfcd (.base (.reg 2))) &&
      reads [0x3F, 0x15] (.slod (.base (.reg 2))) &&
      reads [0xBF, 0x15] (.shsd (.base (.reg 2))) &&
      reads [0x3F, 0x16] (.sltd (.base (.reg 2))) &&
      reads [0xBF, 0x16] (.sged (.base (.reg 2)))) = true := by
  decide +kernel

theorem test_decode_format2_3 :
    (reads [0x3F, 0x17] (.srd (.base (.reg 2))) &&
      reads [0xBF, 0x17] (.s1111d (.base (.reg 2)))) = true := by
  decide +kernel

theorem test_decode_format3 :
    (reads [0x7F, 0x10] (.cxpd (.base (.reg 2))) &&
      reads [0x7F, 0x12] (.jump (.base (.reg 2))) &&
      reads [0x7F, 0x16] (.jsr (.base (.reg 2))) &&
      reads [0x7C, 0x11] (.bicpsrb (.base (.reg 2))) &&
      reads [0x7C, 0x13] (.bispsrb (.base (.reg 2))) &&
      reads [0x7C, 0x15] (.adjspb (.base (.reg 2))) &&
      reads [0x7C, 0x17] (.caseb (.base (.reg 2))) &&
      reads [0x7D, 0x11] (.bicpsrw (.base (.reg 2))) &&
      reads [0x7D, 0x13] (.bispsrw (.base (.reg 2))) &&
      reads [0x7D, 0x15] (.adjspw (.base (.reg 2))) &&
      reads [0x7D, 0x17] (.casew (.base (.reg 2))) &&
      reads [0x7F, 0x15] (.adjspd (.base (.reg 2))) &&
      reads [0x7F, 0x17] (.cased (.base (.reg 2)))) = true := by
  decide +kernel

theorem test_decode_format4_1 :
    (reads [0x00, 0x11] (.addb (.base (.reg 2)) (.base (.reg 4))) &&
      reads [0x01, 0x11] (.addw (.base (.reg 2)) (.base (.reg 4))) &&
      reads [0x03, 0x11] (.addd (.base (.reg 2)) (.base (.reg 4))) &&
      reads [0x04, 0x11] (.cmpb (.base (.reg 2)) (.base (.reg 4))) &&
      reads [0x05, 0x11] (.cmpw (.base (.reg 2)) (.base (.reg 4))) &&
      reads [0x07, 0x11] (.cmpd (.base (.reg 2)) (.base (.reg 4))) &&
      reads [0x08, 0x11] (.bicb (.base (.reg 2)) (.base (.reg 4))) &&
      reads [0x09, 0x11] (.bicw (.base (.reg 2)) (.base (.reg 4))) &&
      reads [0x0B, 0x11] (.bicd (.base (.reg 2)) (.base (.reg 4))) &&
      reads [0x10, 0x11] (.addcb (.base (.reg 2)) (.base (.reg 4))) &&
      reads [0x11, 0x11] (.addcw (.base (.reg 2)) (.base (.reg 4))) &&
      reads [0x13, 0x11] (.addcd (.base (.reg 2)) (.base (.reg 4))) &&
      reads [0x14, 0x11] (.movb (.base (.reg 2)) (.base (.reg 4))) &&
      reads [0x15, 0x11] (.movw (.base (.reg 2)) (.base (.reg 4))) &&
      reads [0x17, 0x11] (.movd (.base (.reg 2)) (.base (.reg 4))) &&
      reads [0x18, 0x11] (.orb (.base (.reg 2)) (.base (.reg 4))) &&
      reads [0x19, 0x11] (.orw (.base (.reg 2)) (.base (.reg 4))) &&
      reads [0x1B, 0x11] (.ord (.base (.reg 2)) (.base (.reg 4))) &&
      reads [0x20, 0x11] (.subb (.base (.reg 2)) (.base (.reg 4))) &&
      reads [0x21, 0x11] (.subw (.base (.reg 2)) (.base (.reg 4))) &&
      reads [0x23, 0x11] (.subd (.base (.reg 2)) (.base (.reg 4))) &&
      reads [0x28, 0x11] (.andb (.base (.reg 2)) (.base (.reg 4))) &&
      reads [0x29, 0x11] (.andw (.base (.reg 2)) (.base (.reg 4))) &&
      reads [0x2B, 0x11] (.andd (.base (.reg 2)) (.base (.reg 4))) &&
      reads [0x30, 0x11] (.subcb (.base (.reg 2)) (.base (.reg 4))) &&
      reads [0x31, 0x11] (.subcw (.base (.reg 2)) (.base (.reg 4))) &&
      reads [0x33, 0x11] (.subcd (.base (.reg 2)) (.base (.reg 4))) &&
      reads [0x34, 0x11] (.tbitb (.base (.reg 2)) (.base (.reg 4))) &&
      reads [0x35, 0x11] (.tbitw (.base (.reg 2)) (.base (.reg 4))) &&
      reads [0x37, 0x11] (.tbitd (.base (.reg 2)) (.base (.reg 4))) &&
      reads [0x38, 0x11] (.xorb (.base (.reg 2)) (.base (.reg 4))) &&
      reads [0x39, 0x11] (.xorw (.base (.reg 2)) (.base (.reg 4)))) = true := by
  decide +kernel

theorem test_decode_format4_2 :
    (reads [0x3B, 0x11] (.xord (.base (.reg 2)) (.base (.reg 4))) &&
      reads [0x27, 0x11] (.addr (.base (.reg 2)) (.base (.reg 4))) &&
      reads [0x27, 0xB1, 0x03, 0x05] (.lxpd (.d1 3) (.d1 5) (.base (.reg 4)))) = true := by
  decide +kernel

theorem test_decode_format5 :
    (reads [0x0E, 0x00, 0x07] (.movsb ⟨.untilMatch, true⟩ 0) &&
      reads [0x0E, 0x01, 0x07] (.movsw ⟨.untilMatch, true⟩ 0) &&
      reads [0x0E, 0x03, 0x07] (.movsd ⟨.untilMatch, true⟩ 0) &&
      reads [0x0E, 0x80, 0x07] (.movst ⟨.untilMatch, true⟩ 0) &&
      reads [0x0E, 0x04, 0x07] (.cmpsb ⟨.untilMatch, true⟩ 0) &&
      reads [0x0E, 0x05, 0x07] (.cmpsw ⟨.untilMatch, true⟩ 0) &&
      reads [0x0E, 0x07, 0x07] (.cmpsd ⟨.untilMatch, true⟩ 0) &&
      reads [0x0E, 0x84, 0x07] (.cmpst ⟨.untilMatch, true⟩ 0) &&
      reads [0x0E, 0x0C, 0x07] (.skpsb ⟨.untilMatch, true⟩ 0) &&
      reads [0x0E, 0x0D, 0x07] (.skpsw ⟨.untilMatch, true⟩ 0) &&
      reads [0x0E, 0x0F, 0x07] (.skpsd ⟨.untilMatch, true⟩ 0) &&
      reads [0x0E, 0x8C, 0x07] (.skpst ⟨.untilMatch, true⟩ 0) &&
      reads [0x0E, 0x0B, 0x03] (.setcfg 6 0)) = true := by
  decide +kernel

theorem test_decode_format6_1 :
    (reads [0x4E, 0x00, 0x11] (.rotb (.base (.reg 2)) (.base (.reg 4))) &&
      reads [0x4E, 0x01, 0x11] (.rotw (.base (.reg 2)) (.base (.reg 4))) &&
      reads [0x4E, 0x03, 0x11] (.rotd (.base (.reg 2)) (.base (.reg 4))) &&
      reads [0x4E, 0x04, 0x11] (.ashb (.base (.reg 2)) (.base (.reg 4))) &&
      reads [0x4E, 0x05, 0x11] (.ashw (.base (.reg 2)) (.base (.reg 4))) &&
      reads [0x4E, 0x07, 0x11] (.ashd (.base (.reg 2)) (.base (.reg 4))) &&
      reads [0x4E, 0x08, 0x11] (.cbitb (.base (.reg 2)) (.base (.reg 4))) &&
      reads [0x4E, 0x09, 0x11] (.cbitw (.base (.reg 2)) (.base (.reg 4))) &&
      reads [0x4E, 0x0B, 0x11] (.cbitd (.base (.reg 2)) (.base (.reg 4))) &&
      reads [0x4E, 0x0C, 0x11] (.cbitib (.base (.reg 2)) (.base (.reg 4))) &&
      reads [0x4E, 0x0D, 0x11] (.cbitiw (.base (.reg 2)) (.base (.reg 4))) &&
      reads [0x4E, 0x0F, 0x11] (.cbitid (.base (.reg 2)) (.base (.reg 4))) &&
      reads [0x4E, 0x14, 0x11] (.lshb (.base (.reg 2)) (.base (.reg 4))) &&
      reads [0x4E, 0x15, 0x11] (.lshw (.base (.reg 2)) (.base (.reg 4))) &&
      reads [0x4E, 0x17, 0x11] (.lshd (.base (.reg 2)) (.base (.reg 4))) &&
      reads [0x4E, 0x18, 0x11] (.sbitb (.base (.reg 2)) (.base (.reg 4))) &&
      reads [0x4E, 0x19, 0x11] (.sbitw (.base (.reg 2)) (.base (.reg 4))) &&
      reads [0x4E, 0x1B, 0x11] (.sbitd (.base (.reg 2)) (.base (.reg 4))) &&
      reads [0x4E, 0x1C, 0x11] (.sbitib (.base (.reg 2)) (.base (.reg 4))) &&
      reads [0x4E, 0x1D, 0x11] (.sbitiw (.base (.reg 2)) (.base (.reg 4))) &&
      reads [0x4E, 0x1F, 0x11] (.sbitid (.base (.reg 2)) (.base (.reg 4))) &&
      reads [0x4E, 0x20, 0x11] (.negb (.base (.reg 2)) (.base (.reg 4))) &&
      reads [0x4E, 0x21, 0x11] (.negw (.base (.reg 2)) (.base (.reg 4))) &&
      reads [0x4E, 0x23, 0x11] (.negd (.base (.reg 2)) (.base (.reg 4))) &&
      reads [0x4E, 0x24, 0x11] (.notb (.base (.reg 2)) (.base (.reg 4))) &&
      reads [0x4E, 0x25, 0x11] (.notw (.base (.reg 2)) (.base (.reg 4))) &&
      reads [0x4E, 0x27, 0x11] (.notd (.base (.reg 2)) (.base (.reg 4))) &&
      reads [0x4E, 0x2C, 0x11] (.subpb (.base (.reg 2)) (.base (.reg 4))) &&
      reads [0x4E, 0x2D, 0x11] (.subpw (.base (.reg 2)) (.base (.reg 4))) &&
      reads [0x4E, 0x2F, 0x11] (.subpd (.base (.reg 2)) (.base (.reg 4))) &&
      reads [0x4E, 0x30, 0x11] (.absb (.base (.reg 2)) (.base (.reg 4))) &&
      reads [0x4E, 0x31, 0x11] (.absw (.base (.reg 2)) (.base (.reg 4)))) = true := by
  decide +kernel

theorem test_decode_format6_2 :
    (reads [0x4E, 0x33, 0x11] (.absd (.base (.reg 2)) (.base (.reg 4))) &&
      reads [0x4E, 0x34, 0x11] (.comb (.base (.reg 2)) (.base (.reg 4))) &&
      reads [0x4E, 0x35, 0x11] (.comw (.base (.reg 2)) (.base (.reg 4))) &&
      reads [0x4E, 0x37, 0x11] (.comd (.base (.reg 2)) (.base (.reg 4))) &&
      reads [0x4E, 0x38, 0x11] (.ibitb (.base (.reg 2)) (.base (.reg 4))) &&
      reads [0x4E, 0x39, 0x11] (.ibitw (.base (.reg 2)) (.base (.reg 4))) &&
      reads [0x4E, 0x3B, 0x11] (.ibitd (.base (.reg 2)) (.base (.reg 4))) &&
      reads [0x4E, 0x3C, 0x11] (.addpb (.base (.reg 2)) (.base (.reg 4))) &&
      reads [0x4E, 0x3D, 0x11] (.addpw (.base (.reg 2)) (.base (.reg 4))) &&
      reads [0x4E, 0x3F, 0x11] (.addpd (.base (.reg 2)) (.base (.reg 4)))) = true := by
  decide +kernel

theorem test_decode_format7_1 :
    (reads [0xCE, 0x00, 0x11, 0x11] (.movmb (.base (.reg 2)) (.base (.reg 4)) (.d1 17)) &&
      reads [0xCE, 0x01, 0x11, 0x11] (.movmw (.base (.reg 2)) (.base (.reg 4)) (.d1 17)) &&
      reads [0xCE, 0x03, 0x11, 0x11] (.movmd (.base (.reg 2)) (.base (.reg 4)) (.d1 17)) &&
      reads [0xCE, 0x04, 0x11, 0x11] (.cmpmb (.base (.reg 2)) (.base (.reg 4)) (.d1 17)) &&
      reads [0xCE, 0x05, 0x11, 0x11] (.cmpmw (.base (.reg 2)) (.base (.reg 4)) (.d1 17)) &&
      reads [0xCE, 0x07, 0x11, 0x11] (.cmpmd (.base (.reg 2)) (.base (.reg 4)) (.d1 17)) &&
      reads [0xCE, 0x08, 0x11, 0x76] (.inssb (.base (.reg 2)) (.base (.reg 4)) 3 22) &&
      reads [0xCE, 0x09, 0x11, 0x76] (.inssw (.base (.reg 2)) (.base (.reg 4)) 3 22) &&
      reads [0xCE, 0x0B, 0x11, 0x76] (.inssd (.base (.reg 2)) (.base (.reg 4)) 3 22) &&
      reads [0xCE, 0x0C, 0x11, 0x76] (.extsb (.base (.reg 2)) (.base (.reg 4)) 3 22) &&
      reads [0xCE, 0x0D, 0x11, 0x76] (.extsw (.base (.reg 2)) (.base (.reg 4)) 3 22) &&
      reads [0xCE, 0x0F, 0x11, 0x76] (.extsd (.base (.reg 2)) (.base (.reg 4)) 3 22) &&
      reads [0xCE, 0x20, 0x11] (.mulb (.base (.reg 2)) (.base (.reg 4))) &&
      reads [0xCE, 0x21, 0x11] (.mulw (.base (.reg 2)) (.base (.reg 4))) &&
      reads [0xCE, 0x23, 0x11] (.muld (.base (.reg 2)) (.base (.reg 4))) &&
      reads [0xCE, 0x24, 0x11] (.meib (.base (.reg 2)) (.base (.reg 4))) &&
      reads [0xCE, 0x25, 0x11] (.meiw (.base (.reg 2)) (.base (.reg 4))) &&
      reads [0xCE, 0x27, 0x11] (.meid (.base (.reg 2)) (.base (.reg 4))) &&
      reads [0xCE, 0x2C, 0x11] (.deib (.base (.reg 2)) (.base (.reg 4))) &&
      reads [0xCE, 0x2D, 0x11] (.deiw (.base (.reg 2)) (.base (.reg 4))) &&
      reads [0xCE, 0x2F, 0x11] (.deid (.base (.reg 2)) (.base (.reg 4))) &&
      reads [0xCE, 0x30, 0x11] (.quob (.base (.reg 2)) (.base (.reg 4))) &&
      reads [0xCE, 0x31, 0x11] (.quow (.base (.reg 2)) (.base (.reg 4))) &&
      reads [0xCE, 0x33, 0x11] (.quod (.base (.reg 2)) (.base (.reg 4))) &&
      reads [0xCE, 0x34, 0x11] (.remb (.base (.reg 2)) (.base (.reg 4))) &&
      reads [0xCE, 0x35, 0x11] (.remw (.base (.reg 2)) (.base (.reg 4))) &&
      reads [0xCE, 0x37, 0x11] (.remd (.base (.reg 2)) (.base (.reg 4))) &&
      reads [0xCE, 0x38, 0x11] (.modb (.base (.reg 2)) (.base (.reg 4))) &&
      reads [0xCE, 0x39, 0x11] (.modw (.base (.reg 2)) (.base (.reg 4))) &&
      reads [0xCE, 0x3B, 0x11] (.modd (.base (.reg 2)) (.base (.reg 4))) &&
      reads [0xCE, 0x3C, 0x11] (.divb (.base (.reg 2)) (.base (.reg 4))) &&
      reads [0xCE, 0x3D, 0x11] (.divw (.base (.reg 2)) (.base (.reg 4)))) = true := by
  decide +kernel

theorem test_decode_format7_2 :
    (reads [0xCE, 0x3F, 0x11] (.divd (.base (.reg 2)) (.base (.reg 4))) &&
      reads [0xCE, 0x10, 0x11] (.movxbw (.base (.reg 2)) (.base (.reg 4))) &&
      reads [0xCE, 0x14, 0x11] (.movzbw (.base (.reg 2)) (.base (.reg 4))) &&
      reads [0xCE, 0x18, 0x11] (.movzbd (.base (.reg 2)) (.base (.reg 4))) &&
      reads [0xCE, 0x19, 0x11] (.movzwd (.base (.reg 2)) (.base (.reg 4))) &&
      reads [0xCE, 0x1C, 0x11] (.movxbd (.base (.reg 2)) (.base (.reg 4))) &&
      reads [0xCE, 0x1D, 0x11] (.movxwd (.base (.reg 2)) (.base (.reg 4)))) = true := by
  decide +kernel

theorem test_decode_format8 :
    (reads [0x2E, 0x28, 0x11, 0x11] (.extb 5 (.base (.reg 2)) (.base (.reg 4)) (.d1 17)) &&
      reads [0xAE, 0x28, 0x11, 0x11] (.insb 5 (.base (.reg 2)) (.base (.reg 4)) (.d1 17)) &&
      reads [0xEE, 0x28, 0x11] (.checkb 5 (.base (.reg 2)) (.base (.reg 4))) &&
      reads [0x2E, 0x2C, 0x11] (.indexb 5 (.base (.reg 2)) (.base (.reg 4))) &&
      reads [0x6E, 0x04, 0x11] (.ffsb (.base (.reg 2)) (.base (.reg 4)) 0) &&
      reads [0xAE, 0x0C, 0x11] (.movsub (.base (.reg 2)) (.base (.reg 4))) &&
      reads [0xAE, 0x1C, 0x11] (.movusb (.base (.reg 2)) (.base (.reg 4))) &&
      reads [0x2E, 0x29, 0x11, 0x11] (.extw 5 (.base (.reg 2)) (.base (.reg 4)) (.d1 17)) &&
      reads [0xAE, 0x29, 0x11, 0x11] (.insw 5 (.base (.reg 2)) (.base (.reg 4)) (.d1 17)) &&
      reads [0xEE, 0x29, 0x11] (.checkw 5 (.base (.reg 2)) (.base (.reg 4))) &&
      reads [0x2E, 0x2D, 0x11] (.indexw 5 (.base (.reg 2)) (.base (.reg 4))) &&
      reads [0x6E, 0x05, 0x11] (.ffsw (.base (.reg 2)) (.base (.reg 4)) 0) &&
      reads [0xAE, 0x0D, 0x11] (.movsuw (.base (.reg 2)) (.base (.reg 4))) &&
      reads [0xAE, 0x1D, 0x11] (.movusw (.base (.reg 2)) (.base (.reg 4))) &&
      reads [0x2E, 0x2B, 0x11, 0x11] (.extd 5 (.base (.reg 2)) (.base (.reg 4)) (.d1 17)) &&
      reads [0xAE, 0x2B, 0x11, 0x11] (.insd 5 (.base (.reg 2)) (.base (.reg 4)) (.d1 17)) &&
      reads [0xEE, 0x2B, 0x11] (.checkd 5 (.base (.reg 2)) (.base (.reg 4))) &&
      reads [0x2E, 0x2F, 0x11] (.indexd 5 (.base (.reg 2)) (.base (.reg 4))) &&
      reads [0x6E, 0x07, 0x11] (.ffsd (.base (.reg 2)) (.base (.reg 4)) 0) &&
      reads [0xAE, 0x0F, 0x11] (.movsud (.base (.reg 2)) (.base (.reg 4))) &&
      reads [0xAE, 0x1F, 0x11] (.movusd (.base (.reg 2)) (.base (.reg 4))) &&
      reads [0x6E, 0x2B, 0x11] (.cvtp 5 (.base (.reg 2)) (.base (.reg 4)))) = true := by
  decide +kernel

theorem test_decode_format9 :
    (reads [0x3E, 0x04, 0x11] (.movbf (.base (.reg 2)) (.base (.reg 4))) &&
      reads [0x3E, 0x24, 0x11] (.roundfb (.base (.reg 2)) (.base (.reg 4))) &&
      reads [0x3E, 0x2C, 0x11] (.truncfb (.base (.reg 2)) (.base (.reg 4))) &&
      reads [0x3E, 0x3C, 0x11] (.floorfb (.base (.reg 2)) (.base (.reg 4))) &&
      reads [0x3E, 0x05, 0x11] (.movwf (.base (.reg 2)) (.base (.reg 4))) &&
      reads [0x3E, 0x25, 0x11] (.roundfw (.base (.reg 2)) (.base (.reg 4))) &&
      reads [0x3E, 0x2D, 0x11] (.truncfw (.base (.reg 2)) (.base (.reg 4))) &&
      reads [0x3E, 0x3D, 0x11] (.floorfw (.base (.reg 2)) (.base (.reg 4))) &&
      reads [0x3E, 0x07, 0x11] (.movdf (.base (.reg 2)) (.base (.reg 4))) &&
      reads [0x3E, 0x27, 0x11] (.roundfd (.base (.reg 2)) (.base (.reg 4))) &&
      reads [0x3E, 0x2F, 0x11] (.truncfd (.base (.reg 2)) (.base (.reg 4))) &&
      reads [0x3E, 0x3F, 0x11] (.floorfd (.base (.reg 2)) (.base (.reg 4))) &&
      reads [0x3E, 0x00, 0x11] (.movbl (.base (.reg 2)) (.base (.reg 4))) &&
      reads [0x3E, 0x20, 0x11] (.roundlb (.base (.reg 2)) (.base (.reg 4))) &&
      reads [0x3E, 0x28, 0x11] (.trunclb (.base (.reg 2)) (.base (.reg 4))) &&
      reads [0x3E, 0x38, 0x11] (.floorlb (.base (.reg 2)) (.base (.reg 4))) &&
      reads [0x3E, 0x01, 0x11] (.movwl (.base (.reg 2)) (.base (.reg 4))) &&
      reads [0x3E, 0x21, 0x11] (.roundlw (.base (.reg 2)) (.base (.reg 4))) &&
      reads [0x3E, 0x29, 0x11] (.trunclw (.base (.reg 2)) (.base (.reg 4))) &&
      reads [0x3E, 0x39, 0x11] (.floorlw (.base (.reg 2)) (.base (.reg 4))) &&
      reads [0x3E, 0x03, 0x11] (.movdl (.base (.reg 2)) (.base (.reg 4))) &&
      reads [0x3E, 0x23, 0x11] (.roundld (.base (.reg 2)) (.base (.reg 4))) &&
      reads [0x3E, 0x2B, 0x11] (.truncld (.base (.reg 2)) (.base (.reg 4))) &&
      reads [0x3E, 0x3B, 0x11] (.floorld (.base (.reg 2)) (.base (.reg 4))) &&
      reads [0x3E, 0x0F, 0x10] (.lfsr (.base (.reg 2)) 0) &&
      reads [0x3E, 0x16, 0x11] (.movlf (.base (.reg 2)) (.base (.reg 4))) &&
      reads [0x3E, 0x1B, 0x11] (.movfl (.base (.reg 2)) (.base (.reg 4))) &&
      reads [0x3E, 0x37, 0x01] (.sfsr (.base (.reg 4)) 0)) = true := by
  decide +kernel

theorem test_decode_format11 :
    (reads [0xBE, 0x01, 0x11] (.addf (.base (.reg 2)) (.base (.reg 4))) &&
      reads [0xBE, 0x00, 0x11] (.addl (.base (.reg 2)) (.base (.reg 4))) &&
      reads [0xBE, 0x05, 0x11] (.movf (.base (.reg 2)) (.base (.reg 4))) &&
      reads [0xBE, 0x04, 0x11] (.movl (.base (.reg 2)) (.base (.reg 4))) &&
      reads [0xBE, 0x09, 0x11] (.cmpf (.base (.reg 2)) (.base (.reg 4))) &&
      reads [0xBE, 0x08, 0x11] (.cmpl (.base (.reg 2)) (.base (.reg 4))) &&
      reads [0xBE, 0x11, 0x11] (.subf (.base (.reg 2)) (.base (.reg 4))) &&
      reads [0xBE, 0x10, 0x11] (.subl (.base (.reg 2)) (.base (.reg 4))) &&
      reads [0xBE, 0x15, 0x11] (.negf (.base (.reg 2)) (.base (.reg 4))) &&
      reads [0xBE, 0x14, 0x11] (.negl (.base (.reg 2)) (.base (.reg 4))) &&
      reads [0xBE, 0x21, 0x11] (.divf (.base (.reg 2)) (.base (.reg 4))) &&
      reads [0xBE, 0x20, 0x11] (.divl (.base (.reg 2)) (.base (.reg 4))) &&
      reads [0xBE, 0x31, 0x11] (.mulf (.base (.reg 2)) (.base (.reg 4))) &&
      reads [0xBE, 0x30, 0x11] (.mull (.base (.reg 2)) (.base (.reg 4))) &&
      reads [0xBE, 0x35, 0x11] (.absf (.base (.reg 2)) (.base (.reg 4))) &&
      reads [0xBE, 0x34, 0x11] (.absl (.base (.reg 2)) (.base (.reg 4)))) = true := by
  decide +kernel

theorem test_decode_format14 :
    (reads [0x1E, 0x03, 0x10] (.rdval (.base (.reg 2)) 0) &&
      reads [0x1E, 0x07, 0x10] (.wrval (.base (.reg 2)) 0) &&
      reads [0x1E, 0x0B, 0x16] (.lmr 12 (.base (.reg 2)) 0) &&
      reads [0x1E, 0x0F, 0x16] (.smr 12 (.base (.reg 2)) 0)) = true := by
  decide +kernel

theorem test_decode_no_instruction_1 :
    (reads [0x16] (.custom16) &&
      reads [0x36] (.custom36) &&
      reads [0xB6] (.customB6) &&
      reads [0x06] (.undX6Other 0x6) &&
      reads [0x7E] (.und7E) &&
      reads [0xFE] (.undFE) &&
      reads [0x9E] (.und9E) &&
      reads [0x5E] (.und5E) &&
      reads [0xDE] (.undDE) &&
      reads [0x8E] (.und8E) &&
      reads [0x7C, 0x04] (.undF3Op1000B 0x47C) &&
      reads [0xFC, 0x00] (.undF3OpOddB 0xFC) &&
      reads [0x7C, 0x00] (.undCXPDIB 0x7C) &&
      reads [0x7C, 0x02] (.undJUMPIB 0x27C) &&
      reads [0x7C, 0x06] (.undJSRIB 0x67C) &&
      reads [0x7D, 0x04] (.undF3Op1000W 0x47D) &&
      reads [0xFD, 0x00] (.undF3OpOddW 0xFD) &&
      reads [0x7D, 0x00] (.undCXPDIW 0x7D) &&
      reads [0x7D, 0x02] (.undJUMPIW 0x27D) &&
      reads [0x7D, 0x06] (.undJSRIW 0x67D) &&
      reads [0x7F, 0x04] (.undF3Op1000D 0x47F) &&
      reads [0xFF, 0x00] (.undF3OpOddD 0xFF) &&
      reads [0x7F, 0x01] (.undBICPSRD 0x17F) &&
      reads [0x7F, 0x03] (.undBISPSRD 0x37F) &&
      reads [0x24, 0x00] (.undADDRIB 0x24) &&
      reads [0x25, 0x00] (.undADDRIW 0x25) &&
      reads [0x0E, 0x20, 0x00] (.undF5Op1xxx 0x200E) &&
      reads [0x0E, 0x10, 0x00] (.undF5OpX1xx 0x100E) &&
      reads [0x0E, 0x08, 0x00] (.undSETCFGI 0x80E) &&
      reads [0x0E, 0x81, 0x00] (.faultF5TI 0x810E) &&
      reads [0x0E, 0x02, 0x00] (.faultF5I10 0x20E) &&
      reads [0x4E, 0x10, 0x00] (.undF6Op0100 0x104E)) = true := by
  decide +kernel

theorem test_decode_no_instruction_2 :
    (reads [0x4E, 0x28, 0x00] (.undF6Op1010 0x284E) &&
      reads [0x4E, 0x02, 0x00] (.faultF6I10 0x24E) &&
      reads [0xCE, 0x28, 0x00] (.undF7Op1010 0x28CE) &&
      reads [0xCE, 0x11, 0x00] (.undMOVXBWI 0x11CE) &&
      reads [0xCE, 0x15, 0x00] (.undMOVZBWI 0x15CE) &&
      reads [0xCE, 0x1B, 0x00] (.undMOVZiDD 0x1BCE) &&
      reads [0xCE, 0x1F, 0x00] (.undMOVXiDD 0x1FCE) &&
      reads [0xCE, 0x02, 0x00] (.faultF7I10 0x2CE) &&
      reads [0xEE, 0x04, 0x00] (.undF8Op111 0x4EE) &&
      reads [0x6E, 0x00, 0x00] (.undCVTPI 0x6E) &&
      reads [0xAE, 0x04, 0x00] (.undF8Op110Reg000 0x4AE) &&
      reads [0xAE, 0x14, 0x00] (.undF8Op110Reg010 0x14AE) &&
      reads [0xAE, 0x24, 0x00] (.undF8Op110Reg100 0x24AE) &&
      reads [0xAE, 0x2C, 0x00] (.undF8Op110Reg101 0x2CAE) &&
      reads [0xAE, 0x34, 0x00] (.undF8Op110Reg110 0x34AE) &&
      reads [0xAE, 0x3C, 0x00] (.undF8Op110Reg111 0x3CAE) &&
      reads [0x2E, 0x02, 0x00] (.faultF8I10 0x22E) &&
      reads [0x3E, 0x08, 0x00] (.undLFSRFi 0x83E) &&
      reads [0x3E, 0x10, 0x00] (.undMOVLFFi 0x103E) &&
      reads [0x3E, 0x18, 0x00] (.undMOVFLFi 0x183E) &&
      reads [0x3E, 0x30, 0x00] (.undSFSRFi 0x303E) &&
      reads [0x3E, 0x02, 0x00] (.faultF9I10 0x23E) &&
      reads [0xBE, 0x0C, 0x00] (.fpuILLEGAL0011 0xCBE) &&
      reads [0xBE, 0x24, 0x00] (.fpuILLEGAL1001 0x24BE) &&
      reads [0xBE, 0x18, 0x00] (.undF11Op011x 0x18BE) &&
      reads [0xBE, 0x28, 0x00] (.undF11Op101x 0x28BE) &&
      reads [0xBE, 0x38, 0x00] (.undF11Op111x 0x38BE) &&
      reads [0xBE, 0x02, 0x00] (.undF11Bit9 0x2BE) &&
      reads [0x1E, 0x20, 0x00] (.undF14Op1xxx 0x201E) &&
      reads [0x1E, 0x10, 0x00] (.undF14OpX1xx 0x101E) &&
      reads [0x1E, 0x00, 0x00] (.undF14I 0x1E)) = true := by
  decide +kernel

/-- Addressing modes, a displacement and an immediate of each length (R164, R178, R183, R188). -/
theorem test_decode_operands :
    (reads [0xC1, 0xD5, 0x04] (.addw (.base (.static (.d1 4))) (.base .tos)) &&
      reads [0xD7, 0xA5, 0xFF, 0xFE, 0xFD, 0xFC] (.movd (.imm 0xFFFEFDFC) (.base .tos)) &&
      reads [0x55, 0xA5, 0x12, 0x34, 0xC0, 0x00, 0x20, 0x00] (.movw (.imm 0x1234) (.base (.abs (.d4 0x2000)))) &&
      reads [0x17, 0x80, 0x08, 0x04] (.movd (.base (.frameRel (.d1 8) (.d1 4))) (.base (.reg 0))) &&
      reads [0x17, 0xB0, 0x01, 0x04] (.movd (.base (.ext (.d1 1) (.d1 4))) (.base (.reg 0))) &&
      reads [0xA7, 0xF0, 0xA9, 0x90, 0x00] (.addr (.scaled .d 1 (.abs (.d2 0x1000))) (.base (.reg 2))) &&
      reads [0x15, 0x40, 0x7F] (.movw (.base (.regRel 0 (.d1 0x7F))) (.base (.reg 0))) &&
      reads [0x14, 0x98, 0x01] (.movb (.base (.illegal 0b10011)) (.base (.reg 0))) = false) := by
  decide +kernel

/-- The word of a table row is fetched and run as the first instruction after Reset. -/
theorem test_table_word :
    (decodeTableWord 8 0xA2 == some .nop &&
      (match step (State.reset.withFetchWord 8 0xA2) with
        | .next t => t.pc == 1
        | _ => false)) = true := by
  decide +kernel

/-! ### Instructions: the vectors of spec/95_test_vectors.md -/

/-- A state whose memory holds some bytes from an address on. -/
def holding (s : State) (a : Nat) (bs : List Byte) : State := { s with mem := storeBytes bs a s.mem }

/-- The bytes of memory from an address on. -/
def bytes (s : State) (a n : Nat) : List Byte := (List.range n).map fun k => Memory.read s.mem (a + k)

/-- The conventions of the vectors: the instruction at A000, the Interrupt Stack from 8000 down, an Interrupt Dispatch
Table at 400 whose descriptor of vector v names module 30 and offset 16 v, that module's code at 2000. -/
def bench : State :=
  let table := (List.range 11).flatMap fun v => [0x30, 0, BitVec.ofNat 8 (16 * v), BitVec.ofNat 8 (16 * v / 256)]
  let s := { State.reset with pc := 0xA000, cfg := 2, sp0 := 0x8000, intbase := 0x400 }
  holding (holding (holding s 0x38 [0x00, 0x20, 0, 0]) 0x30 [0x00, 0x90, 0, 0]) 0x400 table

/-- The state is the one in which the service procedure of a vector begins. -/
def inService (t : State) (vector : Nat) : Bool :=
  t.pc.toNat == 0x2000 + 16 * vector && t.sp0 == 0x7FF8 && t.activity == .afterException

/-- The encoding at PC, run by one step, leaves a state with a property. -/
noncomputable def runs (s : State) (encoding : List Byte) (p : State → Bool) : Bool :=
  match step (holding s s.pc.toNat encoding) with
  | .next t => p t
  | _ => false

/-- The encoding at PC stops the machine with a fault. -/
noncomputable def stops (s : State) (encoding : List Byte) (f : Fault) : Bool :=
  match step (holding s s.pc.toNat encoding) with
  | .fault g => g == f
  | _ => false

theorem test_addf_F1 :
    runs ((bench.setFreg 0 0x3FC00000).setFreg 1 0x40400000) [0xBE, 0x41, 0x00]
      (fun t => t.freg 1 == 0x40900000 && t.fsr == 0x0) = true := by
  decide +kernel

theorem test_addf_F4 :
    runs ({ (bench.setFreg 0 0x33800000).setFreg 1 0x3F800000 with fsr := 0x100 }) [0xBE, 0x41, 0x00]
      (fun t => t.freg 1 == 0x3F800001 && t.fsr == 0x140) = true := by
  decide +kernel

theorem test_subf_F11 :
    runs ((bench.setFreg 1 0x3FC00000).setFreg 0 0x40400000) [0xBE, 0x11, 0x08]
      (fun t => t.freg 0 == 0x3FC00000) = true := by
  decide +kernel

theorem test_mulf_F13 :
    runs ((bench.setFreg 0 0x0D800000).setFreg 1 0x0D800000) [0xBE, 0x71, 0x00]
      (fun t => t.freg 1 == 0x0 && t.fsr == 0x10) = true := by
  decide +kernel

theorem test_mulf_F14 :
    runs ({ (bench.setFreg 0 0x0D800000).setFreg 1 0x0D800000 with fsr := 0x8 }) [0xBE, 0x71, 0x00]
      (fun t => inService t 3 && t.fsr == 0x19 && t.freg 1 == 0x0D800000) = true := by
  decide +kernel

theorem test_mull_F15 :
    runs ((((bench.setFreg 2 0x0).setFreg 3 0x40000000).setFreg 4 0x0).setFreg 5 0x3FF80000) [0xBE, 0x30, 0x11]
      (fun t => t.freg 4 == 0x0 && t.freg 5 == 0x40080000) = true := by
  decide +kernel

theorem test_divf_F16 :
    runs ((bench.setFreg 0 0x40400000).setFreg 1 0x3F800000) [0xBE, 0x61, 0x00]
      (fun t => t.freg 1 == 0x3EAAAAAB && t.fsr == 0x40) = true := by
  decide +kernel

theorem test_divf_F20 :
    runs ((bench.setFreg 0 0x80000000).setFreg 1 0x0) [0xBE, 0x61, 0x00]
      (fun t => inService t 3 && t.fsr == 0x5) = true := by
  decide +kernel

theorem test_negf_F22 :
    runs (bench.setFreg 0 0x1) [0xBE, 0x55, 0x00]
      (fun t => inService t 3 && t.fsr == 0x5) = true := by
  decide +kernel

theorem test_movf_F23 :
    runs (bench.setFreg 0 0x7FC00000) [0xBE, 0x45, 0x00]
      (fun t => t.freg 1 == 0x7FC00000) = true := by
  decide +kernel

theorem test_absl_F25 :
    runs ((bench.setFreg 0 0x0).setFreg 1 0xC0080000) [0xBE, 0xB4, 0x00]
      (fun t => t.freg 2 == 0x0 && t.freg 3 == 0x40080000) = true := by
  decide +kernel

theorem test_cmpf_F26 :
    runs ({ (bench.setFreg 0 0x0).setFreg 1 0x80000000 with psr := 0x84 }) [0xBE, 0x49, 0x00]
      (fun t => t.psr == 0x40) = true := by
  decide +kernel

theorem test_movlf_F29 :
    runs ((bench.setFreg 0 0x9999999A).setFreg 1 0x3FB99999) [0x3E, 0x96, 0x00]
      (fun t => t.freg 2 == 0x3DCCCCCD && t.fsr == 0x40) = true := by
  decide +kernel

theorem test_movfl_F31 :
    runs (bench.setFreg 1 0x3FC00000) [0x3E, 0x9B, 0x08]
      (fun t => t.freg 2 == 0x0 && t.freg 3 == 0x3FF80000) = true := by
  decide +kernel

theorem test_movbf_F32 : runs (bench.setReg 0 0xFD) [0x3E, 0x04, 0x00] (fun t => t.freg 0 == 0xC0400000) = true := by
  decide +kernel

theorem test_movdf_F33 :
    runs (bench.setReg 1 0x01000001) [0x3E, 0x87, 0x08]
      (fun t => t.freg 2 == 0x4B800000 && t.fsr == 0x40) = true := by
  decide +kernel

theorem test_roundfb_F36 :
    runs ((bench.setFreg 0 0x42FECCCD).setReg 0 0xAAAAAAAA) [0x3E, 0x24, 0x00]
      (fun t => t.reg 0 == 0xAAAAAA7F && t.fsr == 0x40) = true := by
  decide +kernel

theorem test_roundfb_F37 :
    runs (bench.setFreg 0 0x42FF0000) [0x3E, 0x24, 0x00]
      (fun t => inService t 3 && t.fsr == 0x2) = true := by
  decide +kernel

theorem test_truncfb_F40 :
    runs (bench.setFreg 0 0xC300E666) [0x3E, 0x2C, 0x00]
      (fun t => t.reg 0 == 0x80 && t.fsr == 0x40) = true := by
  decide +kernel

theorem test_floorfd_F42 :
    runs (bench.setFreg 0 0xBE800000) [0x3E, 0x3F, 0x00]
      (fun t => t.reg 0 == 0xFFFFFFFF && t.fsr == 0x40) = true := by
  decide +kernel

theorem test_lfsr_F44 : runs bench [0x3E, 0x0F, 0xA0, 0xFF, 0xFF, 0xFF, 0xFF] (fun t => t.fsr == 0xFFFF) = true := by
  decide +kernel

theorem test_sfsr_F45 :
    runs ({ bench with fsr := 0xFFFF }) [0x3E, 0x37, 0x00]
      (fun t => t.reg 0 == 0xFFFF) = true := by
  decide +kernel

theorem test_fpuillegal0011_F47 : runs bench [0xBE, 0x0C, 0x00] (fun t => inService t 3 && t.fsr == 0x4) = true := by
  decide +kernel

theorem test_movl_F53 :
    runs (holding (bench.setReg 0 0x3000) 0x3000 [0x00, 0x00, 0x00, 0x00, 0x00, 0x00, 0xF8, 0x3F]) [0xBE, 0x84, 0x40, 0x00]
      (fun t => t.freg 2 == 0x0 && t.freg 3 == 0x3FF80000) = true := by
  decide +kernel

theorem test_andb_L1 :
    runs ((bench.setReg 0 0xF0).setReg 1 0x123456AA) [0x68, 0x00]
      (fun t => t.reg 1 == 0x123456A0) = true := by
  decide +kernel

theorem test_orb_L3 : runs (bench.setReg 0 0x1) [0x18, 0xA0, 0x80] (fun t => t.reg 0 == 0x81) = true := by
  decide +kernel

theorem test_bicd_L4 :
    runs ((bench.setReg 0 0xFF00).setReg 1 0x12345678) [0x4B, 0x00]
      (fun t => t.reg 1 == 0x12340078) = true := by
  decide +kernel

theorem test_xord_L5 :
    runs ((bench.setReg 1 0xFFFFFFFF).setReg 0 0x0F0F0F0F) [0x3B, 0x08]
      (fun t => t.reg 0 == 0xF0F0F0F0) = true := by
  decide +kernel

theorem test_comb_L6 :
    runs ((bench.setReg 0 0x1).setReg 1 0xAAAAAAAA) [0x4E, 0x74, 0x00]
      (fun t => t.reg 1 == 0xAAAAAAFE) = true := by
  decide +kernel

theorem test_ashd_L8 :
    runs (bench.setReg 0 0x80000010) [0x4E, 0x07, 0xA0, 0xFC]
      (fun t => t.reg 0 == 0xF8000001) = true := by
  decide +kernel

theorem test_ashb_L9 : runs (bench.setReg 0 0xFF) [0x4E, 0x04, 0xA0, 0x07] (fun t => t.reg 0 == 0x80) = true := by
  decide +kernel

theorem test_lshw_L12 :
    runs (bench.setReg 1 0xF00F) [0x4E, 0x55, 0xA0, 0x03]
      (fun t => t.reg 1 == 0x8078) = true := by
  decide +kernel

theorem test_lshd_L13 :
    runs (bench.setReg 0 0x80000000) [0x4E, 0x17, 0xA0, 0xE1]
      (fun t => t.reg 0 == 0x1) = true := by
  decide +kernel

theorem test_rotb_L15 : runs (bench.setReg 2 0x81) [0x4E, 0x80, 0xA0, 0x01] (fun t => t.reg 2 == 0x3) = true := by
  decide +kernel

theorem test_notb_L19 : runs (bench.setReg 0 0x0) [0x4E, 0x64, 0x00] (fun t => t.reg 1 == 0x1) = true := by
  decide +kernel

theorem test_seqb_L21 : runs ({ bench with psr := 0x40 }) [0x3C, 0x00] (fun t => t.reg 0 == 0x1) = true := by
  decide +kernel

theorem test_slob_L22 :
    runs ({ bench.setReg 0 0x1 with psr := 0x40 }) [0x3C, 0x05]
      (fun t => t.reg 0 == 0x0) = true := by
  decide +kernel

theorem test_shiw_L23 :
    runs ({ bench with psr := 0x4, sp0 := 0x8000 }) [0x3D, 0xBA]
      (fun t => t.sp0 == 0x7FFE && bytes t 0x7FFE 2 == [0x01, 0x00]) = true := by
  decide +kernel

theorem test_sgtd_L24 : runs (bench.setReg 1 0xFFFFFFFF) [0x3F, 0x0B] (fun t => t.reg 1 == 0x0) = true := by
  decide +kernel

theorem test_tbitb_B1 :
    runs ((bench.setReg 0 0x10).setReg 1 0x10000) [0x74, 0x00]
      (fun t => t.psr == 0x20) = true := by
  decide +kernel

theorem test_tbitd_B2 :
    runs (holding bench 0x3EB [0x10]) [0x77, 0xA5, 0x00, 0x00, 0x00, 0x1C, 0x83, 0xE8]
      (fun t => t.psr == 0x20) = true := by
  decide +kernel

theorem test_cbitid_B3 :
    runs (holding bench 0x3E9 [0xFF]) [0x4E, 0x4F, 0xA5, 0xFF, 0xFF, 0xFF, 0xF3, 0x83, 0xEB]
      (fun t => bytes t 0x3E9 1 == [0xF7] && t.psr == 0x20) = true := by
  decide +kernel

theorem test_sbitb_B4 :
    runs ({ (bench.setReg 0 0x1F).setReg 1 0x0 with psr := 0x20 }) [0x4E, 0x58, 0x00]
      (fun t => t.reg 1 == 0x80000000 && t.psr == 0x0) = true := by
  decide +kernel

theorem test_cbitw_B6 :
    runs (bench.setReg 1 0xFFFFFFFF) [0x4E, 0x49, 0xA0, 0x00, 0x0F]
      (fun t => t.reg 1 == 0xFFFF7FFF && t.psr == 0x20) = true := by
  decide +kernel

theorem test_ibitb_B7 :
    runs (holding (bench.setReg 1 0x2001) 0x2000 [0x00]) [0x4E, 0x78, 0xA2, 0xFF, 0x00]
      (fun t => bytes t 0x2000 1 == [0x80] && t.psr == 0x0) = true := by
  decide +kernel

theorem test_sbitib_B8 :
    runs (holding bench 0x100 [0x00]) [0x4E, 0x5C, 0xA5, 0x00, 0x81, 0x00]
      (fun t => bytes t 0x100 1 == [0x01] && t.psr == 0x0) = true := by
  decide +kernel

theorem test_ffsb_B9 :
    runs ((bench.setReg 0 0x28).setReg 1 0x0) [0x6E, 0x44, 0x00]
      (fun t => t.reg 1 == 0x3 && t.psr == 0x0) = true := by
  decide +kernel

theorem test_ffsb_B10 :
    runs ((bench.setReg 0 0x28).setReg 1 0x6) [0x6E, 0x44, 0x00]
      (fun t => t.reg 1 == 0x0 && t.psr == 0x20) = true := by
  decide +kernel

theorem test_cvtp_B12 :
    runs (bench.setReg 1 0x1C) [0x6E, 0x8B, 0xA8, 0x83, 0xE8]
      (fun t => t.reg 2 == 0x1F5C) = true := by
  decide +kernel

theorem test_extd_B13 :
    runs ((bench.setReg 0 0x6).setReg 1 0x1FFC0) [0x2E, 0x83, 0x08, 0x0B]
      (fun t => t.reg 2 == 0x7FF) = true := by
  decide +kernel

theorem test_extsd_B14 :
    runs (bench.setReg 0 0x1FFC0) [0xCE, 0x4F, 0x00, 0xCA]
      (fun t => t.reg 1 == 0x7FF) = true := by
  decide +kernel

theorem test_insb_B19 :
    runs (holding (((bench.setReg 0 0x4).setReg 1 0x5).setReg 2 0x3000) 0x3000 [0xFF, 0xFF, 0xFF, 0xFF]) [0xAE, 0x80, 0x0A, 0x00, 0x03]
      (fun t => bytes t 0x3000 4 == [0xDF, 0xFF, 0xFF, 0xFF]) = true := by
  decide +kernel

theorem test_inssw_B20 :
    runs (bench.setReg 5 0xA5) [0xCE, 0x49, 0x2D, 0x83, 0xE9, 0x27]
      (fun t => bytes t 0x3E9 4 == [0x4A, 0x01, 0x00, 0x00]) = true := by
  decide +kernel

theorem test_movsb_S2 :
    runs ({ (bench.setReg 1 0x1000).setReg 2 0x2000 with psr := 0x20 }) [0x0E, 0x00, 0x00]
      (fun t => t.psr == 0x0 && t.reg 1 == 0x1000 && t.reg 2 == 0x2000) = true := by
  decide +kernel

theorem test_cmpsb_S10 :
    runs (holding ((holding ((bench.setReg 0 0x1).setReg 1 0x1000) 0x1000 [0x80]).setReg 2 0x2000) 0x2000 [0x01]) [0x0E, 0x04, 0x00]
      (fun t => t.psr == 0x4 && t.reg 0 == 0x1) = true := by
  decide +kernel

theorem test_movmb_S16 :
    runs (holding ((bench.setReg 1 0x1000).setReg 2 0x2000) 0x1000 [0x01, 0x02, 0x03, 0x04, 0x05, 0x06, 0x07, 0x08, 0x09, 0x0A, 0x0B, 0x0C, 0x0D, 0x0E, 0x0F, 0x10]) [0xCE, 0x80, 0x4A, 0x00, 0x00, 0x0F]
      (fun t => bytes t 0x2000 17 == [0x01, 0x02, 0x03, 0x04, 0x05, 0x06, 0x07, 0x08, 0x09, 0x0A, 0x0B, 0x0C, 0x0D, 0x0E, 0x0F, 0x10, 0x00] && t.reg 1 == 0x1000 && t.reg 2 == 0x2000) = true := by
  decide +kernel

theorem test_cmpmw_S19 :
    runs ({ holding (holding (bench.setReg 0 0x3000) 0x3000 [0x01, 0x00, 0x02, 0x00, 0x03, 0x00]) 0x4008 [0x01, 0x00, 0x02, 0x00, 0x02, 0x00] with sb := 0x4000 }) [0xCE, 0x85, 0x46, 0x00, 0x08, 0x04]
      (fun t => t.psr == 0x84) = true := by
  decide +kernel

theorem test_checkb_A1 :
    runs ({ ((holding bench 0x4004 [0x0A, 0x01]).setReg 1 0x3).setReg 0 0xFFFFFFFF with sb := 0x4000 }) [0xEE, 0x40, 0xD0, 0x04]
      (fun t => t.reg 0 == 0x2 && t.psr == 0x0) = true := by
  decide +kernel

theorem test_checkb_A2 :
    runs ({ (holding bench 0x4004 [0x0A, 0x01]).setReg 1 0xB with sb := 0x4000 }) [0xEE, 0x40, 0xD0, 0x04]
      (fun t => t.psr == 0x20) = true := by
  decide +kernel

theorem test_indexb_A5 :
    runs ((bench.setReg 0 0x1).setReg 1 0x2) [0x2E, 0x44, 0xA0, 0x02]
      (fun t => t.reg 0 == 0x5) = true := by
  decide +kernel

theorem test_beq_C1 :
    runs ({ bench with pc := 0x1000, psr := 0x40 }) [0x0A, 0x7A]
      (fun t => t.pc == 0xFFA) = true := by
  decide +kernel

theorem test_beq_C2 : runs ({ bench with pc := 0x1000 }) [0x0A, 0x7A] (fun t => t.pc == 0x1002) = true := by
  decide +kernel

theorem test_bne_C3 : runs ({ bench with pc := 0x1000 }) [0x1A, 0x81, 0x2C] (fun t => t.pc == 0x112C) = true := by
  decide +kernel

theorem test_bgt_C4 :
    runs ({ bench with pc := 0x1000, psr := 0x80 }) [0x6A, 0xC0, 0x01, 0x23, 0x45]
      (fun t => t.pc == 0x13345) = true := by
  decide +kernel

theorem test_blt_C5 : runs ({ bench with pc := 0x1000 }) [0xCA, 0xBF, 0x80] (fun t => t.pc == 0xF80) = true := by
  decide +kernel

theorem test_bcond1111_C6 : runs ({ bench with pc := 0x1000 }) [0xFA, 0x02] (fun t => t.pc == 0x1002) = true := by
  decide +kernel

theorem test_br_C7 : runs ({ bench with pc := 0x1000 }) [0xEA, 0x0A] (fun t => t.pc == 0x100A) = true := by
  decide +kernel

theorem test_jump_C9 : runs (bench.setReg 1 0x2000) [0x7F, 0x4A, 0x00] (fun t => t.pc == 0x2000) = true := by
  decide +kernel

theorem test_caseb_C11 :
    runs ({ bench.setReg 0 0xFC with pc := 0x200 }) [0x7C, 0x07]
      (fun t => t.pc == 0x1FC) = true := by
  decide +kernel

theorem test_acbb_C13 :
    runs ({ bench.setReg 0 0x5 with pc := 0x1003 }) [0xCC, 0x07, 0x7D]
      (fun t => t.reg 0 == 0x4 && t.pc == 0x1000) = true := by
  decide +kernel

theorem test_acbb_C14 :
    runs ({ bench.setReg 0 0x1 with pc := 0x1003 }) [0xCC, 0x07, 0x7D]
      (fun t => t.reg 0 == 0x0 && t.pc == 0x1006) = true := by
  decide +kernel

theorem test_jsr_C17 :
    runs ({ bench with pc := 0x1000, sp0 := 0x8000 }) [0x7F, 0xAE, 0xC0, 0x00, 0x30, 0x00]
      (fun t => t.sp0 == 0x7FFC && bytes t 0x7FFC 4 == [0x06, 0x10, 0x00, 0x00] && t.pc == 0x3000) = true := by
  decide +kernel

theorem test_bsr_C18 :
    runs ({ bench with pc := 0x1000, sp0 := 0x8000 }) [0x02, 0x80, 0x64]
      (fun t => t.sp0 == 0x7FFC && bytes t 0x7FFC 4 == [0x03, 0x10, 0x00, 0x00] && t.pc == 0x1064) = true := by
  decide +kernel

theorem test_ret_C19 :
    runs ({ holding bench 0x7FFC [0x03, 0x10, 0x00, 0x00] with sp0 := 0x7FFC }) [0x12, 0x08]
      (fun t => t.pc == 0x1003 && t.sp0 == 0x8008) = true := by
  decide +kernel

theorem test_cxp_C20 :
    runs ({ holding (holding (holding (holding bench 0x44 [0x00, 0x60, 0x00, 0x00]) 0x6008 [0x50, 0x00, 0x34, 0x00]) 0x50 [0x00, 0x58, 0x00, 0x00]) 0x58 [0x00, 0x20, 0x00, 0x00] with pc := 0x1010, sp0 := 0x8000, mod := 0x40, sb := 0x5000 }) [0x22, 0x02]
      (fun t => t.sp0 == 0x7FF8 && bytes t 0x7FF8 6 == [0x12, 0x10, 0x00, 0x00, 0x40, 0x00] && t.mod == 0x50 && t.sb == 0x5800 && t.pc == 0x2034) = true := by
  decide +kernel

theorem test_rxp_C21 :
    runs ({ holding (holding bench 0x7FF8 [0x12, 0x10, 0x00, 0x00, 0x40, 0x00, 0x00, 0x00]) 0x40 [0x00, 0x50, 0x00, 0x00] with sp0 := 0x7FF8, mod := 0x50, sb := 0x5800 }) [0x32, 0x04]
      (fun t => t.pc == 0x1012 && t.mod == 0x40 && t.sb == 0x5000 && t.sp0 == 0x8004) = true := by
  decide +kernel

theorem test_flag_C22 : runs ({ bench with pc := 0x1000 }) [0xD2] (fun t => t.pc == 0x1001) = true := by
  decide +kernel

theorem test_bpt_C24 : runs bench [0xF2] (fun t => inService t 8) = true := by
  decide +kernel

theorem test_svc_C25 : runs bench [0xE2] (fun t => inService t 5) = true := by
  decide +kernel

theorem test_rett_C26 : runs ({ bench with psr := 0x100 }) [0x42, 0x00] (fun t => inService t 4) = true := by
  decide +kernel

theorem test_reti_C27 : runs ({ bench with psr := 0x100 }) [0x52] (fun t => inService t 4) = true := by
  decide +kernel

theorem test_lxpd_V1 : runs ({ bench with sb := 0x4000 }) [0x27, 0xD0, 0x04] (fun t => t.reg 0 == 0x4004) = true := by
  decide +kernel

theorem test_save_V5 :
    runs ({ (bench.setReg 0 0x11111111).setReg 2 0x22222222 with sp0 := 0x8000 }) [0x62, 0x05]
      (fun t => bytes t 0x7FF8 8 == [0x22, 0x22, 0x22, 0x22, 0x11, 0x11, 0x11, 0x11] && t.sp0 == 0x7FF8) = true := by
  decide +kernel

theorem test_restore_V6 :
    runs ({ holding bench 0x7FF8 [0x22, 0x22, 0x22, 0x22, 0x11, 0x11, 0x11, 0x11] with sp0 := 0x7FF8 }) [0x72, 0xA0]
      (fun t => t.reg 0 == 0x11111111 && t.reg 2 == 0x22222222 && t.sp0 == 0x8000) = true := by
  decide +kernel

theorem test_enter_V7 :
    runs ({ (bench.setReg 3 0x3).setReg 5 0x5 with sp0 := 0x8000, fp := 0x9000 }) [0x82, 0x28, 0x10]
      (fun t => bytes t 0x7FFC 4 == [0x00, 0x90, 0x00, 0x00] && t.fp == 0x7FFC && bytes t 0x7FE8 4 == [0x03, 0x00, 0x00, 0x00] && bytes t 0x7FE4 4 == [0x05, 0x00, 0x00, 0x00] && t.sp0 == 0x7FE4) = true := by
  decide +kernel

theorem test_exit_V8 :
    runs ({ holding (holding bench 0x7FFC [0x00, 0x90, 0x00, 0x00]) 0x7FE4 [0x05, 0x00, 0x00, 0x00, 0x03, 0x00, 0x00, 0x00] with sp0 := 0x7FE4, fp := 0x7FFC }) [0x92, 0x14]
      (fun t => t.reg 5 == 0x5 && t.reg 3 == 0x3 && t.fp == 0x9000 && t.sp0 == 0x8000) = true := by
  decide +kernel

theorem test_adjspb_V9 :
    runs ({ bench with sp0 := 0x8000 }) [0x7C, 0xA5, 0xFC]
      (fun t => t.sp0 == 0x8004) = true := by
  decide +kernel

theorem test_bicpsrb_V11 :
    runs ({ bench with psr := 0xB61 }) [0x7C, 0xA1, 0x01]
      (fun t => t.psr == 0xB60) = true := by
  decide +kernel

theorem test_bispsrb_V12 : runs ({ bench with psr := 0x0 }) [0x7C, 0xA3, 0xFF] (fun t => t.psr == 0xE7) = true := by
  decide +kernel

theorem test_lprd_V15 : runs (bench.setReg 0 0x7000) [0xEF, 0x04] (fun t => t.sp0 == 0x7000) = true := by
  decide +kernel

theorem test_sprb_V20 : runs ({ bench with psr := 0xBE5 }) [0x2C, 0x00] (fun t => t.reg 0 == 0xE5) = true := by
  decide +kernel

theorem test_setcfg_V24 : runs ({ bench with cfg := 0x0 }) [0x0E, 0x8B, 0x03] (fun t => t.cfg == 0x7) = true := by
  decide +kernel

theorem test_nop_V26 : runs ({ bench with pc := 0x1000 }) [0xA2] (fun t => t.pc == 0x1001) = true := by
  decide +kernel

theorem test_wait_V27 : runs ({ bench with pc := 0x1000 }) [0xB2] (fun t => t.pc == 0x1000) = true := by
  decide +kernel

theorem test_dia_V28 : runs ({ bench with pc := 0x1000 }) [0xC2] (fun t => t.pc == 0x1000) = true := by
  decide +kernel

theorem test_lmr_M1 : runs ({ bench with psr := 0x100 }) [0x1E, 0x0B, 0x06] (fun t => inService t 4) = true := by
  decide +kernel

theorem test_lmr_M2 : runs bench [0x1E, 0x0B, 0x06] (fun t => inService t 10) = true := by
  decide +kernel

theorem test_smr_M4 : runs ({ bench with cfg := 0x4 }) [0x1E, 0x0F, 0x0D] (fun t => t.reg 1 == 0x0) = true := by
  decide +kernel

theorem test_rdval_M5 : runs bench [0x1E, 0x03, 0x48, 0x00] (fun t => inService t 10) = true := by
  decide +kernel

theorem test_movsub_M6 :
    runs (holding ((bench.setReg 1 0x1000).setReg 2 0x2000) 0x1000 [0x5A]) [0xAE, 0x8C, 0x4A, 0x00, 0x00]
      (fun t => bytes t 0x2000 1 == [0x5A]) = true := by
  decide +kernel

theorem test_movusb_M7 :
    runs ({ bench with psr := 0x100 }) [0xAE, 0x9C, 0x4A, 0x00, 0x00]
      (fun t => inService t 4) = true := by
  decide +kernel

theorem test_custom16_M8 : runs bench [0x16] (fun t => inService t 10) = true := by
  decide +kernel

theorem test_custom36_M8b : runs bench [0x36] (fun t => inService t 10) = true := by
  decide +kernel

theorem test_customb6_M8c : runs bench [0xB6] (fun t => inService t 10) = true := by
  decide +kernel

theorem test_addb_I1 :
    runs ((bench.setReg 0 0x1).setReg 1 0x1234567F) [0x40, 0x00]
      (fun t => t.reg 1 == 0x12345680 && t.psr == 0x20) = true := by
  decide +kernel

theorem test_addb_I2 :
    runs ((bench.setReg 0 0x1).setReg 1 0xFF) [0x40, 0x00]
      (fun t => t.reg 1 == 0x0 && t.psr == 0x1) = true := by
  decide +kernel

theorem test_addqb_I8 :
    runs (bench.setReg 0 0x123456FF) [0x8C, 0x00]
      (fun t => t.reg 0 == 0x12345600 && t.psr == 0x1) = true := by
  decide +kernel

theorem test_addcd_I11 :
    runs ({ (bench.setReg 0 0x0).setReg 1 0xFFFFFFFF with psr := 0x1 }) [0x53, 0x00]
      (fun t => t.reg 1 == 0x0 && t.psr == 0x1) = true := by
  decide +kernel

theorem test_subb_I13 :
    runs ((bench.setReg 0 0x1).setReg 1 0x0) [0x60, 0x00]
      (fun t => t.reg 1 == 0xFF && t.psr == 0x1) = true := by
  decide +kernel

theorem test_subcb_I16 :
    runs ({ (bench.setReg 0 0xFF).setReg 1 0x0 with psr := 0x1 }) [0x70, 0x00]
      (fun t => t.reg 1 == 0x0 && t.psr == 0x1) = true := by
  decide +kernel

theorem test_negb_I18 :
    runs (bench.setReg 0 0x80) [0x4E, 0x60, 0x00]
      (fun t => t.reg 1 == 0x80 && t.psr == 0x21) = true := by
  decide +kernel

theorem test_absb_I20 :
    runs (bench.setReg 0 0x80) [0x4E, 0x70, 0x00]
      (fun t => t.reg 1 == 0x80 && t.psr == 0x20) = true := by
  decide +kernel

theorem test_mulb_I22 :
    runs ((bench.setReg 0 0x10).setReg 1 0x11) [0xCE, 0x60, 0x00]
      (fun t => t.reg 1 == 0x10) = true := by
  decide +kernel

theorem test_meib_I24 :
    runs ((bench.setReg 2 0xFF).setReg 0 0xFF) [0xCE, 0x24, 0x10]
      (fun t => t.reg 0 == 0x1 && t.reg 1 == 0xFE) = true := by
  decide +kernel

theorem test_divb_I27 :
    runs ((bench.setReg 0 0x2).setReg 1 0xF9) [0xCE, 0x7C, 0x00]
      (fun t => t.reg 1 == 0xFC) = true := by
  decide +kernel

theorem test_modb_I28 :
    runs ((bench.setReg 0 0x2).setReg 1 0xF9) [0xCE, 0x78, 0x00]
      (fun t => t.reg 1 == 0x1) = true := by
  decide +kernel

theorem test_quob_I29 :
    runs ((bench.setReg 0 0x2).setReg 1 0xF9) [0xCE, 0x70, 0x00]
      (fun t => t.reg 1 == 0xFD) = true := by
  decide +kernel

theorem test_remb_I30 :
    runs ((bench.setReg 0 0x2).setReg 1 0xF9) [0xCE, 0x74, 0x00]
      (fun t => t.reg 1 == 0xFF) = true := by
  decide +kernel

theorem test_divw_I35 : runs bench [0xCE, 0x7D, 0xA0, 0x00, 0x00] (fun t => inService t 6) = true := by
  decide +kernel

theorem test_deib_I38 :
    runs (((bench.setReg 1 0x1).setReg 0 0x0).setReg 2 0x7) [0xCE, 0x2C, 0x10]
      (fun t => t.reg 0 == 0x4 && t.reg 1 == 0x24) = true := by
  decide +kernel

theorem test_deiw_I39 :
    runs (((bench.setReg 1 0x1).setReg 0 0x0).setReg 2 0x3) [0xCE, 0x2D, 0x10]
      (fun t => t.reg 0 == 0x1 && t.reg 1 == 0x5555) = true := by
  decide +kernel

theorem test_movb_I42 :
    runs ((bench.setReg 0 0xAABBCCDD).setReg 1 0x11223344) [0x54, 0x00]
      (fun t => t.reg 1 == 0x112233DD) = true := by
  decide +kernel

theorem test_movqb_I51 : runs (bench.setReg 0 0x0) [0x5C, 0x04] (fun t => t.reg 0 == 0xF8) = true := by
  decide +kernel

theorem test_movxbw_I53 :
    runs ((bench.setReg 0 0x80).setReg 1 0x11223344) [0xCE, 0x50, 0x00]
      (fun t => t.reg 1 == 0x1122FF80) = true := by
  decide +kernel

theorem test_movzbd_I55 :
    runs ((bench.setReg 0 0x80).setReg 1 0x11223344) [0xCE, 0x58, 0x00]
      (fun t => t.reg 1 == 0x80) = true := by
  decide +kernel

theorem test_movzwd_I56 :
    runs ({ holding bench 0x1000 [0xFF, 0xFF] with sp0 := 0x8000 }) [0xCE, 0xD9, 0xAD, 0x90, 0x00]
      (fun t => t.sp0 == 0x7FFC && bytes t 0x7FFC 4 == [0xFF, 0xFF, 0x00, 0x00]) = true := by
  decide +kernel

theorem test_cmpb_I57 : runs ((bench.setReg 0 0xFF).setReg 1 0x1) [0x44, 0x00] (fun t => t.psr == 0x4) = true := by
  decide +kernel

theorem test_cmpqb_I60 : runs (bench.setReg 0 0x80) [0x1C, 0x00] (fun t => t.psr == 0x80) = true := by
  decide +kernel

theorem test_addpb_P1 :
    runs ((bench.setReg 0 0x25).setReg 1 0x38) [0x4E, 0x7C, 0x00]
      (fun t => t.reg 1 == 0x63 && t.psr == 0x0) = true := by
  decide +kernel

theorem test_addpw_P3 :
    runs ((bench.setReg 0 0x1).setReg 1 0x9999) [0x4E, 0x7D, 0x00]
      (fun t => t.reg 1 == 0x0 && t.psr == 0x1) = true := by
  decide +kernel

theorem test_subpb_P5 :
    runs ((bench.setReg 0 0x38).setReg 1 0x25) [0x4E, 0x6C, 0x00]
      (fun t => t.reg 1 == 0x87 && t.psr == 0x1) = true := by
  decide +kernel

theorem test_undf3op1000d_D2 : runs bench [0x7F, 0x04] (fun t => inService t 10) = true := by
  decide +kernel

theorem test_faultf6i10_D10 : stops (bench) [0x4E, 0x02, 0x00] .lengthField = true := by
  decide +kernel

theorem test_undsetcfgi_D13c : runs bench [0x0E, 0x08, 0x00] (fun t => inService t 10) = true := by
  decide +kernel

/-! ### Witnesses: states and operands that meet the hypotheses of the statements in Obligations.lean -/

/-- An action succeeds in a state. -/
def succeeds {α : Type} (m : Act α) (s : State) : Bool :=
  match m.run s with
  | .ok _ _ => true
  | .error _ _ => false

/-- What it answers there. -/
def answerOf {α : Type} [Inhabited α] (m : Act α) (s : State) : α :=
  match m.run s with
  | .ok v _ => v
  | .error _ _ => default

/-- The state it leaves. -/
def leaves {α : Type} (m : Act α) (s : State) : State :=
  match m.run s with
  | .ok _ t => t
  | .error _ t => t

theorem gives_of {α : Type} [Inhabited α] (m : Act α) (s : State) (h : succeeds m s = true) :
    Gives m s (answerOf m s) (leaves m s) := by
  unfold succeeds at h
  unfold Gives answerOf leaves
  split at h
  · rename_i e; rw [e]
  · cases h

theorem leaves_of (m : Act Unit) (s : State) (h : succeeds m s = true) : Gives m s () (leaves m s) := gives_of m s h

theorem gives_exact {α : Type} [DecidableEq α] {m : Act α} {s : State} {v : α} {t : State}
    (h : (match m.run s with | .ok a u => decide (a = v) && decide (u = t) | .error _ _ => false) = true) :
    Gives m s v t := by
  unfold Gives
  split at h
  · rename_i a u e
    simp only [Bool.and_eq_true, decide_eq_true_eq] at h
    rw [e, h.1, h.2]
  · cases h

/-- The state of an outcome. -/
def stateOf (r : Result) : State :=
  match r with
  | .next t => t
  | _ => State.reset

/-- The outcome is a next state. -/
def goesOn (r : Result) : Bool :=
  match r with
  | .next _ => true
  | _ => false

theorem next_of {r : Result} (h : goesOn r = true) : r = .next (stateOf r) := by
  cases r with
  | next t => rfl
  | fault f => cases h
  | refused x => cases h

theorem fits_of {s : State} {i : Instr} (h : decide (s.nextPc i < 2 ^ 24) = true) : s.fits i :=
  show s.nextPc i < 2 ^ 24 from of_decide_eq_true h

/-- Addresses are physical and the memory map is empty. -/
def flat (s : State) : Bool := !s.translating && s.platform.memoryMap.isEmpty

theorem plain_of {s : State} (h : flat s = true) : s.plain := by
  simp only [flat, Bool.and_eq_true, Bool.not_eq_true', List.isEmpty_iff] at h
  exact ⟨h.1, fun a => by simp [Platform.kindAt, h.2]⟩

/-- Where every address is physical RAM, any value can be written. -/
theorem writes_any {a : Int} {n : Nat} {v : QWord} {s : State} (h : (flat s && inSpace a n) = true) :
    succeeds (memWrite a n v) s = true := by
  simp only [Bool.and_eq_true] at h
  have := memWrite_plain (plain_of h.1) a n v h.2
  unfold succeeds
  rw [show (memWrite a n v).run s = _ from this]

/-- The test of `State.canServe`. -/
def serves (s : State) (copy psr : Word) (ra : Addr) (vector : Nat) : Bool :=
  let u := s.pushed copy psr ra
  flat s && decide (8 ≤ s.sp0.toNat) && decide (s.intbase.toNat + 4 * vector + 4 ≤ 2 ^ 24) &&
    decide (u.descriptor vector % 2 ^ 16 < 0xFFF1) &&
    decide (load u.mem (u.descriptor vector % 2 ^ 16 + 8) 4 + u.descriptor vector / 2 ^ 16 < 2 ^ 24)

theorem canServe_of {s : State} {copy psr : Word} {ra : Addr} {vector : Nat} (h : serves s copy psr ra vector = true) :
    s.canServe copy psr ra vector := by
  simp only [serves, Bool.and_eq_true, decide_eq_true_eq] at h
  exact ⟨plain_of h.1.1.1.1, h.1.1.1.2, h.1.1.2, h.1.2, h.2⟩

theorem canTrap_of {s u : State} {t : Trap} (h : serves (restoreSp s u) u.psr (trapPsr u.psr) s.pc t.vector = true) :
    s.canTrap u t := canServe_of h

/-- Operand A is read, operand B is read, and a value made of both is written to B; `p` holds of the two. -/
def Replacement (k : Kind) (n1 n : Nat) (s : State) (src dest : Gen) (v : QWord → QWord → QWord)
    (p : QWord → QWord → Bool) : Prop :=
  ∃ s1 s2 w a b x, Gives (readOp .int n1 src) s a s1 ∧ ReadsRmw k n dest s1 x b s2 ∧
    Gives (writeLoc k n x (v a b)) s2 () w ∧ p a b = true

/-- The test of `Replacement`. -/
def replaces (k : Kind) (n1 n : Nat) (s : State) (src dest : Gen) (v : QWord → QWord → QWord)
    (p : QWord → QWord → Bool) : Bool :=
  let m1 := readOp .int n1 src
  let s1 := leaves m1 s
  let m2 := locateRmw k n dest
  let x := answerOf m2 s1
  let m3 := readLoc k n x
  let s2 := leaves m3 (leaves m2 s1)
  let a := answerOf m1 s
  let b := answerOf m3 (leaves m2 s1)
  succeeds m1 s && succeeds m2 s1 && succeeds m3 (leaves m2 s1) && succeeds (writeLoc k n x (v a b)) s2 && p a b

theorem replacement_of {k : Kind} {n1 n : Nat} {s : State} {src dest : Gen} {v : QWord → QWord → QWord}
    {p : QWord → QWord → Bool} (h : replaces k n1 n s src dest v p = true) : Replacement k n1 n s src dest v p := by
  simp only [replaces, Bool.and_eq_true] at h
  exact ⟨_, _, _, _, _, _, gives_of _ _ h.1.1.1.1, ⟨_, gives_of _ _ h.1.1.1.2, gives_of _ _ h.1.1.2⟩, gives_of _ _ h.1.2,
    h.2⟩

/-- Operand A is read, operand B is located, and a value made of A is written to B; `p` holds of A. -/
def Conversion (k1 : Kind) (n1 : Nat) (k : Kind) (n : Nat) (s : State) (src dest : Gen) (v : QWord → QWord)
    (p : QWord → Bool) : Prop :=
  ∃ s1 s2 w a x, Gives (readOp k1 n1 src) s a s1 ∧ Gives (locateWrite k n dest) s1 x s2 ∧
    Gives (writeLoc k n x (v a)) s2 () w ∧ p a = true

/-- The test of `Conversion`. -/
def convertsTo (k1 : Kind) (n1 : Nat) (k : Kind) (n : Nat) (s : State) (src dest : Gen) (v : QWord → QWord)
    (p : QWord → Bool) : Bool :=
  let m1 := readOp k1 n1 src
  let s1 := leaves m1 s
  let m2 := locateWrite k n dest
  let a := answerOf m1 s
  succeeds m1 s && succeeds m2 s1 && succeeds (writeLoc k n (answerOf m2 s1) (v a)) (leaves m2 s1) && p a

theorem conversion_of {k1 : Kind} {n1 : Nat} {k : Kind} {n : Nat} {s : State} {src dest : Gen} {v : QWord → QWord}
    {p : QWord → Bool} (h : convertsTo k1 n1 k n s src dest v p = true) : Conversion k1 n1 k n s src dest v p := by
  simp only [convertsTo, Bool.and_eq_true] at h
  exact ⟨_, _, _, _, _, gives_of _ _ h.1.1.1, gives_of _ _ h.1.1.2, gives_of _ _ h.1.2, h.2⟩

/-- One operand is read and written; `p` holds of what it held. -/
def Modification (n : Nat) (s : State) (dest : Gen) (v : QWord → QWord) (p : QWord → Bool) : Prop :=
  ∃ s2 w b x, ReadsRmw .int n dest s x b s2 ∧ Gives (writeLoc .int n x (v b)) s2 () w ∧ p b = true

theorem modification_of {n : Nat} {s : State} {dest : Gen} {v : QWord → QWord} {p : QWord → Bool}
    (h : replaces .int n n s (.imm 0) dest (fun _ => v) (fun _ => p) = true) : Modification n s dest v p := by
  simp only [replaces, Bool.and_eq_true] at h
  exact ⟨_, _, _, _, ⟨_, gives_of _ _ h.1.1.1.2, gives_of _ _ h.1.1.2⟩, gives_of _ _ h.1.2, h.2⟩

/-- A value is written to an operand of class write. -/
def Setting (n : Nat) (s : State) (dest : Gen) (v : QWord) : Prop :=
  ∃ s1 w x, Gives (locateWrite .int n dest) s x s1 ∧ Gives (writeLoc .int n x v) s1 () w

theorem setting_of {n : Nat} {s : State} {dest : Gen} {v : QWord}
    (h : (succeeds (locateWrite .int n dest) s &&
      succeeds (writeLoc .int n (answerOf (locateWrite .int n dest) s) v) (leaves (locateWrite .int n dest) s)) = true) :
    Setting n s dest v := by
  simp only [Bool.and_eq_true] at h
  exact ⟨_, _, _, gives_of _ _ h.1, gives_of _ _ h.2⟩

/-- Two operands are read, one after the other; `p` holds of their values. -/
def TwoReads (k : Kind) (n : Nat) (s : State) (src1 src2 : Gen) (p : QWord → QWord → Bool) : Prop :=
  ∃ s1 s2 a b, Gives (readOp k n src1) s a s1 ∧ Gives (readOp k n src2) s1 b s2 ∧ p a b = true

theorem two_reads_of {k : Kind} {n : Nat} {s : State} {src1 src2 : Gen} {p : QWord → QWord → Bool}
    (h : (succeeds (readOp k n src1) s && succeeds (readOp k n src2) (leaves (readOp k n src1) s) &&
      p (answerOf (readOp k n src1) s) (answerOf (readOp k n src2) (leaves (readOp k n src1) s))) = true) :
    TwoReads k n s src1 src2 p := by
  simp only [Bool.and_eq_true] at h
  exact ⟨_, _, _, _, gives_of _ _ h.1.1, gives_of _ _ h.1.2, h.2⟩

/-- The state of the witnesses: the tables of `bench`, module 10 with its Link Table at 3000, Supervisor Mode on the User
Stack, which holds a module number and a PSR image above a return address. -/
def lab : State :=
  let s := { bench with
    pc := 0x1000, sp1 := 0x8000, sp0 := 0x7000, fp := 0x9000, sb := 0x5000, mod := 0x10, psr := 0x0A61, cfg := 0b0110
    regs := ⟨#[3, 0x2000, 0x80000007, 5, 0, 0xFFFFFFFF, 0x10, 0], rfl⟩
    fregs := ⟨#[0x40400000, 0x3FC00000, 0, 0x3FF80000, 0, 0x40080000, 0x3FC00000, 0x3F800000], rfl⟩ }
  let s := holding s 0x10 [0, 0x50, 0, 0, 0, 0x30, 0, 0, 0, 0x20, 0, 0]
  let s := holding s 0x3008 [0x30, 0, 0x23, 0x01]
  let s := holding s 0x2000 [1, 2, 3, 4, 5, 6, 7, 8]
  let s := holding s 0x8000 [0x21, 0x43, 0, 0, 0x30, 0, 0x61, 0x8D]
  holding s 0x9008 [0, 0x20, 0, 0]

/-- A register, a scaled address, the stack. -/
def inR (r : Reg) : Gen := .base (.reg r)
def indexed : Gen := .scaled .w 0 (.abs (.d4 0x2000))
def onStack : Gen := .base .tos

/-! #### Encoding -/

theorem witness_encoded :
    ∃ i : Instr, i.wf = true ∧ keepsRaw i = false :=
  ⟨.movmd (.scaled .q 7 (.ext (.d4 16277215) (.d2 (-8192)))) (.base .tos) (.d1 12), by decide +kernel⟩

theorem witness_unassigned : ∃ i : Instr, i.wf = true ∧ keepsRaw i = true := ⟨.undX6Other 0x06, by decide +kernel⟩

theorem witness_decoded :
    ∃ (bs rest : List Byte) (i : Instr), decode bs = .ok (i, rest) :=
  ⟨[0x82, 0x28, 0x10, 0xA2], [0xA2], .enter 0x28 (.d1 16), by decide +kernel⟩

theorem witness_long_enough : ∃ bs : List Byte, 25 ≤ bs.length := ⟨List.replicate 25 0xFF, by decide⟩

/-- A state in which NOP stands at PC. -/
def atNop (activity : Activity) : State := { holding lab 0x1000 [0xA2] with activity }

theorem witness_step_runs : ∀ activity : Activity, activity ∈ [.running, .inString, .afterException] →
    let s := atNop activity
    Instr.nop.wf = true ∧ s.inputs = [] ∧ s.interrupted = false ∧ s.translating = false ∧
    ∀ k, k < (encode .nop).length →
      s.pc.toNat + k < 2 ^ 24 ∧
        (s.platform.kindAt (s.pc.toNat + k) = .ram ∨ s.platform.kindAt (s.pc.toNat + k) = .rom) ∧
        s.pc.toNat + k ∉ s.queueDirty ∧ some (Memory.read s.mem (s.pc.toNat + k)) = (encode .nop)[k]? := by
  decide +kernel

/-! #### The machine -/

theorem witness_reset_requested :
    ∃ s : State, s.resetRequested = true := ⟨{ lab with inputs := [⟨true, true, true, [(5, 1)]⟩] }, rfl⟩

theorem witness_invariant : ∃ s t : State, s.Inv ∧ step s = .next t :=
  ⟨atNop .running, _, ⟨by decide +kernel, by decide +kernel, by decide +kernel⟩, next_of (by decide +kernel)⟩

/-- In User Mode, with an address that is stored to. -/
theorem witness_user_mode :
    ∃ s t : State, s.flag bitU = true ∧ s.resetRequested = false ∧ step s = .next t ∧ t.activity ≠ .afterException :=
  ⟨{ holding lab 0x1000 [0xD4, 0x05] with psr := 0x0300 }, _, by decide +kernel, by decide +kernel,
    next_of (by decide +kernel), by decide +kernel⟩

theorem witness_boundary :
    (∃ s : State, s.activity = .running ∧ s.nmiPending = true) ∧
    (∃ s : State, s.activity = .running ∧ s.nmiPending = false ∧ s.intLine = true ∧ s.flag bitI = true) ∧
    (∃ s : State, s.activity = .running ∧ s.nmiPending = false ∧ s.intLine = false ∧ s.flag bitP = true ∧
      s.flag bitT = true) ∧
    (∃ s : State, s.activity = .running ∧ s.nmiPending = false ∧ s.flag bitI = false ∧ s.flag bitP = false) ∧
    (∃ s : State, s.activity = .inString ∧ s.interrupted = true) ∧
    (∃ s : State, s.activity = .waiting ∧ s.interrupted = true ∧ s.pc.toNat + 1 < 2 ^ 24) ∧
    (∃ s : State, s.activity = .diagnosing ∧ s.interrupted = true) ∧ ∃ s : State, s.activity = .afterException :=
  ⟨⟨{ lab with nmiPending := true }, by decide +kernel⟩, ⟨{ lab with intLine := true }, by decide +kernel⟩,
    ⟨{ lab with psr := 0x0402 }, by decide +kernel⟩, ⟨{ lab with psr := 0, intLine := true }, by decide +kernel⟩,
    ⟨{ lab with activity := .inString, nmiPending := true }, by decide +kernel⟩,
    ⟨{ lab with activity := .waiting, intLine := true, pc := 0xFFFFFE }, by decide +kernel⟩,
    ⟨{ lab with activity := .diagnosing, nmiPending := true }, by decide +kernel⟩,
    ⟨{ lab with activity := .afterException }, by decide +kernel⟩⟩

/-! #### Exceptions -/

theorem witness_trap_sequences :
    lab.canTrap { lab with sp1 := 0x7F00, fsr := 3 } .fpu ∧
    (restoreSp lab lab).canServe (withoutP lab.psr) (interruptPsr lab.psr) lab.pc 2 ∧
    lab.canServe (withoutP lab.psr) (trapPsr lab.psr) lab.pc 9 :=
  ⟨canTrap_of (by decide +kernel), canServe_of (by decide +kernel), canServe_of (by decide +kernel)⟩

/-- At the bottom of the Interrupt Stack, with the Interrupt Dispatch Table at the top of the space. -/
theorem witness_exception_frame :
    ({ lab with sp0 := 8, intbase := 0xFFFFEC } : State).canServe 0x0FFF 0x0061 0xFFFFFF 4 :=
  canServe_of (by decide +kernel)

/-- Vectored interrupts, the master's byte the lowest that names a cascaded unit, whose vector is 4. -/
def cascaded : State := { holding lab 0x3C0 [0x20, 0x12, 0xFE, 0] with answers := [0xF0, 4], cfg := 0b0111 }

theorem witness_interrupts :
    (∃ (s : State) (b : Byte) (rest : List Byte), s.answers = b :: rest ∧ s.canServe s.psr (interruptPsr s.psr) s.pc 1) ∧
    (∃ (s : State) (b : Byte) (rest : List Byte), s.answers = b :: rest ∧ s.cfg.getLsbD 0 = false ∧
      s.canServe (withoutP s.psr) (interruptPsr s.psr) s.pc 0) ∧
    (∃ (s : State) (b : Byte) (rest : List Byte), s.answers = b :: rest ∧ s.cfg.getLsbD 0 = true ∧ b.toNat < 128 ∧
      s.canServe s.psr (interruptPsr s.psr) s.pc b.toNat) ∧
    cascaded.answers = [0xF0, 4] ∧ cascaded.cfg.getLsbD 0 = true ∧ (0xF0 : Byte).toInt = -16 ∧
      inSpace (cascaded.intbase.toNat - 64) 4 = true ∧ cascaded.canServe cascaded.psr (interruptPsr cascaded.psr) cascaded.pc 4 ∧
      load (cascaded.store (cascaded.sp0.toNat - 2) 2 cascaded.psr.toNat).mem (cascaded.intbase.toNat - 64) 4 < 2 ^ 24 :=
  ⟨⟨{ lab with answers := [0x80] }, 0x80, [], rfl, canServe_of (by decide +kernel)⟩,
    ⟨{ lab with answers := [0x11, 2] }, 0x11, [2], rfl, by decide +kernel, canServe_of (by decide +kernel)⟩,
    ⟨{ holding lab 0x5FC [0x30, 0, 0x10, 0] with answers := [127], cfg := 0b0111 }, 127, [], rfl, by decide +kernel,
      by decide, canServe_of (by decide +kernel)⟩,
    rfl, by decide +kernel, by decide, by decide +kernel, canServe_of (by decide +kernel), by decide +kernel⟩

/-- The Cascade Address is read at INTBASE - 64, and the second acknowledge read there gives the vector (R531 step 8). -/
theorem test_cascaded_interrupt :
    let t := stateOf (takeInterrupt false false 0x1234 cascaded)
    t = { (cascaded.pushed cascaded.psr (interruptPsr cascaded.psr) 0x1234).served 4 with
      answers := [], events := [.acknowledge 0xFFFE00 0xF0, .acknowledge 0xFE1220 4] } := by decide +kernel

theorem witness_traps_of_instructions :
    (∃ s : State, isPrivileged (.rett (.d1 0)) = true ∧ s.flag bitU = true ∧ s.canTrap s .ill) ∧ lab.canTrap lab .bpt ∧
    lab.canTrap lab .svc ∧ (lab.flag bitF = true ∧ lab.canTrap lab .flg) ∧
    ∃ s : State, s.flag bitF = false ∧ s.fits .flag :=
  ⟨⟨{ lab with psr := 0x0100 }, by decide +kernel, by decide +kernel, canTrap_of (by decide +kernel)⟩,
    canTrap_of (by decide +kernel), canTrap_of (by decide +kernel), ⟨by decide +kernel, canTrap_of (by decide +kernel)⟩,
    ⟨{ lab with psr := 0 }, by decide +kernel, fits_of (by decide +kernel)⟩⟩

theorem witness_undefined_encodings :
    isUnassigned .und5E = true ∧ namesNoRegister (.lprb 0b0111 (inR 1)) = true ∧
    (∃ s : State, (usesFpu (.movf (inR 1) (inR 2)) = true ∧ s.cfg.getLsbD 1 = false) ∧
      (usesMmu (.rdval (inR 1) 0) = true ∧ s.flag bitU = false ∧ s.cfg.getLsbD 2 = false) ∧
      (usesCustom .custom36 = true ∧ s.cfg.getLsbD 3 = false) ∧ s.canTrap s .und) ∧
    (∃ s : State, s.cfg.getLsbD 1 = true ∧ s.cfg.getLsbD 3 = true ∧ s.flag bitU = false) ∧
    ∃ s : State, s.cfg.getLsbD 3 = true ∧ s.flag bitU = true ∧ s.canTrap s .ill :=
  ⟨by decide +kernel, by decide +kernel,
    ⟨{ lab with cfg := 0 }, by decide +kernel, by decide +kernel, by decide +kernel, canTrap_of (by decide +kernel)⟩,
    ⟨{ lab with cfg := 0b1010 }, by decide +kernel⟩,
    ⟨{ lab with cfg := 0b1000, psr := 0x0300 }, by decide +kernel, by decide +kernel, canTrap_of (by decide +kernel)⟩⟩

/-! #### Memory and operands -/

theorem witness_memory : lab.plain ∧ inSpace (2 ^ 24 - 8) 8 = true ∧ inSpace 0 1 = true :=
  ⟨plain_of (by decide +kernel), by decide, by decide⟩

theorem witness_register_operands : ∃ r : Reg, r.val % 2 = 0 := ⟨6, by decide⟩

theorem witness_top_of_stack :
    (∃ s : State, s.plain ∧ s.sp.toNat + 8 < 2 ^ 24 ∧ ¬s.sp.toNat + 9 < 2 ^ 24) ∧ ∃ s : State, s.plain ∧ s.sp.toNat = 8 :=
  ⟨⟨{ lab with sp1 := 0xFFFFF7 }, plain_of (by decide +kernel), by decide +kernel⟩,
    ⟨{ lab with sp1 := 8 }, plain_of (by decide +kernel), by decide +kernel⟩⟩

theorem witness_addresses :
    (Disp.d4 (-16277215)).ok = true ∧ (Disp.d4 16277215).ok = true ∧ lab.plain ∧
    inSpace ((lab.fp.toNat : Int) + (Disp.d1 8).value) 4 = true ∧ lab.mod.toNat < 0xFFF1 ∧
    inSpace (load lab.mem (lab.mod.toNat + 4) 4 + 4 * (Disp.d1 2).value) 4 = true ∧
    (∃ (m : Base) (a : Int) (t : State), Gives (exactAddress (.base m)) lab a t) ∧
    (∃ t : State, Gives (exactAddress (.base (.abs (.d1 (-1))))) lab (-1) t ∧ inSpace (-1) 1 = false) ∧
    (∃ t : State, Gives (exactAddress (.base (.reg 6))) lab 16 t ∧ Gives (exactAddress (.scaled .b 7 (.reg 6))) lab 16 t) ∧
    ∃ t : State, Gives (exactAddress (.base (.reg 6))) lab 16 t ∧
      Gives (exactAddress (.scaled .q 2 (.reg 6))) lab (16 - 8 * 0x7FFFFFF9) t ∧ inSpace 16 1 = true ∧
      inSpace (16 - 8 * 0x7FFFFFF9) 1 = false :=
  ⟨by decide, by decide, plain_of (by decide +kernel), by decide +kernel, by decide +kernel, by decide +kernel,
    ⟨.ext (.d1 2) (.d1 (-4)), _, _, gives_of _ _ (by decide +kernel)⟩,
    ⟨lab, gives_exact (by decide +kernel), by decide⟩,
    ⟨lab, gives_exact (by decide +kernel), gives_exact (by decide +kernel)⟩,
    lab, gives_exact (by decide +kernel), gives_exact (by decide +kernel), by decide, by decide⟩

/-! #### Integer and logical instructions

Each witness takes a register, memory or the stack as its destination. -/

theorem witness_additions :
    Replacement .int 1 1 lab (inR 5) indexed (fun a b => BitVec.ofNat 64 ((uval 1 b + uval 1 a + 1) % 2 ^ 8)) (fun _ _ => true) ∧
    Replacement .int 4 4 lab onStack (inR 5) (fun a b => BitVec.ofNat 64 ((uval 4 b + uval 4 a) % 2 ^ 32)) (fun _ _ => true) ∧
    Modification 2 lab onStack (fun b => BitVec.ofNat 64 ((uval 2 b + uval 2 ((0b1000#4).signExtend 64)) % 2 ^ 16))
      (fun _ => true) ∧
    lab.fits (.addcb (inR 5) indexed) ∧ lab.fits (.addd onStack (inR 5)) ∧ lab.fits (.addqw (-8) onStack) :=
  ⟨replacement_of (by decide +kernel), replacement_of (by decide +kernel),
    modification_of (by decide +kernel), fits_of (by decide +kernel), fits_of (by decide +kernel),
    fits_of (by decide +kernel)⟩

theorem witness_subtractions :
    Replacement .int 2 2 lab onStack onStack
      (fun a b => BitVec.ofInt 64 (((uval 2 b : Int) - uval 2 a - 1) % 2 ^ 16)) (fun _ _ => true) ∧
    Replacement .int 4 4 lab (.imm 1) (inR 2) (fun a b => BitVec.ofInt 64 (((uval 4 b : Int) - uval 4 a) % 2 ^ 32))
      (fun _ _ => true) ∧
    lab.fits (.subcw onStack onStack) ∧ lab.fits (.subd (.imm 1) (inR 2)) :=
  ⟨replacement_of (by decide +kernel), replacement_of (by decide +kernel), fits_of (by decide +kernel),
    fits_of (by decide +kernel)⟩

theorem witness_negation_and_magnitude :
    Conversion .int 1 .int 1 lab (.imm 0x80) onStack (fun a => BitVec.ofInt 64 (-sval 1 a % 2 ^ 8)) (fun _ => true) ∧
    Conversion .int 4 .int 4 lab (inR 2) (inR 2) (fun a => BitVec.ofInt 64 ((sval 4 a).natAbs % 2 ^ 32)) (fun _ => true) ∧
    lab.fits (.negb (.imm 0x80) onStack) ∧ lab.fits (.absd (inR 2) (inR 2)) :=
  ⟨conversion_of (by decide +kernel), conversion_of (by decide +kernel), fits_of (by decide +kernel),
    fits_of (by decide +kernel)⟩

theorem witness_two_operand_results :
    Replacement .int 1 1 lab (inR 2) indexed (fun a b => b &&& a) (fun _ _ => true) ∧
    Replacement .int 2 2 lab onStack (inR 2) (fun a b => b ||| a) (fun _ _ => true) ∧
    Replacement .int 4 4 lab (.imm 7) onStack (fun a b => b &&& ~~~a) (fun _ _ => true) ∧
    Replacement .int 4 4 lab (inR 2) (inR 2) (fun a b => b ^^^ a) (fun _ _ => true) ∧
    Replacement .int 4 4 lab (inR 2) (inR 5) (fun a b => BitVec.ofInt 64 (sval 4 b * sval 4 a % 2 ^ 32)) (fun _ _ => true) ∧
    lab.fits (.andb (inR 2) indexed) ∧ lab.fits (.orw onStack (inR 2)) ∧ lab.fits (.bicd (.imm 7) onStack) ∧
    lab.fits (.xord (inR 2) (inR 2)) ∧ lab.fits (.muld (inR 2) (inR 5)) :=
  ⟨replacement_of (by decide +kernel), replacement_of (by decide +kernel), replacement_of (by decide +kernel),
    replacement_of (by decide +kernel), replacement_of (by decide +kernel), fits_of (by decide +kernel),
    fits_of (by decide +kernel), fits_of (by decide +kernel), fits_of (by decide +kernel), fits_of (by decide +kernel)⟩

theorem witness_extended :
    Replacement .pair 4 8 lab (inR 5) (inR 2) (fun a d => BitVec.ofNat 64 (uval 4 a * uval 4 d)) (fun _ _ => true) ∧
    Replacement .pair 1 2 lab (inR 6) indexed
      (fun a d => BitVec.ofNat 64 (uval 2 d % uval 1 a + 2 ^ 8 * (uval 2 d / uval 1 a)))
      (fun a d => uval 1 a != 0 && uval 2 d / uval 1 a < 2 ^ 8) ∧
    Replacement .pair 4 8 lab (.imm 1) (inR 2) (fun _ d => d) (fun a d => 2 ^ 32 ≤ uval 8 d / uval 4 a) ∧
    (∀ v, ∃ w, Gives (draw >>= fun _ => writeLoc .pair 8 (.reg 2) v) lab () w) ∧
    lab.fits (.meid (inR 5) (inR 2)) ∧ lab.fits (.deib (inR 6) indexed) ∧ lab.fits (.deid (.imm 1) (inR 2)) :=
  ⟨replacement_of (by decide +kernel), replacement_of (by decide +kernel), replacement_of (by decide +kernel),
    fun _ => ⟨_, rfl⟩, fits_of (by decide +kernel), fits_of (by decide +kernel), fits_of (by decide +kernel)⟩

theorem witness_signed_divisions :
    Replacement .int 1 1 lab (.imm 0xFD) indexed (fun a b => BitVec.ofInt 64 (Int.fdiv (sval 1 b) (sval 1 a) % 2 ^ 8))
      (fun a _ => sval 1 a != 0) ∧
    Replacement .int 4 4 { lab with regs := Vector.replicate 8 0x80000000 } (.imm 0xFFFFFFFF) (inR 2) (fun _ b => b)
      (fun a b => sval 4 b = -(2 ^ 31) && sval 4 a = -1) ∧
    (∀ v, ∃ w, Gives (draw >>= fun _ => writeLoc .int 4 (.reg 2) v) lab () w) ∧ lab.fits (.divb (.imm 0xFD) indexed) ∧
    lab.fits (.modd (.imm 0xFFFFFFFF) (inR 2)) ∧ lab.fits (.quod (.imm 0xFFFFFFFF) (inR 2)) ∧
    lab.fits (.remd (.imm 0xFFFFFFFF) (inR 2)) :=
  ⟨replacement_of (by decide +kernel), replacement_of (by decide +kernel), fun _ => ⟨_, rfl⟩, fits_of (by decide +kernel),
    fits_of (by decide +kernel), fits_of (by decide +kernel), fits_of (by decide +kernel)⟩

/-- The zero was popped; the stack pointer is given back. -/
theorem witness_division_by_zero :
    let s := { lab with sp1 := 0x8002 }
    (∃ s1 s2 a b x, Gives (readInt .w onStack) s a s1 ∧ ReadsRmw .int 2 indexed s1 x b s2 ∧ uval 2 a = 0 ∧
      s.canTrap s2 .dvz) ∧
    ∃ s1 s2 a b x, Gives (readInt .d (inR 4)) s a s1 ∧ ReadsRmw .pair 8 (inR 2) s1 x b s2 ∧ uval 4 a = 0 ∧
      s.canTrap s2 .dvz :=
  ⟨⟨_, _, _, _, _, gives_of _ _ (by decide +kernel),
      ⟨_, gives_of _ _ (by decide +kernel), gives_of _ _ (by decide +kernel)⟩, by decide +kernel,
      canTrap_of (by decide +kernel)⟩,
    ⟨_, _, _, _, _, gives_of _ _ (by decide +kernel),
      ⟨_, gives_of _ _ (by decide +kernel), gives_of _ _ (by decide +kernel)⟩, by decide +kernel,
      canTrap_of (by decide +kernel)⟩⟩

theorem witness_moves :
    Conversion .int 4 .int 4 lab onStack onStack (fun v => v) (fun _ => true) ∧
    Conversion .int 1 .int 1 lab (inR 2) indexed (fun v => ~~~v) (fun _ => true) ∧
    Conversion .int 2 .int 2 lab (inR 2) (inR 2) (fun v => v ^^^ 1) (fun _ => true) ∧
    Conversion .int 1 .int 4 lab (.imm 0x80) onStack
      (fun v => (((v.setWidth 8).signExtend 32 : BitVec 32).setWidth 64)) (fun _ => true) ∧
    Setting 4 lab onStack ((((-8 : BitVec 4).signExtend 64).setWidth 32).setWidth 64) ∧
    lab.fits (.movd onStack onStack) ∧ lab.fits (.comb (inR 2) indexed) ∧ lab.fits (.notw (inR 2) (inR 2)) ∧
    lab.fits (.movxbd (.imm 0x80) onStack) ∧ lab.fits (.movzbd (.imm 0x80) onStack) ∧ lab.fits (.movqd (-8) onStack) :=
  ⟨conversion_of (by decide +kernel), conversion_of (by decide +kernel), conversion_of (by decide +kernel),
    conversion_of (by decide +kernel), setting_of (by decide +kernel), fits_of (by decide +kernel),
    fits_of (by decide +kernel), fits_of (by decide +kernel), fits_of (by decide +kernel), fits_of (by decide +kernel),
    fits_of (by decide +kernel)⟩

theorem witness_comparisons :
    TwoReads .int 4 lab onStack onStack (fun _ _ => true) ∧ TwoReads .int 1 lab (inR 2) indexed (fun _ _ => true) ∧
    lab.fits (.cmpd onStack onStack) ∧ lab.fits (.cmpb (inR 2) indexed) ∧ lab.fits (.cmpqd 7 onStack) :=
  ⟨two_reads_of (by decide +kernel), two_reads_of (by decide +kernel), fits_of (by decide +kernel),
    fits_of (by decide +kernel), fits_of (by decide +kernel)⟩

/-- Counts of 31 and -31, of 8 and of -128. -/
theorem witness_shifts :
    Replacement .int 1 4 lab (.imm 0xE1) (inR 2) (fun _ b => b) (fun a _ => sval 1 a = -31) ∧
    Replacement .int 1 4 lab (.imm 31) onStack (fun _ b => b) (fun a _ => (sval 1 a).natAbs < 32) ∧
    Replacement .int 1 1 lab (.imm 8) (inR 2) (fun _ b => b) (fun a _ => 8 ≤ (sval 1 a).natAbs) ∧
    Replacement .int 1 2 lab (.imm 0x80) indexed (fun _ b => b) (fun a _ => 16 ≤ (sval 1 a).natAbs) ∧
    (∀ v, ∃ w, Gives (draw >>= fun _ => writeLoc .int 1 (.reg 2) v) lab () w) ∧ lab.fits (.ashd (.imm 0xE1) (inR 2)) ∧
    lab.fits (.lshd (.imm 31) onStack) ∧ lab.fits (.rotb (.imm 8) (inR 2)) :=
  ⟨replacement_of (by decide +kernel), replacement_of (by decide +kernel), replacement_of (by decide +kernel),
    replacement_of (by decide +kernel), fun _ => ⟨_, rfl⟩, fits_of (by decide +kernel), fits_of (by decide +kernel),
    fits_of (by decide +kernel)⟩

theorem witness_saved_conditions :
    Setting 1 lab (inR 2) 1 ∧ Setting 4 lab onStack 0 ∧ lab.fits (.seqb (inR 2)) ∧ lab.fits (.s1111d onStack) :=
  ⟨setting_of (by decide +kernel), setting_of (by decide +kernel), fits_of (by decide +kernel), fits_of (by decide +kernel)⟩

/-! #### Bits and bit fields -/

theorem witness_register_bits :
    ∃ s1 a new, Gives (readInt .b (.imm 31)) lab a s1 ∧ sval 1 a = 31 ∧ lab.fits (.ibitb (.imm 31) (inR 2)) ∧
      lab.fits (.tbitb (.imm 31) (inR 2)) ∧ BitReplaced 32 (s1.reg 2) new 31 (!(s1.reg 2).getLsbD 31) :=
  ⟨lab, 31, 7, rfl, by decide, fits_of (by decide +kernel), fits_of (by decide +kernel),
    show ∀ j, j < 32 → _ by decide +kernel⟩

/-- Bit 7 of the byte at 1FFF: an offset of -1. -/
theorem witness_memory_bits :
    ∃ s1 s2 s3 w a v new p, (∀ r, Gen.base (.regRel 1 (.d1 0)) ≠ .base (.reg r)) ∧
      Gives (readInt .d (inR 5)) lab a s1 ∧ Gives (addrOp (.base (.regRel 1 (.d1 0)))) s1 p s2 ∧ sval 4 a = -1 ∧
      Gives (memRead (p + sval 4 a / 8) 1) s2 v s3 ∧
      BitReplaced 64 v new (sval 4 a % 8).toNat (!v.getLsbD (sval 4 a % 8).toNat) ∧
      Gives (memWrite (p + sval 4 a / 8) 1 new) (s3.setFlag bitF (v.getLsbD (sval 4 a % 8).toNat)) () w ∧
      lab.fits (.ibitd (inR 5) (.base (.regRel 1 (.d1 0)))) :=
  ⟨_, _, _, _, _, _, 0x80, _, by decide, gives_of _ _ (by decide +kernel), gives_of _ _ (by decide +kernel),
    by decide +kernel, gives_of _ _ (by decide +kernel), show ∀ j, j < 64 → _ by decide +kernel,
    gives_of _ _ (by decide +kernel), fits_of (by decide +kernel)⟩

/-- The bit found at the offset itself and at the highest place; none found. -/
theorem witness_find_first_set :
    let s := { lab with regs := ⟨#[31, 0x80000000, 0, 0, 0, 0, 0, 0], rfl⟩ }
    (∃ s1 s2 w v o x, Gives (readInt .d (inR 1)) s v s1 ∧ ReadsRmw .int 1 (inR 0) s1 x o s2 ∧ uval 1 o = 31 ∧
      v.getLsbD 31 = true ∧ Gives (writeLoc .int 1 x (BitVec.ofNat 64 31)) s2 () w) ∧
    (∃ s1 s2 w v o x, Gives (readInt .d (inR 2)) s v s1 ∧ ReadsRmw .int 1 (inR 3) s1 x o s2 ∧ v = 0 ∧
      Gives (writeLoc .int 1 x 0) s2 () w) ∧
    s.fits (.ffsd (inR 1) (inR 0) 0) :=
  ⟨⟨_, _, _, _, _, _, gives_of _ _ (by decide +kernel),
      ⟨_, gives_of _ _ (by decide +kernel), gives_of _ _ (by decide +kernel)⟩, by decide +kernel, by decide +kernel,
      gives_of _ _ (by decide +kernel)⟩,
    ⟨_, _, _, _, _, _, gives_of _ _ (by decide +kernel),
      ⟨_, gives_of _ _ (by decide +kernel), gives_of _ _ (by decide +kernel)⟩, by decide +kernel,
      gives_of _ _ (by decide +kernel)⟩, fits_of (by decide +kernel)⟩

theorem witness_address_instructions :
    (∃ s1 s2 w a x, Gives (exactAddress indexed) lab a s1 ∧ 0 ≤ a ∧ a < 2 ^ 32 ∧ Gives (locateWrite .int 4 onStack) s1 x s2 ∧
      Gives (writeLoc .int 4 x (BitVec.ofInt 64 a)) s2 () w ∧ lab.fits (.addr indexed onStack)) ∧
    (∃ s1 s2 a x, Gives (exactAddress (.base (.regRel 5 (.d1 1)))) lab a s1 ∧ a = 2 ^ 32 ∧
      Gives (locateWrite .int 4 onStack) s1 x s2 ∧
      (∀ v, ∃ u, Gives (draw >>= fun _ => writeLoc .int 4 x v) s2 () u) ∧ lab.fits (.addr (.base (.regRel 5 (.d1 1))) onStack)) ∧
    (∃ s1 s2 a x, Gives (exactAddress (.base (.abs (.d1 (-1))))) lab a s1 ∧ a = -1 ∧ Gives (locateWrite .int 4 (inR 2)) s1 x s2 ∧
      ∀ v, ∃ u, Gives (draw >>= fun _ => writeLoc .int 4 x v) s2 () u) ∧
    (∃ s1 s2 w a x, Gives (exactAddress (.base (.ext (.d1 2) (.d1 (-4))))) lab a s1 ∧ 0 ≤ a ∧ a < 2 ^ 32 ∧
      Gives (locateWrite .int 4 (inR 2)) s1 x s2 ∧ Gives (writeLoc .int 4 x (BitVec.ofInt 64 a)) s2 () w ∧
      lab.fits (.lxpd (.d1 2) (.d1 (-4)) (inR 2))) ∧
    ∃ s1 s2 w a x, Gives (addrOp indexed) lab a s1 ∧ Gives (locateWrite .int 4 (inR 5)) s1 x s2 ∧
      Gives (writeLoc .int 4 x (BitVec.ofInt 64 ((8 * a + (lab.reg 5).toInt) % 2 ^ 32))) s2 () w ∧
      lab.fits (.cvtp 5 indexed (inR 5)) :=
  ⟨⟨_, _, _, _, _, gives_of _ _ (by decide +kernel), by decide +kernel, by decide +kernel, gives_of _ _ (by decide +kernel),
      gives_of _ _ (by decide +kernel), fits_of (by decide +kernel)⟩,
    ⟨lab, lab, _, .push, gives_exact (v := 2 ^ 32) (by decide +kernel), rfl, gives_exact (by decide +kernel),
      fun _ => ⟨_, (gives_bind ..).mpr ⟨_, _, rfl,
        pushSlot_plain (s := { lab with draws := lab.draws + 1 }) (plain_of (by decide +kernel)) 4 4 _ (le_refl _)
          (by decide +kernel)⟩⟩, fits_of (by decide +kernel)⟩,
    ⟨lab, lab, _, .reg 2, gives_exact (v := -1) (by decide +kernel), rfl, gives_exact (by decide +kernel), fun _ => ⟨_, rfl⟩⟩,
    ⟨_, _, _, _, _, gives_of _ _ (by decide +kernel), by decide +kernel, by decide +kernel, gives_of _ _ (by decide +kernel),
      gives_of _ _ (by decide +kernel), fits_of (by decide +kernel)⟩,
    ⟨_, _, _, _, _, gives_of _ _ (by decide +kernel), gives_of _ _ (by decide +kernel), gives_of _ _ (by decide +kernel),
      fits_of (by decide +kernel)⟩⟩

/-- A whole register; 25 bits from bit 7 of four bytes in memory, at a negative offset. -/
theorem witness_extracted_fields :
    ReadsField (inR 2) 0 32 lab 0x80000007 lab ∧
    (∃ v s1, ReadsField (.base (.regRel 1 (.d1 4))) (-9) 25 lab v s1) ∧
    (∃ s2 w x, Gives (locateWrite .int 4 (inR 7)) lab x s2 ∧ Gives (writeInt .d x 0x80000007) s2 () w) ∧
    lab.fits (.extd 4 (inR 2) (inR 7) (.d1 32)) ∧ lab.fits (.extsd (inR 2) (inR 7) 0 31) :=
  ⟨⟨by decide, by decide, by decide +kernel, rfl⟩,
    ⟨_, _, _, _, _, gives_of _ _ (by decide +kernel), by decide, gives_of _ _ (by decide +kernel), rfl⟩,
    ⟨_, _, _, gives_of _ _ (by decide +kernel), gives_of _ _ (by decide +kernel)⟩, fits_of (by decide +kernel),
    fits_of (by decide +kernel)⟩

/-- Fields as long as the source and longer, in a register and in the last four bytes that hold one in memory. -/
theorem witness_inserted_fields :
    (∃ v s1, Gives (readInt .b (.imm 0xA5)) lab v s1 ∧ 8 ≤ Len.bits .b ∧ (0 : Int) ≤ 24 ∧ (24 : Int) + 8 ≤ 32) ∧
    (∃ v s1 a s2 d s3, Gives (readInt .b onStack) lab v s1 ∧ Gives (addrOp (.base (.regRel 1 (.d1 4)))) s1 a s2 ∧
      (-9 : Int) % 8 + 8 ≤ 32 ∧ Gives (memRead (a + -9 / 8) 4) s2 d s3 ∧
      ∀ new : QWord, ∃ w, Gives (memWrite (a + -9 / 8) 4 new) s3 () w) ∧
    (∃ a s2 d s3, ¬9 ≤ Len.bits .b ∧ Gives (addrOp (.base (.regRel 1 (.d1 0)))) { lab with draws := lab.draws + 1 } a s2 ∧
      (23 : Int) % 8 + 9 ≤ 32 ∧ Gives (memRead (a + 23 / 8) 4) s2 d s3 ∧
      ∀ new : QWord, ∃ w, Gives (memWrite (a + 23 / 8) 4 new) s3 () w) ∧
    (∀ r, Gen.base (.regRel 1 (.d1 0)) ≠ .base (.reg r)) ∧
    lab.fits (.insb 4 (.imm 0xA5) (inR 4) (.d1 8)) ∧ lab.fits (.inssb (.imm 0xA5) (inR 4) 7 8) :=
  ⟨⟨0xA5, lab, rfl, by decide, by decide, by decide⟩,
    ⟨_, _, _, _, _, _, gives_of _ _ (by decide +kernel), gives_of _ _ (by decide +kernel), by decide,
      gives_of _ _ (by decide +kernel), fun _ => ⟨_, leaves_of _ _ (writes_any (by decide +kernel))⟩⟩,
    ⟨_, _, _, _, by decide, gives_of _ _ (by decide +kernel), by decide, gives_of _ _ (by decide +kernel),
      fun _ => ⟨_, leaves_of _ _ (writes_any (by decide +kernel))⟩⟩,
    by simp, fits_of (by decide +kernel), fits_of (by decide +kernel)⟩

/-! #### Strings, blocks, arrays, decimals -/

/-- A string state of `count` elements at 2000, with a translation table there and the String 2 at 2004. -/
def strings (count : DWord) (r4 : DWord) : State :=
  { lab with regs := ⟨#[count, 0x2000, 0x2004, 0x2000, r4, 0, 0, 0], rfl⟩ }

theorem witness_strings :
    -- count 0; the largest and the least positive count, an element read plainly and through the table
    (strings 0 0).reg r0 = 0 ∧ (strings 0 0).fits (.movsd ⟨.neither, true⟩ 0) ∧
    (∃ v t, 0 < ((strings 0x7FFFFFFF 0).reg r0).toInt ∧ ReadsElement 4 false (strings 0x7FFFFFFF 0) v t) ∧
    (∃ v t, 0 < ((strings 1 0).reg r0).toInt ∧ ReadsElement 1 true (strings 1 0) v t ∧
      -- no match and a match end the instruction; neither lets it go on
      stringEnds ⟨.untilMatch, false⟩ 1 v 2 ∧ stringEnds ⟨.whileMatch, false⟩ 1 v 3 ∧ ¬stringEnds ⟨.neither, true⟩ 1 v 2 ∧
      -- MOVS writes the element, CMPS reads one that differs; the next reads one that is equal
      (∃ w, Gives (memWrite ((strings 1 0).reg r2).toNat 1 v) t () w) ∧
      (∃ m u, Gives (memRead ((strings 1 0).reg r2).toNat 1) t m u ∧ uval 1 v ≠ uval 1 m)) ∧
    ∃ v t m u, ReadsElement 1 false ((strings 1 0).setReg 1 0x2004) v t ∧
      Gives (memRead ((strings 1 0).reg r2).toNat 1) t m u ∧ uval 1 v = uval 1 m :=
  ⟨by decide +kernel, fits_of (by decide +kernel), ⟨_, _, by decide +kernel, gives_of _ _ (by decide +kernel)⟩,
    ⟨_, _, by decide +kernel, ⟨_, _, gives_of _ _ (by decide +kernel), gives_of _ _ (by decide +kernel)⟩,
      .inl ⟨rfl, by decide +kernel⟩, .inr ⟨rfl, by decide +kernel⟩, fun h => h.elim (fun h => nomatch h.1) (fun h => nomatch h.1),
      ⟨_, leaves_of _ _ (by decide +kernel)⟩, ⟨_, _, gives_of _ _ (by decide +kernel), by decide +kernel⟩⟩,
    ⟨_, _, _, _, gives_of _ _ (by decide +kernel), gives_of _ _ (by decide +kernel), by decide +kernel⟩⟩

/-- The last sixteen bytes of the space as block 2; overlapping blocks; equal and unequal elements. -/
theorem witness_blocks :
    let s := { lab with regs := ⟨#[0x2000, 0xFFFFF0, 0x2001, 0x2008, 0, 0, 0, 0], rfl⟩ }
    s.plain ∧ blockLengthOk .d (.d1 12) = true ∧ blockLengthOk .b (.d1 15) = true ∧
    (∃ s1 s2 a b, Gives (addrOp (inR 0)) s a s1 ∧ Gives (addrOp (inR 1)) s1 b s2 ∧ a + 16 ≤ 2 ^ 24 ∧ b + 16 ≤ 2 ^ 24 ∧
      16 ≤ (a - b).natAbs) ∧
    (∃ s1 s2 a b, Gives (addrOp (inR 0)) s a s1 ∧ Gives (addrOp (inR 2)) s1 b s2 ∧ ¬16 ≤ (a - b).natAbs ∧
      load s.mem a.toNat 1 ≠ load s.mem b.toNat 1) ∧
    (∀ k, 4 * k < 16 → load s.mem (0x3000 + 4 * k) 4 = load s.mem (0x3000 + 4 * k) 4) ∧
    s.fits (.movmd (inR 0) (inR 1) (.d1 12)) ∧ s.fits (.cmpmb (inR 0) (inR 2) (.d1 15)) :=
  ⟨plain_of (by decide +kernel), by decide, by decide,
    ⟨_, _, _, _, gives_of _ _ (by decide +kernel), gives_of _ _ (by decide +kernel), by decide +kernel, by decide +kernel,
      by decide +kernel⟩,
    ⟨_, _, _, _, gives_of _ _ (by decide +kernel), gives_of _ _ (by decide +kernel), by decide +kernel, by decide +kernel⟩,
    fun _ _ => rfl, fits_of (by decide +kernel), fits_of (by decide +kernel)⟩

/-- Bounds 2 and 1 (upper, lower): a value at the lower bound, one at the upper and one below. -/
theorem witness_array_instructions :
    (∃ s1 s2 s3 s4 base upper lower v, Gives (addrOp indexed) lab base s1 ∧ Gives (memRead base 1) s1 upper s2 ∧
      Gives (memRead (base + 1) 1) s2 lower s3 ∧ Gives (readInt .b (.imm 8)) s3 v s4 ∧
      ¬(sval 1 lower ≤ sval 1 v ∧ sval 1 v ≤ sval 1 upper)) ∧
    (∃ s1 s2 s3 s4 base upper lower v, Gives (addrOp (.base (.abs (.d4 0x2FFF)))) lab base s1 ∧
      Gives (memRead base 1) s1 upper s2 ∧ Gives (memRead (base + 1) 1) s2 lower s3 ∧
      Gives (readInt .b (.imm 0)) s3 v s4 ∧ sval 1 lower = sval 1 v ∧ sval 1 v = sval 1 upper) ∧
    TwoReads .int 4 lab onStack (inR 5) (fun _ _ => true) ∧ lab.fits (.checkb 2 indexed (.imm 8)) ∧
    lab.fits (.indexd 2 onStack (inR 5)) :=
  ⟨⟨_, _, _, _, _, _, _, _, gives_of _ _ (by decide +kernel), gives_of _ _ (by decide +kernel),
      gives_of _ _ (by decide +kernel), gives_of _ _ (by decide +kernel), by decide +kernel⟩,
    ⟨_, _, _, _, _, _, _, _, gives_of _ _ (by decide +kernel), gives_of _ _ (by decide +kernel),
      gives_of _ _ (by decide +kernel), gives_of _ _ (by decide +kernel), by decide +kernel, by decide +kernel⟩,
    two_reads_of (by decide +kernel), fits_of (by decide +kernel), fits_of (by decide +kernel)⟩

/-- 99 and 1 with a carry out, and a digit above 9. -/
theorem witness_decimals :
    (∃ s1 s2 w a b x, Gives (readInt .b (.imm 0x99)) lab a s1 ∧ ReadsRmw .int 1 indexed s1 x b s2 ∧ Decimal a 2 99 ∧
      Decimal b 2 7 ∧ Decimal 0x07 2 ((7 + 99 + 1 : Int) % 10 ^ 2).toNat ∧ Gives (writeInt .b x 0x07) s2 () w) ∧
    (∀ p, ¬Decimal 0x1A 2 p) ∧ (∀ v, ∃ w, Gives (draw >>= fun _ => writeLoc .int 1 (.reg 2) v) lab () w) ∧
    lab.fits (.addpb (.imm 0x99) indexed) ∧ lab.fits (.subpb (.imm 0x1A) (inR 2)) :=
  ⟨⟨_, _, _, _, _, _, gives_of _ _ (by decide +kernel),
      ⟨_, gives_of _ _ (by decide +kernel), gives_of _ _ (by decide +kernel)⟩, ⟨by decide, by decide +kernel⟩,
      ⟨by decide, by decide +kernel⟩, ⟨by decide, by decide +kernel⟩, gives_of _ _ (by decide +kernel)⟩,
    fun p h => by have := h.2 0 (by decide); simp at this; omega,
    fun _ => ⟨_, rfl⟩, fits_of (by decide +kernel), fits_of (by decide +kernel)⟩

/-! #### Control flow -/

/-- To address 0, as far up as a displacement reaches, and past a branch at the end of the space. -/
theorem witness_branches :
    ((Disp.d2 (-0x1000)).ok = true ∧ (lab.pc.toNat : Int) + (Disp.d2 (-0x1000)).value = 0) ∧
    ((Disp.d4 16277215).ok = true ∧ (lab.pc.toNat : Int) + (Disp.d4 16277215).value < 2 ^ 24) ∧
    lab.flag bitZ = true ∧ lab.flag bitL = false ∧ lab.fits (.bhi (.d4 16277216)) ∧ (Disp.d4 16277216).ok = false ∧
    ∃ s : State, s.fits (.bhi (.d1 1)) ∧ ¬s.nextPc (.bhi (.d1 1)) + 1 < 2 ^ 24 :=
  ⟨by decide +kernel, by decide +kernel, by decide +kernel, by decide +kernel, fits_of (by decide +kernel), by decide,
    ⟨{ lab with pc := 0xFFFFFD }, fits_of (by decide +kernel), by decide +kernel⟩⟩

theorem witness_jump_case_and_loop :
    (∃ s1 a, Gives (addrOp indexed) lab a s1) ∧
    (∃ s1 v, Gives (readInt .w (.imm 0xF000)) lab v s1 ∧ (lab.pc.toNat : Int) + sval 2 v = 0) ∧
    Modification 4 lab (inR 5) (fun b => BitVec.ofInt 64 ((uval 4 b + 1) % 2 ^ 32)) (fun b => (uval 4 b + 1) % 2 ^ 32 = 0) ∧
    Modification 1 lab onStack (fun b => BitVec.ofInt 64 ((uval 1 b - 8) % 2 ^ 8)) (fun b => (uval 1 b - 8 : Int) % 2 ^ 8 ≠ 0) ∧
    lab.fits (.acbd 1 (inR 5) (.d1 (-64))) :=
  ⟨⟨_, _, gives_of _ _ (by decide +kernel)⟩, ⟨_, 0xF000, rfl, by decide +kernel⟩, modification_of (by decide +kernel),
    modification_of (by decide +kernel), fits_of (by decide +kernel)⟩

theorem witness_calls :
    (∃ s1 w a, Gives (addrOp indexed) lab a s1 ∧ lab.fits (.jsr indexed) ∧
      Gives (push 4 (BitVec.ofNat 64 (lab.nextPc (.jsr indexed)))) s1 () w) ∧
    (∃ w, lab.fits (.bsr (.d1 5)) ∧ Gives (push 4 (BitVec.ofNat 64 (lab.nextPc (.bsr (.d1 5))))) lab () w) ∧
    ∃ s1 a, Gives (pop 4) lab a s1 ∧ uval 4 a < 2 ^ 24 ∧ (s1.sp.toNat : Int) + (Disp.d2 (-4)).value = 0x8000 :=
  ⟨⟨_, _, _, gives_of _ _ (by decide +kernel), fits_of (by decide +kernel), gives_of _ _ (by decide +kernel)⟩,
    ⟨_, fits_of (by decide +kernel), gives_of _ _ (by decide +kernel)⟩,
    ⟨_, _, gives_of _ _ (by decide +kernel), by decide +kernel, by decide +kernel⟩⟩

theorem witness_external_calls :
    (∃ s1, Gives (linkEntry (Disp.d1 2).value) lab (BitVec.ofNat 64 0x01230030) s1 ∧ lab.fits (.cxp (.d1 2)) ∧
      load ((s1.store 0x7FFC 2 lab.mod.toNat).store 0x7FF8 4 (lab.nextPc (.cxp (.d1 2)))).mem 0x38 4 + 0x0123 < 2 ^ 24) ∧
    (∃ s1 a u, Gives (addrOp (.base (.abs (.d2 0x1008)))) (holding lab 0x1008 [0x30, 0, 0, 0]) a u ∧
      Gives (memRead a 4) u (BitVec.ofNat 64 0x30) s1) ∧
    lab.plain ∧ lab.sp.toNat = 0x8000 ∧ load lab.mem 0x8000 4 < 2 ^ 24 ∧ load lab.mem 0x8004 2 < 0xFFF1 :=
  ⟨⟨lab, gives_exact (by decide +kernel), fits_of (by decide +kernel), by decide +kernel⟩,
      ⟨holding lab 0x1008 [0x30, 0, 0, 0], _, _, gives_of _ _ (by decide +kernel), gives_exact (by decide +kernel)⟩,
    plain_of (by decide +kernel), by decide +kernel, by decide +kernel, by decide +kernel⟩

/-- RETT, whose PSR image selects the Interrupt Stack; RETI answered with 127, and with -16 and -1. -/
theorem witness_returns :
    lab.plain ∧ lab.flag bitU = false ∧ lab.sp.toNat + 8 < 2 ^ 24 ∧ load lab.mem lab.sp.toNat 4 < 2 ^ 24 ∧
    load lab.mem (lab.sp.toNat + 4) 2 < 0xFFF1 ∧
    (BitVec.ofNat 16 (load lab.mem (lab.sp.toNat + 6) 2) &&& psrMask).getLsbD bitS = false ∧
    (0 ≤ (lab.sp0.toNat : Int) + (Disp.d2 (-0x1FF8)).value) ∧
    (∃ b : Byte, b.toNat < 128 ∧ ¬b.toNat + 1 < 128) ∧
    ∀ b : Byte, b ∈ [0xF0, 0xFF] → -16 ≤ b.toInt ∧ b.toInt < 0 ∧ inSpace (lab.intbase.toNat + 4 * b.toInt) 4 = true ∧
      load lab.mem (lab.intbase.toNat + 4 * b.toInt).toNat 4 < 2 ^ 24 :=
  ⟨plain_of (by decide +kernel), by decide +kernel, by decide +kernel, by decide +kernel, by decide +kernel,
    by decide +kernel, by decide +kernel, ⟨127, by decide⟩, by decide +kernel⟩

/-! #### Processor service -/

theorem witness_context :
    lab.plain ∧ 4 * listed 0xFF 8 ≤ lab.sp.toNat ∧ lab.sp.toNat + 4 * listed 0xFF 8 < 2 ^ 24 ∧ 4 ≤ lab.sp.toNat ∧
    ((4 * listed 0xFF 8 : Nat) : Int) ≤ lab.sp.toNat - 4 - (Disp.d2 8000).value ∧
    (lab.sp.toNat : Int) - 4 - (Disp.d2 (-8192)).value < 2 ^ 24 ∧ lab.fp.toNat + 4 < 2 ^ 24 ∧ lab.fits (.save 0xFF) ∧
    lab.fits (.restore 0xFF) ∧ lab.fits (.enter 0xFF (.d2 8000)) ∧ lab.fits (.exit 0xFF) :=
  ⟨plain_of (by decide +kernel), by decide +kernel, by decide +kernel, by decide +kernel, by decide +kernel,
    by decide +kernel, by decide +kernel, fits_of (by decide +kernel), fits_of (by decide +kernel),
    fits_of (by decide +kernel), fits_of (by decide +kernel)⟩

theorem witness_status_and_registers :
    (∃ s1 v, Gives (readInt .w onStack) lab v s1 ∧ lab.flag bitU = false ∧ lab.fits (.bispsrw onStack) ∧
      lab.fits (.lprw 0b1101 onStack)) ∧
    (∃ s1 v, Gives (readInt .d onStack) lab v s1 ∧ lab.fits (.lprd 0b1001 onStack) ∧ lab.fits (.adjspd onStack)) ∧
    Setting 4 lab onStack (lab.sp.setWidth 64) ∧ Setting 1 lab (inR 2) ((lab.psr &&& 0x00E7).setWidth 64) ∧
    lab.fits (.sprd 0b1001 onStack) ∧ lab.fits (.sprb 0b0000 (inR 2)) :=
  ⟨⟨_, _, gives_of _ _ (by decide +kernel), by decide +kernel, fits_of (by decide +kernel), fits_of (by decide +kernel)⟩,
    ⟨_, _, gives_of _ _ (by decide +kernel), fits_of (by decide +kernel), fits_of (by decide +kernel)⟩,
    setting_of (by decide +kernel), setting_of (by decide +kernel), fits_of (by decide +kernel),
    fits_of (by decide +kernel)⟩

theorem witness_unit_registers :
    lab.fpuReady ∧ lab.mmuReady ∧ (∃ s1 v, Gives (readInt .d onStack) lab v s1) ∧ (0b1111, MmuRegs.eia) ∈ mmuTable ∧
    (0b1010, MmuRegs.msr) ∈ mmuTable ∧ lab.fits (.lmr 0b1010 onStack 0) ∧
    Setting 4 lab onStack (lab.fsr.setWidth 64) ∧ lab.fits (.lfsr onStack 0) ∧ lab.fits (.lmr 0b1111 onStack 0) ∧
    lab.fits (.sfsr onStack 0) ∧ lab.fits (.smr 0b1111 onStack 0) :=
  ⟨⟨by decide +kernel, by decide +kernel⟩, ⟨by decide +kernel, by decide +kernel, by decide +kernel⟩,
    ⟨_, _, gives_of _ _ (by decide +kernel)⟩, .tail _ (.tail _ (.tail _ (.tail _
      (.tail _ (.tail _ (.tail _ (.tail _ (.tail _ (.head _))))))))),
    .tail _ (.tail _ (.tail _ (.tail _ (.tail _ (.head _))))), fits_of (by decide +kernel), setting_of (by decide +kernel),
    fits_of (by decide +kernel), fits_of (by decide +kernel), fits_of (by decide +kernel), fits_of (by decide +kernel)⟩

/-- ADJSP to 0 and to the last address. -/
theorem witness_service :
    (∃ s1 v, Gives (readInt .w (.imm 0x8000)) { lab with sp1 := 0xFF7FFF } v s1 ∧
      (s1.sp.toNat : Int) - sval 2 v = 2 ^ 24 - 1) ∧
    (∃ s1 v, Gives (readInt .d (.imm 0x8000)) lab v s1 ∧ (s1.sp.toNat : Int) - sval 4 v = 0) ∧ lab.fits .nop ∧
    lab.flag bitU = false ∧ lab.fits (.setcfg 0 0) :=
  ⟨⟨_, 0x8000, rfl, by decide +kernel⟩, ⟨_, 0x8000, rfl, by decide +kernel⟩, fits_of (by decide +kernel), by decide +kernel,
    fits_of (by decide +kernel)⟩

/-- The same state with address translation active. -/
def mapping : State := { lab with mmu := { lab.mmu with msr := 1 } }

theorem one_translation (x : Translation) : x = .refused ∨ x = .invalid ∨ ∃ pa, x = .mapped pa := by
  cases x with
  | mapped pa => exact .inr (.inr ⟨pa, rfl⟩)
  | refused => exact .inl rfl
  | invalid => exact .inr (.inl rfl)

/-- Whatever the mapping of the platform is, one of the three clauses about it holds. -/
theorem witness_user_space :
    (∃ s1 s2 s3 w a b v, Gives (addrOp indexed) lab a s1 ∧ Gives (addrOp onStack) s1 b s2 ∧
      Gives (memReadAs .supervisor a 4) s2 v s3 ∧ Gives (memWriteAs .user b 4 v) s3 () w) ∧
    lab.mmuReady ∧ lab.translating = false ∧ lab.fits (.movsud indexed onStack) ∧ lab.fits (.rdval indexed 0) ∧
    ∃ (s s1 : State) (a : Int), s.mmuReady ∧ s.translating = true ∧ Gives (addrOp (inR 1)) s a s1 ∧
      s.fits (.wrval (inR 1) 0) ∧
      let seen := Config.translate s1.mmu s1.buffer s1.mem (BitVec.ofInt 24 a) .user .write
      (seen = .refused ∨ seen = .invalid ∨ ∃ pa, seen = .mapped pa) :=
  ⟨⟨_, _, _, _, _, _, _, gives_of _ _ (by decide +kernel), gives_of _ _ (by decide +kernel), gives_of _ _ (by decide +kernel),
      leaves_of _ _ (by decide +kernel)⟩,
    ⟨by decide +kernel, by decide +kernel, by decide +kernel⟩, by decide +kernel, fits_of (by decide +kernel),
    fits_of (by decide +kernel),
    ⟨mapping, _, _, ⟨by decide +kernel, by decide +kernel, by decide +kernel⟩, by decide +kernel,
      gives_of _ _ (by decide +kernel), fits_of (by decide +kernel), one_translation _⟩⟩

/-! #### Floating point -/

theorem some_of {α : Type} [Inhabited α] {o : Option α} (h : o.isSome = true) : o = some (o.getD default) := by
  cases o with
  | none => cases h
  | some v => rfl

/-- 1.5 divided by 3.0, and a sum with Long operands. -/
theorem witness_floating_arithmetic :
    (∃ s1 s2 s3 w a b r va vb x, lab.fpuReady ∧ Gives (readFloat .f (inR 0)) lab a s1 ∧
      ReadsRmw .float 4 (inR 1) s1 x b s2 ∧ classify .f a = some va ∧ classify .f b = some vb ∧ va.num ≠ 0 ∧
      Gives (fpDeliver .f (vb.div va) (Config.fpZeroSign .div .f a b (rounding lab.fsr))) s2 r s3 ∧
      Gives (writeFloat .f x r) s3 () w ∧ lab.fits (.divf (inR 0) (inR 1))) ∧
    ∃ s1 s2 s3 w a b r va vb x, lab.fpuReady ∧ Gives (readFloat .l (inR 2)) lab a s1 ∧
      ReadsRmw .float 8 (inR 4) s1 x b s2 ∧ classify .l a = some va ∧ classify .l b = some vb ∧
      Gives (fpDeliver .l (vb.add va) (Config.fpZeroSign .add .l a b (rounding lab.fsr))) s2 r s3 ∧
      Gives (writeFloat .l x r) s3 () w ∧ lab.fits (.addl (inR 2) (inR 4)) :=
  ⟨⟨_, _, _, _, _, _, _, _, _, _, ⟨by decide +kernel, by decide +kernel⟩, gives_of _ _ (by decide +kernel),
      ⟨_, gives_of _ _ (by decide +kernel), gives_of _ _ (by decide +kernel)⟩, some_of (by decide +kernel),
      some_of (by decide +kernel), by decide +kernel, gives_of _ _ (by decide +kernel), leaves_of _ _ (by decide +kernel),
      fits_of (by decide +kernel)⟩,
    ⟨_, _, _, _, _, _, _, _, _, _, ⟨by decide +kernel, by decide +kernel⟩, gives_of _ _ (by decide +kernel),
      ⟨_, gives_of _ _ (by decide +kernel), gives_of _ _ (by decide +kernel)⟩, some_of (by decide +kernel),
      some_of (by decide +kernel), gives_of _ _ (by decide +kernel), leaves_of _ _ (by decide +kernel),
      fits_of (by decide +kernel)⟩⟩

/-- -1/3. -/
def third : Exact := { neg := true, num := 1, den := 3 }

/-- 2 to the power -150, too small for the Single format, and 2 to the power 128, too great for it. -/
def speck : Exact := { neg := false, num := 1, den := 2 ^ 150 }
def giant : Exact := { neg := true, num := 2 ^ 128, den := 1 }

theorem third_value : third.value = -1 / 3 := by norm_num [third, Exact.value, Exact.signed]
theorem speck_value : speck.value = 1 / 2 ^ 150 := by norm_num [speck, Exact.value, Exact.signed]
theorem giant_value : giant.value = -2 ^ 128 := by norm_num [giant, Exact.value, Exact.signed]

/-- -1/3 in the third rounding mode is neither too small nor too great, the others are one of both. -/
theorem sizes_of_numbers :
    ¬TooSmall .f 0b10 third.value ∧ ¬TooGreat .f 0b10 third.value ∧ TooSmall .f 0b00 speck.value ∧
      ¬TooGreat .f 0b00 speck.value ∧ TooGreat .f 0b00 giant.value := by
  rw [third_value, speck_value, giant_value]
  refine ⟨?_, ?_, ?_, ?_, ?_⟩ <;> norm_num [TooSmall, TooGreat, RoundsTo, byFLen, abs_div, abs_neg]
  exacts [id, .inl id, id]

/-- The denominator of a number of a format is a power of 2. -/
theorem classify_den {y : FLen} {v : QWord} {e : Exact} (h : classify y v = some e) : ∃ j, e.den = 2 ^ j := by
  unfold classify at h
  simp only at h
  split at h
  · cases h
  · split at h
    · split at h
      · cases h; exact ⟨0, rfl⟩
      · cases h
    · cases h
      unfold scaled
      split
      · exact ⟨0, rfl⟩
      · exact ⟨_, rfl⟩

/-- No number of a format is -1/3. -/
theorem third_inexact (v : QWord) : ¬Represents .f v third.value := by
  rintro ⟨e, he, hv⟩
  obtain ⟨j, hj⟩ := classify_den he
  rw [third_value, Exact.value, hj, div_eq_div_iff (by positivity) (by norm_num)] at hv
  have hz : e.signed * 3 = -(2 : Int) ^ j := by exact_mod_cast (by simpa using hv : (e.signed : Rat) * 3 = -(2 : Rat) ^ j)
  have : (3 : Int) ∣ 2 ^ j := ⟨-e.signed, by omega⟩
  have := Int.prime_three.dvd_of_dvd_pow this
  omega

/-- One third in each rounding mode, the exact number 1, a number below the least normalized one, and a Single and a Long
pattern of each kind. -/
theorem witness_delivered_numbers :
    Gives (fpDeliver .l (third.sub third) true) lab 0x8000000000000000 lab ∧ (third.sub third).num = 0 ∧
    (∃ v t, Gives (fpDeliver .f third false) lab v t) ∧
    (∃ v t, Gives (fpDeliver .f third false) { lab with fsr := 0x0080 } v t) ∧
    (∃ v t, Gives (fpDeliver .f third false) { lab with fsr := 0x0100 } v t ∧ ¬TooSmall .f 0b10 third.value ∧
      ¬TooGreat .f 0b10 third.value) ∧
    (∃ v t, Gives (fpDeliver .f third false) { lab with fsr := 0x0180 } v t) ∧
    (∃ v t, Gives (fpDeliver .l { neg := false, num := 1, den := 1 } false) lab v t) ∧
    (Gives (fpDeliver .f speck true) lab 0 (lab.setFsrBit bitUF) ∧ TooSmall .f 0b00 speck.value) ∧
    classify .f 0x7F800000 = none ∧ classify .l 1 = none ∧
    classify .f 0x80000000 = some { neg := true, num := 0, den := 1 } ∧ (classify .l 0x0010000000000000).isSome = true :=
  ⟨gives_exact (by decide +kernel), by decide, ⟨_, _, gives_of _ _ (by decide +kernel)⟩,
    ⟨_, _, gives_of _ _ (by decide +kernel)⟩,
    ⟨_, _, gives_of _ _ (by decide +kernel), sizes_of_numbers.1, sizes_of_numbers.2.1⟩,
    ⟨_, _, gives_of _ _ (by decide +kernel)⟩, ⟨_, _, gives_of _ _ (by decide +kernel)⟩,
    ⟨gives_exact (by decide +kernel), sizes_of_numbers.2.2.1⟩, by decide +kernel, by decide +kernel, by decide +kernel,
    by decide +kernel⟩

theorem witness_floating_moves :
    (∃ s1 s2 a b va vb, Gives (readFloat .f (inR 0)) lab a s1 ∧ Gives (readFloat .f (.imm 0x80000000)) s1 b s2 ∧
      classify .f a = some va ∧ classify .f b = some vb ∧ va.num ≠ 0 ∧ vb.num = 0) ∧
    Conversion .float 4 .float 4 lab (inR 0) onStack (fun a => (a.setWidth 32 ^^^ 0x80000000#32).setWidth 64)
      (fun a => classify .f a != none) ∧
    Conversion .float 8 .float 8 lab (inR 2) (inR 2) (fun a => a &&& 0x7FFFFFFFFFFFFFFF#64) (fun a => classify .l a != none) ∧
    Conversion .float 4 .float 8 lab (inR 0) (inR 4) widen (fun a => classify .f a != none) ∧
    lab.fits (.cmpf (inR 0) (.imm 0x80000000)) ∧ lab.fits (.negf (inR 0) onStack) ∧ lab.fits (.absl (inR 2) (inR 2)) ∧
    lab.fits (.movl (inR 2) (inR 2)) ∧ lab.fits (.movfl (inR 0) (inR 4)) :=
  ⟨⟨_, _, _, _, _, _, gives_of _ _ (by decide +kernel), gives_of _ _ (by decide +kernel), some_of (by decide +kernel),
      some_of (by decide +kernel), by decide +kernel, by decide +kernel⟩,
    conversion_of (by decide +kernel), conversion_of (by decide +kernel), conversion_of (by decide +kernel),
    fits_of (by decide +kernel), fits_of (by decide +kernel), fits_of (by decide +kernel), fits_of (by decide +kernel),
    fits_of (by decide +kernel)⟩

/-- The most negative integer to a Single number, and a Long number to one. -/
theorem witness_conversions_to_floating :
    (∃ s1 s2 s3 w a r x, Gives (readInt .d (inR 2)) lab a s1 ∧ Gives (locateWrite .float 4 onStack) s1 x s2 ∧
      Gives (fpDeliver .f { neg := decide (sval 4 a < 0), num := (sval 4 a).natAbs, den := 1 } false) s2 r s3 ∧
      Gives (writeFloat .f x r) s3 () w ∧ lab.fits (.movdf (inR 2) onStack)) ∧
    ∃ s1 s2 s3 w a r x e, Gives (readFloat .l (inR 4)) lab a s1 ∧ Gives (locateWrite .float 4 (inR 3)) s1 x s2 ∧
      classify .l a = some e ∧ Gives (fpDeliver .f e e.neg) s2 r s3 ∧ Gives (writeFloat .f x r) s3 () w ∧
      lab.fits (.movlf (inR 4) (inR 3)) :=
  ⟨⟨_, _, _, _, _, _, _, gives_of _ _ (by decide +kernel), gives_of _ _ (by decide +kernel), gives_of _ _ (by decide +kernel),
      leaves_of _ _ (by decide +kernel), fits_of (by decide +kernel)⟩,
    ⟨_, _, _, _, _, _, _, _, gives_of _ _ (by decide +kernel), gives_of _ _ (by decide +kernel), some_of (by decide +kernel),
      gives_of _ _ (by decide +kernel), leaves_of _ _ (by decide +kernel), fits_of (by decide +kernel)⟩⟩

/-- The traps of Underflow and of an Inexact Result enabled. -/
def trapping : State := { lab with fsr := 0x0028 }

/-- The same, with results rounded up. -/
def upward : State := { lab with fsr := 0x0128 }

/-- An integer in the range, exact or not; one above it, whose trap can be taken. -/
theorem witness_conversions_to_integer :
    (∃ s1 s2 a v x, Gives (readFloat .f (inR 1)) lab a s1 ∧ Gives (locateWrite .int 1 (inR 2)) s1 x s2 ∧
      classify .f a = some v ∧ (∀ b : Bool, ∃ s3, Gives (inexactResult b) s2 () s3) ∧
      ∀ n : QWord, ∃ w, Gives (writeInt .b x n) s2 () w) ∧
    (∃ s1 s2 v x, Gives (readFloat .f (.imm 0x4B000000)) lab 0x4B000000 s1 ∧ Gives (locateWrite .int 2 onStack) s1 x s2 ∧
      classify .f 0x4B000000 = some v ∧ inRange .w v.signed = false ∧
      lab.canTrap { s2 with fsr := putTT s2.fsr 0b010 } .fpu) ∧
    (∃ s1 s2 v x, Gives (readFloat .f (.imm 0x3FC00000)) trapping 0x3FC00000 s1 ∧
      Gives (locateWrite .int 2 onStack) s1 x s2 ∧ classify .f 0x3FC00000 = some v ∧ v.den ≠ 1 ∧
      s2.fsr.getLsbD bitIEN = true ∧
      trapping.canTrap { s2 with fsr := putTT (s2.setFsrBit bitIF).fsr 0b110 } .fpu) ∧
    lab.fits (.truncfb (inR 1) (inR 2)) ∧ inRange .b (-128) = true ∧ inRange .b 128 = false :=
  ⟨⟨_, _, _, _, .reg 2, gives_of _ _ (by decide +kernel), gives_exact (t := lab) (by decide +kernel), some_of (by decide +kernel),
      fun b => ⟨_, leaves_of _ _ (by revert b; decide +kernel)⟩, fun _ => ⟨_, rfl⟩⟩,
    ⟨lab, _, _, _, rfl, gives_of _ _ (by decide +kernel), some_of (by decide +kernel), by decide +kernel,
      canTrap_of (by decide +kernel)⟩,
    ⟨trapping, _, _, _, rfl, gives_of _ _ (by decide +kernel), some_of (by decide +kernel), by decide +kernel,
      by decide +kernel, canTrap_of (by decide +kernel)⟩,
    fits_of (by decide +kernel), by decide, by decide⟩

/-- An action is abandoned with the floating-point trap. -/
def trapsWith (m : Act QWord) (s u : State) : Bool :=
  match m.run s with
  | .error x t => decide (x = .trap .fpu) && decide (t = u)
  | .ok _ _ => false

theorem abandons_of {m : Act QWord} {s u : State} (h : trapsWith m s u = true) : Abandons m s (.trap .fpu) u := by
  unfold trapsWith at h
  unfold Abandons
  split at h
  · rename_i x t e
    simp only [Bool.and_eq_true, decide_eq_true_eq] at h
    rw [e, h.1, h.2]
  · cases h

theorem witness_floating_traps :
    -- a Reserved operand; zero by zero; a number by zero
    (∃ s1 s2 a b x, Gives (readFloat .f (.imm 0x7F800000)) lab a s1 ∧ ReadsRmw .float 4 (inR 1) s1 x b s2 ∧
      classify .f a = none ∧ lab.canTrap { s2 with fsr := putTT s2.fsr 0b101 } .fpu) ∧
    (∃ s1 s2 a b x va vb, Gives (readFloat .f (.imm 0)) lab a s1 ∧ ReadsRmw .float 4 (inR 4) s1 x b s2 ∧
      classify .f a = some va ∧ classify .f b = some vb ∧ va.num = 0 ∧ vb.num = 0 ∧
      lab.canTrap { s2 with fsr := putTT s2.fsr 0b101 } .fpu) ∧
    (∃ s1 s2 a b x va vb, Gives (readFloat .f (.imm 0)) lab a s1 ∧ ReadsRmw .float 4 (inR 1) s1 x b s2 ∧
      classify .f a = some va ∧ classify .f b = some vb ∧ va.num = 0 ∧ vb.num ≠ 0 ∧
      lab.canTrap { s2 with fsr := putTT s2.fsr 0b011 } .fpu) ∧
    lab.canTrap { lab with fsr := putTT lab.fsr 0b100 } .fpu ∧
    -- a sum that is too great, of the greatest number and itself
    (∃ s1 s2 a b x va vb u, u = { s2 with fsr := putTT s2.fsr 0b010 } ∧
      Gives (readFloat .f (.imm 0x7F7FFFFF)) lab a s1 ∧ ReadsRmw .float 4 (inR 1) s1 x b s2 ∧
      classify .f a = some va ∧ classify .f 0x7F7FFFFF = some vb ∧ va.num ≠ 0 ∧
      Abandons (fpDeliver .f (vb.add va) false) s2 (.trap .fpu) u ∧ lab.canTrap u .fpu) ∧
    TooGreat .f (rounding lab.fsr) giant.value ∧
    -- too small, and not exact, with the traps enabled
    (TooSmall .f (rounding trapping.fsr) speck.value ∧ ¬TooGreat .f (rounding trapping.fsr) speck.value ∧
      trapping.fsr.getLsbD bitUEN = true) ∧
    (¬TooSmall .f (rounding upward.fsr) third.value ∧ ¬TooGreat .f (rounding upward.fsr) third.value ∧
      (∀ v, ¬Represents .f v third.value) ∧ upward.fsr.getLsbD bitIEN = true ∧
      Abandons (fpDeliver .f third false) upward (.trap .fpu)
        { upward with fsr := putTT (upward.setFsrBit bitIF).fsr 0b110 }) ∧
    -- a Reserved operand of CMPF and ROUNDFB
    (∃ s1 s2 a b, Gives (readFloat .f (inR 0)) lab a s1 ∧ Gives (readFloat .f (.imm 1)) s1 b s2 ∧ classify .f b = none ∧
      lab.canTrap { s2 with fsr := putTT s2.fsr 0b101 } .fpu) ∧
    ∃ s1 s2 a x, Gives (readFloat .f (.imm 0xFF800000)) lab a s1 ∧ Gives (locateWrite .int 1 onStack) s1 x s2 ∧
      classify .f a = none ∧ lab.canTrap { s2 with fsr := putTT s2.fsr 0b101 } .fpu :=
  ⟨⟨_, _, _, _, _, gives_of _ _ (by decide +kernel),
      ⟨_, gives_of _ _ (by decide +kernel), gives_of _ _ (by decide +kernel)⟩, by decide +kernel,
      canTrap_of (by decide +kernel)⟩,
    ⟨_, _, _, _, _, _, _, gives_of _ _ (by decide +kernel),
      ⟨_, gives_of _ _ (by decide +kernel), gives_of _ _ (by decide +kernel)⟩, some_of (by decide +kernel),
      some_of (by decide +kernel), by decide +kernel, by decide +kernel, canTrap_of (by decide +kernel)⟩,
    ⟨_, _, _, _, _, _, _, gives_of _ _ (by decide +kernel),
      ⟨_, gives_of _ _ (by decide +kernel), gives_of _ _ (by decide +kernel)⟩, some_of (by decide +kernel),
      some_of (by decide +kernel), by decide +kernel, by decide +kernel, canTrap_of (by decide +kernel)⟩,
    canTrap_of (by decide +kernel),
    ⟨_, _, _, _, _, _, _, _, rfl, gives_of _ _ (by decide +kernel),
      ⟨_, gives_of _ _ (by decide +kernel), gives_of _ _ (by decide +kernel)⟩, some_of (by decide +kernel),
      some_of (by decide +kernel), by decide +kernel, abandons_of (by decide +kernel), canTrap_of (by decide +kernel)⟩,
    sizes_of_numbers.2.2.2.2, ⟨sizes_of_numbers.2.2.1, sizes_of_numbers.2.2.2.1, by decide +kernel⟩,
    ⟨sizes_of_numbers.1, sizes_of_numbers.2.1, third_inexact, by decide +kernel, abandons_of (by decide +kernel)⟩,
    ⟨_, _, _, _, gives_of _ _ (by decide +kernel), gives_of _ _ (by decide +kernel), by decide +kernel,
      canTrap_of (by decide +kernel)⟩,
    _, _, _, _, gives_of _ _ (by decide +kernel), gives_of _ _ (by decide +kernel), by decide +kernel,
    canTrap_of (by decide +kernel)⟩

/-! #### Refused accesses -/

/-- With translation active, an access at the end of the space and operands in memory; a state in which the abort sequence
can be performed. -/
theorem witness_aborted :
    (mapping.translating = true ∧ inSpace (2 ^ 24 - 4) 4 = true) ∧ lab.translating = false ∧
    (∃ s1 a, inMemory (.base (.regRel 1 (.d1 4))) = true ∧ Gives (addrOp (.base (.regRel 1 (.d1 4)))) mapping a s1 ∧
      inSpace a 4 = true) ∧
    (∃ s1 s2 v b, Gives (readInt .d (inR 1)) mapping v s1 ∧ Gives (addrOp (.base (.regRel 1 (.d1 4)))) s1 b s2 ∧
      inSpace b 4 = true) ∧
    ∃ v t, Gives (push 2 ((withoutP lab.psr).setWidth 64)) { restoreSp lab lab with psr := interruptPsr lab.psr } () v ∧
      Gives (service 2 lab.pc) v () t :=
  ⟨⟨by decide +kernel, by decide⟩, by decide +kernel, ⟨_, _, rfl, gives_of _ _ (by decide +kernel), by decide +kernel⟩,
    ⟨_, _, _, _, gives_of _ _ (by decide +kernel), gives_of _ _ (by decide +kernel), by decide +kernel⟩,
    _, _, leaves_of _ _ (by decide +kernel), leaves_of _ _ (by decide +kernel)⟩

/-- ROM, a device and an absent address lie one behind the other at the top of RAM, below RAM again. -/
def mapped : State :=
  let s := { lab with answers := [0xA5, 7] }
  { s with platform := { s.platform with memoryMap := [⟨0xFF0, 0xFF0, .rom⟩, ⟨0xFF1, 0xFF2, .device⟩, ⟨0xFF3, 0xFF3, .absent⟩] } }

theorem witness_accesses :
    mapped.translating = false ∧ mapped.platform.kindAt 0xFEF = .ram ∧ mapped.platform.kindAt 0xFF0 = .rom ∧
    mapped.platform.kindAt 0xFF1 = .device ∧ mapped.platform.kindAt 0xFF3 = .absent ∧ 0xFF1 ∉ mapped.queueDirty ∧
    (∃ b u v t, Gives (memRead 0xFF1 1) mapped b u ∧ Gives (memRead (0xFF1 + 1) 1) u v t ∧ inSpace 0xFF1 2 = true) ∧
    ∃ u t, Gives (memWrite 0xFEF 1 0x4321) mapped () u ∧ Gives (memWrite (0xFEF + 1) 3 (0x4321 >>> 8)) u () t :=
  ⟨by decide +kernel, by decide +kernel, by decide +kernel, by decide +kernel, by decide +kernel, by decide +kernel,
    ⟨_, _, _, _, gives_of _ _ (by decide +kernel), gives_of _ _ (by decide +kernel), by decide⟩,
    _, _, leaves_of _ _ (by decide +kernel), leaves_of _ _ (by decide +kernel)⟩

/-- A word read from a device: two reads, the byte at the lower address first. -/
theorem test_device_word :
    answerOf (memRead 0xFF1 2) mapped = 0x07A5 ∧
    (leaves (memRead 0xFF1 2) mapped).events = [.deviceRead 0xFF1 0xA5, .deviceRead 0xFF2 7] := by decide +kernel

/-! ### The environment and the memory-management unit -/

/-- An instruction fetched from a device: its one byte is answered by the platform and reported (R100). -/
theorem test_fetch_from_device :
    (let s := { lab with
      platform := { lab.platform with memoryMap := [⟨0x1000, 0x10FF, .device⟩] }, answers := List.replicate 25 0xA2 }
    match step s with
    | .next t => t.pc == 0x1001 && t.events == [.deviceRead 0x1000 0xA2] && t.answers.length == 24
    | _ => false) = true := by
  decide +kernel

/-- The acknowledge read of an address that the memory map marks absent (R587). -/
theorem test_absent_acknowledge :
    (let s := { lab with
      platform := { lab.platform with memoryMap := [⟨0xFFFE00, 0xFFFFFF, .absent⟩] }, intLine := true, psr := 0x0800 }
    match boundary s with
    | .fault f => f == .absentAddress
    | _ => false) = true := by
  decide +kernel

/-- Loading EIA leaves what reading it gives (R430, R431). -/
theorem test_lmr_eia :
    (let s := { lab with mmu := { lab.mmu with eia := 0x123456 } }
    match exec (.lmr 0b1111 (inR 2) 0) s with
    | .next t => t.mmu == s.mmu && t.pc == 0x1003
    | _ => false) = true := by
  decide +kernel

end Sys2Proof.Tests
end

section
/-! What an action may do to the state, whether it succeeds or is abandoned: three scopes, and how actions compose. -/

namespace Sys2Proof.Machine

/-! ### Scopes -/

/-- The part of the invariant that every state has, within a step too: memory in canonical form (R80) and the reserved PSR
bits 0 (R34). -/
structure State.Canonical (s : State) : Prop where
  memory : Memory.wf s.mem = true
  reserved : s.psr &&& ~~~psrMask = 0

/-- From `s` to `t` the canonical form is not lost. -/
def Kept (s t : State) : Prop := s.Canonical → t.Canonical

/-- From `s` to `t` nothing has changed that User Mode may not use (R515), but for what the MMU counts and traces while it
is active. -/
structure Confined (s t : State) : Prop where
  user : t.flag bitU = s.flag bitU
  stack : t.flag bitS = s.flag bitS
  enable : t.flag bitI = s.flag bitI
  cfg : t.cfg = s.cfg
  platform : t.platform = s.platform
  intbase : t.intbase = s.intbase
  idle : s.translating = false → t.mmu = s.mmu
  mmu : t.mmu = { s.mmu with bcnt := t.mmu.bcnt, pf0 := t.mmu.pf0, pf1 := t.mmu.pf1, sc := t.mmu.sc }
  sp0 : s.flag bitS = true → t.sp0 = s.sp0

/-- How far an action may reach: it works on operands and the stack; it does what User Mode may do; it may change
anything. -/
inductive Scope
  | operand
  | user
  | machine

/-- From `s` to `t` nothing has happened outside a scope. -/
def Within : Scope → State → State → Prop
  | .operand, s, t => t.psr = s.psr ∧ Confined s t ∧ Kept s t
  | .user, s, t => (s.flag bitU = true → Confined s t) ∧ Kept s t
  | .machine, s, t => Kept s t

/-- Where an action succeeds it has stayed within a scope; where it is abandoned it has kept the canonical form. -/
structure Stays {α : Type} (w : Scope) (m : Act α) : Prop where
  gives : ∀ {s v t}, Gives m s v t → Within w s t
  abandons : ∀ {s x t}, Abandons m s x t → Kept s t

variable {α β : Type} {w : Scope} {s t u : State}

theorem Kept.refl (s : State) : Kept s s := id

theorem Kept.trans (h : Kept s t) (k : Kept t u) : Kept s u := fun c => k (h c)

/-- The canonical form is of memory and the PSR only. -/
theorem Kept.of_eq (hm : t.mem = s.mem) (hp : t.psr = s.psr) : Kept s t := fun c =>
  ⟨by rw [hm]; exact c.memory, by rw [hp]; exact c.reserved⟩

theorem Confined.translating (h : Confined s t) : t.translating = s.translating := by
  unfold State.translating
  rw [h.mmu, h.cfg, h.platform]

theorem Confined.refl (s : State) : Confined s s := by constructor <;> intros <;> rfl

theorem Confined.trans (h : Confined s t) (k : Confined t u) : Confined s u where
  user := k.user.trans h.user
  stack := k.stack.trans h.stack
  enable := k.enable.trans h.enable
  cfg := k.cfg.trans h.cfg
  platform := k.platform.trans h.platform
  intbase := k.intbase.trans h.intbase
  idle e := (k.idle (h.translating.trans e)).trans (h.idle e)
  mmu := by rw [k.mmu, h.mmu]
  sp0 e := (k.sp0 (h.stack.trans e)).trans (h.sp0 e)

theorem Within.refl (w : Scope) (s : State) : Within w s s := by
  cases w with
  | operand => exact ⟨rfl, Confined.refl s, Kept.refl s⟩
  | user => exact ⟨fun _ => Confined.refl s, Kept.refl s⟩
  | machine => exact Kept.refl s

theorem Within.kept (h : Within w s t) : Kept s t := by
  cases w with
  | operand => exact h.2.2
  | user => exact h.2
  | machine => exact h

theorem Within.trans (h : Within w s t) (k : Within w t u) : Within w s u := by
  cases w with
  | operand => exact ⟨k.1.trans h.1, h.2.1.trans k.2.1, h.2.2.trans k.2.2⟩
  | user =>
    refine ⟨fun e => ?_, h.2.trans k.2⟩
    have c := h.1 e
    exact c.trans (k.1 (c.user.trans e))
  | machine => exact Kept.trans h k

/-- Work on operands is within every scope. -/
theorem Within.of_operand (w : Scope) (h : Within .operand s t) : Within w s t := by
  cases w with
  | operand => exact h
  | user => exact ⟨fun _ => h.2.1, h.2.2⟩
  | machine => exact h.2.2

/-- In Supervisor Mode what the machine may do is what an instruction may do. -/
theorem Within.of_supervisor (hU : s.flag bitU = false) (h : Kept s t) : Within .user s t :=
  ⟨fun e => by simp [hU] at e, h⟩

/-- A change that leaves PSR, CFG, INTBASE, SP0, the platform and the MMU's registers alone, and memory canonical. -/
theorem Within.of_fields (hp : t.psr = s.psr) (hc : t.cfg = s.cfg) (hf : t.platform = s.platform)
    (hi : t.intbase = s.intbase) (hm : t.mmu = s.mmu) (h0 : t.sp0 = s.sp0)
    (hw : Memory.wf s.mem = true → Memory.wf t.mem = true) : Within w s t := by
  refine Within.of_operand w ⟨hp, ?_, fun c => ⟨hw c.memory, by rw [hp]; exact c.reserved⟩⟩
  constructor <;> first | exact fun _ => hm | exact fun _ => h0 | simp [State.flag, *]

/-! ### Actions composed of others -/

theorem Stays.mono {m : Act α} (h : Stays .operand m) : Stays w m :=
  ⟨fun g => (h.gives g).of_operand w, h.abandons⟩

/-- What stays within any scope is something the machine may do. -/
theorem Stays.machine {m : Act α} (h : Stays w m) : Stays .machine m := ⟨fun g => (h.gives g).kept, h.abandons⟩

theorem stays_pure (a : α) : Stays w (pure a : Act α) where
  gives g := by
    obtain ⟨-, rfl⟩ := (gives_pure ..).mp g
    exact Within.refl w _
  abandons a := ((abandons_pure ..).mp a).elim

theorem Stays.bind {m : Act α} {f : α → Act β} (h : Stays w m) (k : ∀ a, Stays w (f a)) : Stays w (m >>= f) where
  gives g := by
    obtain ⟨a, u, g1, g2⟩ := (gives_bind ..).mp g
    exact (h.gives g1).trans ((k a).gives g2)
  abandons a := by
    obtain a1 | ⟨a, u, g1, a2⟩ := (abandons_bind ..).mp a
    · exact h.abandons a1
    · exact (h.gives g1).kept.trans ((k a).abandons a2)

theorem stays_get : Stays w (get : Act State) where
  gives g := by
    obtain ⟨-, rfl⟩ := (gives_get ..).mp g
    exact Within.refl w _
  abandons a := ((abandons_get ..).mp a).elim

/-- The state looked at first, then an action that may depend on it. -/
theorem stays_get_bind {f : State → Act β} (k : ∀ s, Stays w (f s)) : Stays w (get >>= f) := stays_get.bind k

/-- The state looked at first, then an action that is known only from that very state. -/
theorem stays_get_bind_at {m : State → Act α} {f : State → α → Act β}
    (hg : ∀ {s v t}, Gives (m s) s v t → Within w s t) (ha : ∀ {s x t}, Abandons (m s) s x t → Kept s t)
    (k : ∀ s a, Stays w (f s a)) : Stays w (get >>= fun s => m s >>= f s) where
  gives g := by
    simp only [gives_bind, gives_get] at g
    obtain ⟨_, _, ⟨rfl, rfl⟩, a, u, g1, g2⟩ := g
    exact (hg g1).trans ((k _ a).gives g2)
  abandons b := by
    simp only [abandons_bind, abandons_get, false_or, gives_get] at b
    obtain ⟨_, _, ⟨rfl, rfl⟩, b1 | ⟨a, u, g1, b2⟩⟩ := b
    · exact ha b1
    · exact (hg g1).kept.trans ((k _ a).abandons b2)

theorem abandons_set (u s : State) (x : Stop) (t : State) : Abandons (set u : Act PUnit) s x t ↔ False :=
  abandons_modify (fun _ => u) s x t

theorem stays_throw (e : Stop) : Stays w (throw e : Act α) where
  gives g := ((gives_throw ..).mp g).elim
  abandons a := by
    obtain ⟨-, rfl⟩ := (abandons_throw ..).mp a
    exact Kept.refl _

theorem stays_raise (e : Trap) : Stays w (raise e : Act α) := stays_throw _

theorem stays_stop (e : Fault) : Stays w (stop e : Act α) := stays_throw _

theorem stays_refuse (e : Refusal) : Stays w (refuse e : Act α) := stays_throw _

theorem stays_modify {f : State → State} (h : ∀ s, Within w s (f s)) : Stays w (modify f : Act PUnit) where
  gives g := by
    obtain rfl := (gives_modify ..).mp g
    exact h _
  abandons a := ((abandons_modify ..).mp a).elim

theorem stays_ensure (b : Bool) (f : Fault) : Stays w (ensure b f) := by
  unfold ensure
  split
  · exact stays_pure _
  · exact stays_stop _

theorem stays_ite {c : Prop} [Decidable c] {m n : Act α} (h : Stays w m) (k : Stays w n) :
    Stays w (if c then m else n) := by
  split
  · exact h
  · exact k

/-- An action made only where a condition holds, before one that is always made. -/
theorem stays_when {c : Prop} [Decidable c] {m : Act PUnit} {f : PUnit → Act β} (h : Stays w m)
    (k : ∀ a, Stays w (f a)) : Stays w (if c then m >>= f else f ⟨⟩) :=
  stays_ite (h.bind k) (k _)

end Sys2Proof.Machine
end

section
/-! The scope of each shared operation: the environment, memory, the stack, operands. -/

namespace Sys2Proof.Machine

variable {w : Scope} {s t : State}

/-! ### From what the operations are known to do -/

/-- What leaves U, S, I and the privileged registers alone is confined. -/
theorem Keeps.confined {x : Touched} (h : Keeps x s t) (hf : ∀ k ∈ [bitU, bitS, bitI], k ∉ x.flags)
    (hs : ∀ r ∈ [Special.otherSp, .intbase, .cfg, .mmu], r ∉ x.special) : Confined s t where
  user := h.flags _ (hf _ (by simp))
  stack := h.flags _ (hf _ (by simp))
  enable := h.flags _ (hf _ (by simp))
  cfg := h.cfg (hs _ (by simp))
  platform := h.platform
  intbase := h.intbase (hs _ (by simp))
  idle := h.bcnt (hs _ (by simp)) (hs _ (by simp))
  mmu := by rw [h.mmu (hs _ (by simp))]
  sp0 e := by simpa [e] using h.otherSp (hs _ (by simp))

theorem Reads.within (h : Reads s t) : Within w s t :=
  Within.of_operand w
    ⟨by rw [h.eq], (h.keeps {}).confined (by simp) (by simp), Kept.of_eq (by rw [h.eq]) (by rw [h.eq])⟩

theorem Stores.within {c : List Nat} (h : Stores c s t) : Within w s t :=
  Within.of_operand w
    ⟨by rw [h.eq], h.keeps.confined (by simp) (by simp),
      fun k => ⟨h.wf k.memory, by rw [h.eq]; exact k.reserved⟩⟩

/-- While the User Stack is selected SP0 does not move. -/
theorem setSp_within (s : State) (a : Addr) : Within w s (s.setSp a) :=
  Within.of_operand w
    ⟨by simp, (setSp_keeps s a).confined (by simp) (by simp), Kept.of_eq (by simp) (by simp)⟩

theorem setReg_within (s : State) (r : Reg) (v : DWord) : Within w s (s.setReg r v) :=
  Within.of_fields rfl rfl rfl rfl rfl rfl id

theorem setFreg_within (s : State) (r : Reg) (v : DWord) : Within w s (s.setFreg r v) :=
  Within.of_fields rfl rfl rfl rfl rfl rfl id

/-! ### The environment and memory -/

theorem draw_stays : Stays w draw where
  gives g := (draw_reads g).within
  abandons a := by
    have a : (EStateM.Result.ok _ _ : EStateM.Result Stop State QWord) = .error _ _ := a
    cases a

theorem answer_stays : Stays w answer := by
  refine stays_get_bind fun s => ?_
  split
  · refine Stays.bind (stays_modify fun _ => ?_) fun _ => stays_pure _
    exact Within.of_fields rfl rfl rfl rfl rfl rfl id
  · exact draw_stays.bind fun _ => stays_pure _

theorem emit_stays (e : Event) : Stays w (emit e) :=
  stays_modify fun _ => Within.of_fields rfl rfl rfl rfl rfl rfl id

/-- A refused access is recorded in the MMU before it aborts. -/
theorem physical_stays (a : Addr) (mode : Mode) (kind : AccessKind) : Stays w (physical a mode kind) where
  gives g := by
    obtain ⟨rfl, -⟩ := physical_gives g
    exact Within.refl w _
  abandons {s x t} h := by
    unfold physical at h
    simp only [abandons_bind, abandons_get, false_or, gives_get, abandons_ite] at h
    obtain ⟨_, _, ⟨rfl, rfl⟩, ⟨-, h⟩ | ⟨-, h⟩⟩ := h
    · split at h
      · exact ((abandons_pure ..).mp h).elim
      · obtain h | ⟨_, u, g, h⟩ := (abandons_bind ..).mp h
        · exact ((abandons_modify ..).mp h).elim
        · obtain rfl := (gives_set ..).mp g
          obtain ⟨-, rfl⟩ := (abandons_raise ..).mp h
          exact Kept.of_eq rfl rfl
    · exact ((abandons_pure ..).mp h).elim

theorem physicals_stays (mode : Mode) (kind : AccessKind) (a n : Nat) : Stays w (physicals mode kind a n) := by
  induction n generalizing a with
  | zero => exact stays_pure _
  | succ n ih => exact (physical_stays _ _ _).bind fun _ => (ih _).bind fun _ => stays_pure _

theorem observe_stays (a : Addr) (n : Nat) (mode : Mode) (kind : AccessKind) : Stays w (observe a n mode kind) where
  gives g := (observe_reads g).within
  abandons {s x t} h := by
    unfold observe at h
    simp only [abandons_bind, abandons_get, false_or, gives_get, abandons_ite] at h
    obtain ⟨_, _, ⟨rfl, rfl⟩, ⟨-, h⟩ | ⟨-, h⟩⟩ := h
    · split at h
      · exact ((abandons_modify ..).mp h).elim
      · obtain ⟨-, rfl⟩ := (abandons_refuse ..).mp h
        exact Kept.refl _
    · exact ((abandons_pure ..).mp h).elim

theorem access_stays (mode : Mode) (kind : AccessKind) (a n : Nat) : Stays w (access mode kind a n) :=
  (physicals_stays _ _ _ _).bind fun _ => (observe_stays _ _ _ _).bind fun _ => stays_pure _

theorem readByte_stays (pa : Addr) : Stays w (readByte pa) := by
  refine stays_get_bind fun s => ?_
  split
  · exact stays_pure _
  · exact stays_pure _
  · exact answer_stays.bind fun _ => (emit_stays _).bind fun _ => stays_pure _
  · exact stays_stop _

theorem readBytes_stays (pas : List Addr) : Stays w (readBytes pas) := by
  induction pas with
  | nil => exact stays_pure _
  | cons pa pas ih => exact (readByte_stays pa).bind fun _ => ih.bind fun _ => stays_pure _

theorem writeByte_stays (pa : Addr) (v : Byte) : Stays w (writeByte pa v) where
  gives g := (writeByte_stores g).within
  abandons {s x t} h := by
    unfold writeByte at h
    simp only [abandons_bind, abandons_get, false_or, gives_get] at h
    obtain ⟨_, _, ⟨rfl, rfl⟩, h⟩ := h
    split at h
    · exact ((abandons_modify ..).mp h).elim
    · exact ((abandons_pure ..).mp h).elim
    · obtain h | ⟨_, u, -, h⟩ := (abandons_bind ..).mp h
      · exact ((abandons_modify ..).mp h).elim
      · exact ((abandons_modify ..).mp h).elim
    · obtain ⟨-, rfl⟩ := (abandons_stop ..).mp h
      exact Kept.refl _

theorem writeBytes_stays (pas : List Addr) (v : QWord) : Stays w (writeBytes pas v) := by
  induction pas generalizing v with
  | nil => exact stays_pure _
  | cons pa pas ih => exact (writeByte_stays pa _).bind fun _ => ih _

theorem memReadAs_stays (mode : Mode) (a : Int) (n : Nat) : Stays w (memReadAs mode a n) :=
  (stays_ensure _ _).bind fun _ => (access_stays _ _ _ _).bind fun _ => readBytes_stays _

theorem memWriteAs_stays (mode : Mode) (a : Int) (n : Nat) (v : QWord) : Stays w (memWriteAs mode a n v) :=
  (stays_ensure _ _).bind fun _ => (access_stays _ _ _ _).bind fun _ => writeBytes_stays _ _

theorem memRead_stays (a : Int) (n : Nat) : Stays w (memRead a n) := stays_get_bind fun _ => memReadAs_stays _ _ _

theorem memWrite_stays (a : Int) (n : Nat) (v : QWord) : Stays w (memWrite a n v) :=
  stays_get_bind fun _ => memWriteAs_stays _ _ _ _

theorem ioRead_stays (event : Addr → Byte → Event) (a : Int) : Stays w (ioRead event a) :=
  (stays_ensure _ _).bind fun _ => stays_get_bind fun _ => (physical_stays _ _ _).bind fun _ =>
    stays_get_bind fun _ => (observe_stays _ _ _ _).bind fun _ => stays_get_bind fun _ =>
      (stays_ensure _ _).bind fun _ => answer_stays.bind fun _ => (emit_stays _).bind fun _ => stays_pure _

/-! ### The stack, modules and jumps -/

theorem moveSp_stays (a : Int) : Stays w (moveSp a) :=
  (stays_ensure _ _).bind fun _ => stays_modify fun s => setSp_within s _

theorem pushSlot_stays (slot n : Nat) (v : QWord) : Stays w (pushSlot slot n v) :=
  stays_get_bind fun _ => (moveSp_stays _).bind fun _ => stays_get_bind fun _ => memWrite_stays _ _ _

theorem push_stays (n : Nat) (v : QWord) : Stays w (push n v) := pushSlot_stays _ _ _

theorem pop_stays (n : Nat) : Stays w (pop n) :=
  stays_get_bind fun _ => (memRead_stays _ _).bind fun _ => stays_get_bind fun _ => (moveSp_stays _).bind fun _ =>
    stays_pure _

theorem moduleAddress_stays (m : Word) : Stays w (moduleAddress m) := (stays_ensure _ _).bind fun _ => stays_pure _

/-- A register outside the scopes' concern is loaded. -/
theorem loadMod_stays (m : Word) : Stays w (modify fun s => { s with mod := m } : Act PUnit) :=
  stays_modify fun _ => Within.of_fields rfl rfl rfl rfl rfl rfl id

theorem reloadSb_stays : Stays w reloadSb :=
  stays_get_bind fun _ => (moduleAddress_stays _).bind fun _ => (memRead_stays _ _).bind fun _ =>
    stays_modify fun _ => Within.of_fields rfl rfl rfl rfl rfl rfl id

theorem enterModule_stays (desc : QWord) : Stays w (enterModule desc) :=
  (loadMod_stays _).bind fun _ => reloadSb_stays.bind fun _ => (moduleAddress_stays _).bind fun _ =>
    (memRead_stays _ _).bind fun _ => stays_pure _

theorem jumpTo_stays (a : Int) : Stays w (jumpTo a) :=
  (stays_ensure _ _).bind fun _ => stays_modify fun _ => Within.of_fields rfl rfl rfl rfl rfl rfl id

theorem service_stays (vector : Nat) (ra : Addr) : Stays w (service vector ra) :=
  stays_get_bind fun _ => (push_stays _ _).bind fun _ => (push_stays _ _).bind fun _ => stays_get_bind fun _ =>
    (memRead_stays _ _).bind fun _ => (enterModule_stays _).bind fun _ => jumpTo_stays _

/-! ### Operands -/

theorem dispValue_stays (d : Disp) : Stays w (dispValue d) := (stays_ensure _ _).bind fun _ => stays_pure _

theorem nextAddress_stays (n : Nat) : Stays w (nextAddress n) :=
  stays_get_bind fun _ => (stays_ensure _ _).bind fun _ => stays_pure _

theorem linkEntry_stays (i : Int) : Stays w (linkEntry i) :=
  stays_get_bind fun _ => (moduleAddress_stays _).bind fun _ => (memRead_stays _ _).bind fun _ => memRead_stays _ _

theorem viaPointer_stays (b : Int) (d1 d2 : Disp) : Stays w (viaPointer b d1 d2) :=
  (dispValue_stays _).bind fun _ => (dispValue_stays _).bind fun _ => (memRead_stays _ _).bind fun _ => stays_pure _

theorem viaRegister_stays (b : Int) (d : Disp) : Stays w (viaRegister b d) :=
  (dispValue_stays _).bind fun _ => stays_pure _

theorem address_stays (m : Base) : Stays w (Base.address m) := by
  refine stays_get_bind fun s => ?_
  cases m with
  | reg r => exact stays_pure _
  | regRel r d => exact viaRegister_stays _ _
  | frameRel d1 d2 => exact viaPointer_stays _ _ _
  | stackRel d1 d2 => exact viaPointer_stays _ _ _
  | staticRel d1 d2 => exact viaPointer_stays _ _ _
  | illegal c => exact stays_stop _
  | abs d => exact dispValue_stays _
  | ext d1 d2 =>
    exact (dispValue_stays _).bind fun _ => (dispValue_stays _).bind fun _ => (linkEntry_stays _).bind fun _ => stays_pure _
  | tos => exact stays_pure _
  | frame d => exact viaRegister_stays _ _
  | stack d => exact viaRegister_stays _ _
  | static d => exact viaRegister_stays _ _
  | program d => exact viaRegister_stays _ _

theorem scaledBy_stays (sc : Scale) (idx : Reg) (a : Int) : Stays w (scaledBy sc idx a) :=
  stays_get_bind fun _ => stays_pure _

theorem exactAddress_stays (g : Gen) : Stays w (exactAddress g) := by
  cases g with
  | base m => exact address_stays m
  | imm v => exact stays_stop _
  | scaled sc idx m => exact (address_stays m).bind fun _ => scaledBy_stays _ _ _

theorem existing_stays (a : Int) : Stays w (existing a) := (stays_ensure _ _).bind fun _ => stays_pure _

theorem addrOp_stays (g : Gen) : Stays w (addrOp g) := by
  cases g with
  | base m => exact (exactAddress_stays _).bind fun _ => existing_stays _
  | imm v => exact (exactAddress_stays _).bind fun _ => existing_stays _
  | scaled sc idx m =>
    exact (address_stays m).bind fun _ => (existing_stays _).bind fun _ => (scaledBy_stays _ _ _).bind fun _ =>
      existing_stays _

theorem legalReg_stays (k : Kind) (n : Nat) (r : Reg) : Stays w (legalReg k n r) := by
  cases k with
  | int => exact stays_pure _
  | pair => exact stays_ensure _ _
  | float => exact stays_ensure _ _

theorem locateRmw_stays (k : Kind) (n : Nat) (g : Gen) : Stays w (locateRmw k n g) := by
  unfold locateRmw
  split
  · exact (legalReg_stays _ _ _).bind fun _ => stays_pure _
  · exact (addrOp_stays _).bind fun _ => stays_pure _

theorem locateWrite_stays (k : Kind) (n : Nat) (g : Gen) : Stays w (locateWrite k n g) := by
  unfold locateWrite
  split
  · exact stays_pure _
  · exact locateRmw_stays _ _ _

theorem readLoc_stays (k : Kind) (n : Nat) (x : Loc) : Stays w (readLoc k n x) := by
  cases x with
  | reg r => exact stays_get_bind fun _ => stays_pure _
  | mem a => exact memRead_stays _ _
  | push => exact stays_pure _

theorem writeReg_within (s : State) (k : Kind) (n : Nat) (r : Reg) (v : QWord) : Within w s (s.writeReg k n r v) := by
  cases k with
  | int => exact setReg_within _ _ _
  | pair => exact (setReg_within s r _).trans (setReg_within _ (pairOf r) _)
  | float =>
    show Within w s (if n = 4 then _ else _)
    split
    · exact setFreg_within _ _ _
    · exact (setFreg_within s r _).trans (setFreg_within _ (pairOf r) _)

theorem writeLoc_stays (k : Kind) (n : Nat) (x : Loc) (v : QWord) : Stays w (writeLoc k n x v) := by
  cases x with
  | reg r => exact stays_modify fun s => writeReg_within s _ _ _ _
  | mem a => exact memWrite_stays _ _ _
  | push => exact push_stays _ _

theorem readOp_stays (k : Kind) (n : Nat) (g : Gen) : Stays w (readOp k n g) := by
  unfold readOp
  split
  · exact (legalReg_stays _ _ _).bind fun _ => stays_get_bind fun _ => stays_pure _
  · exact pop_stays _
  · exact stays_pure _
  · exact (addrOp_stays _).bind fun _ => memRead_stays _ _

end Sys2Proof.Machine
end

section
/-! The scope of each instruction's body: what User Mode may do, whatever the instruction. -/

namespace Sys2Proof.Machine

variable {α β : Type} {w : Scope} {s t : State}

/-! ### The PSR -/

theorem psrKeep_reserved (x : Word) : psrKeep x &&& ~~~psrMask = 0 := by simp [psrKeep, BitVec.and_assoc]

/-- Setting or clearing an implemented bit leaves the reserved bits of a PSR alone. -/
theorem putBit_reserved {x : Word} {k : Nat} (b : Bool) (hk : k < 16) (hm : psrMask.getLsbD k = true)
    (h : x &&& ~~~psrMask = 0) : putBit x k b &&& ~~~psrMask = 0 := by
  apply BitVec.eq_of_getLsbD_eq
  intro j hj
  have e := congrArg (fun v => v.getLsbD j) h
  simp only [BitVec.getLsbD_and, putBit_getLsbD _ _ _ _ hk] at e ⊢
  split
  · rename_i hjk
    simp [hjk, hm]
  · exact e

/-- An implemented flag that User Mode may change is set or cleared. -/
theorem setFlag_within (s : State) {k : Nat} (b : Bool) (hk : k < 16) (hm : psrMask.getLsbD k = true)
    (hu : k ∉ [bitU, bitS, bitI]) : Within .user s (s.setFlag k b) := by
  refine ⟨fun _ => (setFlag_keeps s k b hk ?_).confined ?_ (by simp), fun c => ?_⟩
  · rintro rfl
    exact hu (by simp)
  · intro j hj e
    obtain rfl : j = k := by simpa using e
    exact hu hj
  · exact ⟨c.memory, putBit_reserved b hk hm c.reserved⟩

theorem setF_within (s : State) (b : Bool) : Within .user s (s.setFlag bitF b) :=
  setFlag_within s b (by decide) (by decide) (by decide)

theorem setCF_within (s : State) (c f : Bool) : Within .user s (s.setCF c f) :=
  (setFlag_within s (k := bitC) c (by decide) (by decide) (by decide)).trans (setF_within _ f)

theorem setZNL_within (s : State) (z n l : Bool) : Within .user s (s.setZNL z n l) :=
  ((setFlag_within s (k := bitZ) z (by decide) (by decide) (by decide)).trans
    (setFlag_within _ (k := bitN) n (by decide) (by decide) (by decide))).trans
    (setFlag_within _ (k := bitL) l (by decide) (by decide) (by decide))

/-- Loading the whole PSR is something the machine may do. -/
theorem setPsr_kept (s : State) (x : Word) : Kept s (s.setPsr x) := fun c => ⟨c.memory, psrKeep_reserved x⟩

/-- A word that agrees with the PSR above its low byte may be loaded in User Mode. -/
theorem setPsr_within (s : State) {x : Word} (h : ∀ k, 8 ≤ k → x.getLsbD k = s.psr.getLsbD k) :
    Within .user s (s.setPsr x) := by
  have bit (k : Nat) (h8 : 8 ≤ k) (hm : psrMask.getLsbD k = true) : (s.setPsr x).flag k = s.flag k := by
    simp [State.flag, psrKeep, hm, h k h8]
  refine ⟨fun _ => ?_, setPsr_kept s x⟩
  constructor
  case user => exact bit _ (by decide) (by decide)
  case stack => exact bit _ (by decide) (by decide)
  case enable => exact bit _ (by decide) (by decide)
  all_goals intros; rfl

theorem stays_modify_kept {f : State → State} (h : ∀ s, Kept s (f s)) : Stays .machine (modify f : Act PUnit) :=
  stays_modify h

theorem setF_stays (f : State → Bool) : Stays .user (modify fun s => s.setFlag bitF (f s) : Act PUnit) :=
  stays_modify fun s => setF_within s _

theorem setCF_stays (c f : Bool) : Stays .user (modify fun s => s.setCF c f : Act PUnit) :=
  stays_modify fun s => setCF_within s c f

theorem setZNL_stays (z n l : Bool) : Stays .user (modify fun s => s.setZNL z n l : Act PUnit) :=
  stays_modify fun s => setZNL_within s z n l

theorem compare_stays (n : Nat) (a b : QWord) : Stays .user (modify fun s => s.compare n a b : Act PUnit) :=
  setZNL_stays _ _ _

theorem setReg_stays (r : Reg) (f : State → DWord) : Stays w (modify fun s => s.setReg r (f s) : Act PUnit) :=
  stays_modify fun s => setReg_within s r _

/-! ### Privilege -/

/-- After an action that in some cases succeeds in Supervisor Mode only, anything may follow in those cases. -/
theorem Stays.bind_guarded {P : α → Prop} {m : Act α} {f : α → Act β} (h : Stays .user m)
    (hU : ∀ {s a t}, Gives m s a t → P a → s.flag bitU = false) (k : ∀ a, ¬P a → Stays .user (f a))
    (k' : ∀ a, P a → Stays .machine (f a)) : Stays .user (m >>= f) where
  gives {s v t} g := by
    obtain ⟨a, u, g1, g2⟩ := (gives_bind ..).mp g
    by_cases p : P a
    · exact Within.of_supervisor (hU g1 p) ((h.gives g1).kept.trans ((k' a p).gives g2))
    · exact (h.gives g1).trans ((k a p).gives g2)
  abandons {s x t} b := by
    obtain b1 | ⟨a, u, g1, b2⟩ := (abandons_bind ..).mp b
    · exact h.abandons b1
    · by_cases p : P a
      · exact (h.gives g1).kept.trans ((k' a p).abandons b2)
      · exact (h.gives g1).kept.trans ((k a p).abandons b2)

theorem privileged_gives {v : PUnit} (h : Gives privileged s v t) : s.flag bitU = false ∧ t = s := by
  simp only [privileged, gives_bind, gives_get, gives_ite, gives_raise, and_false, false_or, gives_pure] at h
  obtain ⟨_, _, ⟨rfl, rfl⟩, hU, -, rfl⟩ := h
  exact ⟨by simpa using hU, rfl⟩

theorem privileged_stays : Stays w privileged := stays_get_bind fun _ => stays_ite (stays_raise _) (stays_pure _)

/-- Behind the privilege check anything may follow (R515, R516). -/
theorem stays_privileged {f : PUnit → Act β} (k : ∀ a, Stays .machine (f a)) : Stays .user (privileged >>= f) :=
  privileged_stays.bind_guarded (P := fun _ => True) (fun g _ => (privileged_gives g).1) (fun _ h => (h trivial).elim)
    fun a _ => k a

theorem mustBeZero_stays {n : Nat} (field : BitVec n) : Stays w (mustBeZero field) := stays_ensure _ _

/-! ### Integer instructions -/

theorem addTo_stays (l : Len) (c : Bool) (a : QWord) (dest : Gen) : Stays .user (addTo l c a dest) :=
  (locateRmw_stays _ _ _).bind fun _ => (readLoc_stays _ _ _).bind fun _ => stays_get_bind fun _ =>
    (writeLoc_stays _ _ _ _).bind fun _ => (setCF_stays _ _).bind fun _ => stays_pure _

theorem addBody_stays (l : Len) (c : Bool) (src dest : Gen) : Stays .user (addBody l c src dest) :=
  (readOp_stays _ _ _).bind fun _ => addTo_stays _ _ _ _

theorem subBody_stays (l : Len) (c : Bool) (src dest : Gen) : Stays .user (subBody l c src dest) :=
  (readOp_stays _ _ _).bind fun _ => (locateRmw_stays _ _ _).bind fun _ => (readLoc_stays _ _ _).bind fun _ =>
    stays_get_bind fun _ => (writeLoc_stays _ _ _ _).bind fun _ => (setCF_stays _ _).bind fun _ => stays_pure _

theorem convertBody_stays (n m : Nat) (f : QWord → QWord) (src dest : Gen) : Stays w (convertBody n m f src dest) :=
  (readOp_stays _ _ _).bind fun _ => (locateWrite_stays _ _ _).bind fun _ => (writeLoc_stays _ _ _ _).bind fun _ =>
    stays_pure _

theorem storeBody_stays (l : Len) (v : QWord) (dest : Gen) : Stays w (storeBody l v dest) :=
  (locateWrite_stays _ _ _).bind fun _ => (writeLoc_stays _ _ _ _).bind fun _ => stays_pure _

theorem negBody_stays (l : Len) (src dest : Gen) : Stays .user (negBody l src dest) :=
  (readOp_stays _ _ _).bind fun _ => (locateWrite_stays _ _ _).bind fun _ => (writeLoc_stays _ _ _ _).bind fun _ =>
    (setCF_stays _ _).bind fun _ => stays_pure _

theorem absBody_stays (l : Len) (src dest : Gen) : Stays .user (absBody l src dest) :=
  (readOp_stays _ _ _).bind fun _ => (locateWrite_stays _ _ _).bind fun _ => (writeLoc_stays _ _ _ _).bind fun _ =>
    (setF_stays _).bind fun _ => stays_pure _

theorem binaryBody_stays (l : Len) (f : QWord → QWord → QWord) (src dest : Gen) : Stays w (binaryBody l f src dest) :=
  (readOp_stays _ _ _).bind fun _ => (locateRmw_stays _ _ _).bind fun _ => (readLoc_stays _ _ _).bind fun _ =>
    (writeLoc_stays _ _ _ _).bind fun _ => stays_pure _

theorem meiBody_stays (l : Len) (src dest : Gen) : Stays w (meiBody l src dest) :=
  (readOp_stays _ _ _).bind fun _ => (locateRmw_stays _ _ _).bind fun _ => (readLoc_stays _ _ _).bind fun _ =>
    (writeLoc_stays _ _ _ _).bind fun _ => stays_pure _

theorem divideBody_stays (l : Len) (q : Bool) (f : Int → Int → Int) (src dest : Gen) :
    Stays w (divideBody l q f src dest) :=
  (readOp_stays _ _ _).bind fun _ => (locateRmw_stays _ _ _).bind fun _ => (readLoc_stays _ _ _).bind fun _ =>
    stays_when (stays_raise _) fun _ => stays_ite
      (draw_stays.bind fun _ => (writeLoc_stays _ _ _ _).bind fun _ => stays_pure _)
      ((writeLoc_stays _ _ _ _).bind fun _ => stays_pure _)

theorem deiBody_stays (l : Len) (src dest : Gen) : Stays w (deiBody l src dest) :=
  (readOp_stays _ _ _).bind fun _ => (locateRmw_stays _ _ _).bind fun _ => (readLoc_stays _ _ _).bind fun _ =>
    stays_when (stays_raise _) fun _ => stays_ite
      (draw_stays.bind fun _ => (writeLoc_stays _ _ _ _).bind fun _ => stays_pure _)
      ((writeLoc_stays _ _ _ _).bind fun _ => stays_pure _)

theorem cmpBody_stays (l : Len) (src1 src2 : Gen) : Stays .user (cmpBody l src1 src2) :=
  (readOp_stays _ _ _).bind fun _ => (readOp_stays _ _ _).bind fun _ => (compare_stays _ _ _).bind fun _ => stays_pure _

theorem cmpqBody_stays (l : Len) (a : QWord) (src2 : Gen) : Stays .user (cmpqBody l a src2) :=
  (readOp_stays _ _ _).bind fun _ => (compare_stays _ _ _).bind fun _ => stays_pure _

/-! ### Logical instructions -/

theorem shiftBody_stays (l : Len) (f : Int → QWord → QWord) (count dest : Gen) : Stays w (shiftBody l f count dest) :=
  (readOp_stays _ _ _).bind fun _ => (locateRmw_stays _ _ _).bind fun _ => (readLoc_stays _ _ _).bind fun _ => stays_ite
    (draw_stays.bind fun _ => (writeLoc_stays _ _ _ _).bind fun _ => stays_pure _)
    ((writeLoc_stays _ _ _ _).bind fun _ => stays_pure _)

theorem scondBody_stays (l : Len) (code : BitVec 4) (dest : Gen) : Stays w (scondBody l code dest) :=
  (locateWrite_stays _ _ _).bind fun _ => stays_get_bind fun _ => (writeLoc_stays _ _ _ _).bind fun _ => stays_pure _

/-! ### Array and packed decimal instructions -/

theorem setF_setReg_stays (b : Bool) (r : Reg) (v : DWord) :
    Stays .user (modify fun s => (s.setFlag bitF b).setReg r v : Act PUnit) :=
  stays_modify fun s => (setF_within s b).trans (setReg_within _ r v)

theorem checkBody_stays (l : Len) (dest : Reg) (bounds src : Gen) : Stays .user (checkBody l dest bounds src) :=
  (addrOp_stays _).bind fun _ => (memRead_stays _ _).bind fun _ => (memRead_stays _ _).bind fun _ =>
    (readOp_stays _ _ _).bind fun _ => stays_ite ((setF_setReg_stays _ _ _).bind fun _ => stays_pure _)
      (draw_stays.bind fun _ => (setF_setReg_stays _ _ _).bind fun _ => stays_pure _)

theorem indexBody_stays (l : Len) (accum : Reg) (length index : Gen) : Stays w (indexBody l accum length index) :=
  (readOp_stays _ _ _).bind fun _ => (readOp_stays _ _ _).bind fun _ => (setReg_stays _ _).bind fun _ => stays_pure _

theorem decimalBody_stays (l : Len) (f : Int → Int → Int → Int) (src dest : Gen) :
    Stays .user (decimalBody l f src dest) :=
  (readOp_stays _ _ _).bind fun _ => (locateRmw_stays _ _ _).bind fun _ => (readLoc_stays _ _ _).bind fun _ => stays_ite
    (stays_get_bind fun _ => (writeLoc_stays _ _ _ _).bind fun _ => (setCF_stays _ _).bind fun _ => stays_pure _)
    (draw_stays.bind fun _ => (writeLoc_stays _ _ _ _).bind fun _ => draw_stays.bind fun _ =>
      (setCF_stays _ _).bind fun _ => stays_pure _)

/-! ### Bit and bit-field instructions -/

theorem locateBit_stays (base : Gen) (off : Int) (len : Nat) : Stays w (locateBit base off len) := by
  unfold locateBit
  split
  · exact (stays_ensure _ _).bind fun _ => stays_pure _
  · exact (addrOp_stays _).bind fun _ => stays_pure _

theorem bitBody_stays (l : Len) (change : Option (Bool → Bool)) (offset base : Gen) :
    Stays .user (bitBody l change offset base) := by
  refine (readOp_stays _ _ _).bind fun off => (locateBit_stays _ _ _).bind fun x => ?_
  cases x with
  | reg r k =>
    refine stays_get_bind fun s => (setF_stays _).bind fun _ => ?_
    cases change with
    | none => exact stays_pure _
    | some f => exact (setReg_stays _ _).bind fun _ => stays_pure _
  | mem a k =>
    refine (memRead_stays _ _).bind fun v => (setF_stays _).bind fun _ => ?_
    cases change with
    | none => exact stays_pure _
    | some f => exact (memWrite_stays _ _ _).bind fun _ => stays_pure _

theorem ffsBody_stays (l : Len) (unused : BitVec 3) (base offset : Gen) : Stays .user (ffsBody l unused base offset) := by
  refine (mustBeZero_stays _).bind fun _ => (readOp_stays _ _ _).bind fun v => (locateRmw_stays _ _ _).bind fun x =>
    (readLoc_stays _ _ _).bind fun o => ?_
  cases firstSet v l.bits (uval 1 o) with
  | none => exact (writeLoc_stays _ _ _ _).bind fun _ => (setF_stays _).bind fun _ => stays_pure _
  | some k => exact (writeLoc_stays _ _ _ _).bind fun _ => (setF_stays _).bind fun _ => stays_pure _

theorem cvtpBody_stays (offset : Reg) (base dest : Gen) : Stays w (cvtpBody offset base dest) :=
  stays_get_bind fun _ => (addrOp_stays _).bind fun _ => (locateWrite_stays _ _ _).bind fun _ =>
    (writeLoc_stays _ _ _ _).bind fun _ => stays_pure _

theorem fieldRead_stays (base : Gen) (off : Int) (len : Nat) : Stays w (fieldRead base off len) := by
  refine (locateBit_stays _ _ _).bind fun x => ?_
  cases x with
  | reg r k => exact stays_get_bind fun _ => stays_pure _
  | mem a k => exact (stays_ensure _ _).bind fun _ => (memRead_stays _ _).bind fun _ => stays_pure _

theorem fieldWrite_stays (base : Gen) (off : Int) (len x : Nat) : Stays w (fieldWrite base off len x) := by
  refine (locateBit_stays _ _ _).bind fun b => ?_
  cases b with
  | reg r k => exact setReg_stays _ _
  | mem a k => exact (stays_ensure _ _).bind fun _ => (memRead_stays _ _).bind fun _ => memWrite_stays _ _ _

theorem extractBody_stays (l : Len) {off : Act Int} (len : Nat) (base dest : Gen) (h : Stays w off) :
    Stays w (extractBody l off len base dest) :=
  h.bind fun _ => (fieldRead_stays _ _ _).bind fun _ => (locateWrite_stays _ _ _).bind fun _ =>
    (writeLoc_stays _ _ _ _).bind fun _ => stays_pure _

theorem insertBody_stays (l : Len) {off : Act Int} (len : Nat) (src base : Gen) (h : Stays w off) :
    Stays w (insertBody l off len src base) :=
  (readOp_stays _ _ _).bind fun _ => h.bind fun _ => stays_ite ((fieldWrite_stays _ _ _ _).bind fun _ => stays_pure _)
    (draw_stays.bind fun _ => (fieldWrite_stays _ _ _ _).bind fun _ => stays_pure _)

theorem offsetOf_stays (r : Reg) : Stays w (offsetOf r) := stays_get_bind fun _ => stays_pure _

theorem fieldLength_stays (d : Disp) : Stays w (fieldLength d) :=
  (dispValue_stays _).bind fun _ => (stays_ensure _ _).bind fun _ => stays_pure _

theorem extBody_stays (l : Len) (offset : Reg) (base dest : Gen) (length : Disp) :
    Stays w (extBody l offset base dest length) :=
  (fieldLength_stays _).bind fun _ => extractBody_stays _ _ _ _ (offsetOf_stays _)

theorem insBody_stays (l : Len) (offset : Reg) (src base : Gen) (length : Disp) :
    Stays w (insBody l offset src base length) :=
  (fieldLength_stays _).bind fun _ => insertBody_stays _ _ _ _ (offsetOf_stays _)

/-! ### Processor control instructions -/

theorem branchTarget_stays (dest : Disp) : Stays w (branchTarget dest) :=
  (dispValue_stays _).bind fun _ => stays_get_bind fun _ => stays_pure _

theorem branchBody_stays (code : BitVec 4) (dest : Disp) : Stays w (branchBody code dest) :=
  stays_get_bind fun _ => stays_ite ((branchTarget_stays _).bind fun _ => stays_pure _) (stays_pure _)

theorem jumpBody_stays (dest : Gen) : Stays w (jumpBody dest) := (addrOp_stays _).bind fun _ => stays_pure _

theorem caseBody_stays (l : Len) (index : Gen) : Stays w (caseBody l index) :=
  (readOp_stays _ _ _).bind fun _ => stays_get_bind fun _ => stays_pure _

theorem acbBody_stays (l : Len) (inc : BitVec 4) (index : Gen) (dest : Disp) : Stays w (acbBody l inc index dest) :=
  (locateRmw_stays _ _ _).bind fun _ => (readLoc_stays _ _ _).bind fun _ => (writeLoc_stays _ _ _ _).bind fun _ =>
    stays_ite (stays_pure _) ((branchTarget_stays _).bind fun _ => stays_pure _)

theorem jsrBody_stays (n : Nat) (dest : Gen) : Stays w (jsrBody n dest) :=
  (addrOp_stays _).bind fun _ => (nextAddress_stays _).bind fun _ => (push_stays _ _).bind fun _ => stays_pure _

theorem bsrBody_stays (n : Nat) (dest : Disp) : Stays w (bsrBody n dest) :=
  (branchTarget_stays _).bind fun _ => (nextAddress_stays _).bind fun _ => (push_stays _ _).bind fun _ => stays_pure _

theorem discard_stays (c : Int) : Stays w (discard c) := stays_get_bind fun _ => moveSp_stays _

theorem retBody_stays (constant : Disp) : Stays w (retBody constant) :=
  (dispValue_stays _).bind fun _ => (pop_stays _).bind fun _ => (discard_stays _).bind fun _ => stays_pure _

theorem externalCall_stays (n : Nat) (desc : QWord) : Stays w (externalCall n desc) :=
  (nextAddress_stays _).bind fun _ => stays_get_bind fun _ => (pushSlot_stays _ _ _).bind fun _ =>
    (push_stays _ _).bind fun _ => (enterModule_stays _).bind fun _ => stays_pure _

theorem cxpBody_stays (n : Nat) (index : Disp) : Stays w (cxpBody n index) :=
  (dispValue_stays _).bind fun _ => (linkEntry_stays _).bind fun _ => externalCall_stays _ _

theorem cxpdBody_stays (n : Nat) (desc : Gen) : Stays w (cxpdBody n desc) :=
  (addrOp_stays _).bind fun _ => (memRead_stays _ _).bind fun _ => externalCall_stays _ _

theorem rxpBody_stays (constant : Disp) : Stays w (rxpBody constant) :=
  (dispValue_stays _).bind fun _ => (pop_stays _).bind fun _ => stays_get_bind fun _ => (memRead_stays _ _).bind fun _ =>
    stays_get_bind fun _ => (moveSp_stays _).bind fun _ => (loadMod_stays _).bind fun _ => reloadSb_stays.bind fun _ =>
      (discard_stays _).bind fun _ => stays_pure _

theorem flagBody_stays : Stays w flagBody :=
  stays_get_bind fun _ => stays_when (stays_raise _) fun _ => stays_pure _

theorem returnFrame_stays (c : Int) : Stays .machine (returnFrame c) :=
  (pop_stays _).bind fun _ => (pop_stays _).bind fun _ => (loadMod_stays _).bind fun _ => (pop_stays _).bind fun _ =>
    (stays_modify_kept fun s => setPsr_kept s _).bind fun _ => reloadSb_stays.bind fun _ => stays_get_bind fun _ =>
      (moveSp_stays _).bind fun _ => stays_pure _

theorem rettBody_stays (constant : Disp) : Stays .user (rettBody constant) :=
  stays_privileged fun _ => (dispValue_stays _).bind fun _ => (returnFrame_stays _).bind fun _ => stays_pure _

theorem endOfInterrupt_stays : Stays w endOfInterrupt :=
  (ioRead_stays _ _).bind fun _ => stays_ite ((stays_ensure _ _).bind fun _ => stays_get_bind fun _ =>
    (memRead_stays _ _).bind fun _ => (ioRead_stays _ _).bind fun _ => stays_pure _) (stays_pure _)

theorem retiBody_stays : Stays .user retiBody :=
  stays_privileged fun _ => endOfInterrupt_stays.bind fun _ => (returnFrame_stays _).bind fun _ => stays_pure _

/-! ### Floating-point instructions -/

/-- A change of the FSR concerns no scope. -/
theorem setFsr_stays (f : State → Word) : Stays w (modify fun s => { s with fsr := f s } : Act PUnit) :=
  stays_modify fun _ => Within.of_fields rfl rfl rfl rfl rfl rfl id

theorem fpuTrap_stays (x : TrapType) : Stays w (fpuTrap x : Act α) := (setFsr_stays _).bind fun _ => stays_raise _

theorem needsFpu_stays : Stays w needsFpu :=
  stays_get_bind fun _ => stays_when (stays_raise _) fun _ => stays_ite (stays_refuse _) (stays_pure _)

theorem inexactResult_stays (b : Bool) : Stays w (inexactResult b) :=
  stays_ite ((setFsr_stays _).bind fun _ => stays_get_bind fun _ => stays_ite (fpuTrap_stays _) (stays_pure _))
    (stays_pure _)

theorem fpDeliver_stays (y : FLen) (x : Exact) (z : Bool) : Stays w (fpDeliver y x z) :=
  stays_ite (stays_pure _) <| stays_get_bind fun _ => stays_when (fpuTrap_stays _) fun _ => stays_ite
    ((setFsr_stays _).bind fun _ => stays_get_bind fun _ => stays_when (fpuTrap_stays _) fun _ => stays_pure _)
    ((inexactResult_stays _).bind fun _ => stays_pure _)

theorem fpValue_stays (y : FLen) (v : QWord) : Stays w (fpValue y v) := by
  unfold fpValue
  split
  · exact stays_pure _
  · exact fpuTrap_stays _

theorem fpArith_stays (op : ArithOp) (y : FLen) (src dest : Gen) : Stays w (fpArith op y src dest) := by
  refine needsFpu_stays.bind fun _ => (readOp_stays _ _ _).bind fun a => (locateRmw_stays _ _ _).bind fun x =>
    (readLoc_stays _ _ _).bind fun b => (fpValue_stays _ _).bind fun va => (fpValue_stays _ _).bind fun vb => ?_
  have deliver (v : Exact) : Stays w (do
      let r ← fpDeliver y v (Config.fpZeroSign op y a b (rounding (← get).fsr))
      writeFloat y x r
      return Next.seq) :=
    stays_get_bind fun _ => (fpDeliver_stays _ _ _).bind fun _ => (writeLoc_stays _ _ _ _).bind fun _ => stays_pure _
  exact stays_ite (stays_ite ((fpuTrap_stays _).bind fun _ => deliver _) ((fpuTrap_stays _).bind fun _ => deliver _))
    (deliver _)

theorem fpSign_stays (sign : Bool → Bool) (y : FLen) (src dest : Gen) : Stays w (fpSign sign y src dest) :=
  needsFpu_stays.bind fun _ => (readOp_stays _ _ _).bind fun _ => (locateWrite_stays _ _ _).bind fun _ =>
    (fpValue_stays _ _).bind fun _ => (writeLoc_stays _ _ _ _).bind fun _ => stays_pure _

theorem fpCompare_stays (y : FLen) (src1 src2 : Gen) : Stays .user (fpCompare y src1 src2) :=
  needsFpu_stays.bind fun _ => (readOp_stays _ _ _).bind fun _ => (readOp_stays _ _ _).bind fun _ =>
    (fpValue_stays _ _).bind fun _ => (fpValue_stays _ _).bind fun _ => (setZNL_stays _ _ _).bind fun _ => stays_pure _

theorem fpMove_stays (y : FLen) (src dest : Gen) : Stays w (fpMove y src dest) :=
  needsFpu_stays.bind fun _ => (readOp_stays _ _ _).bind fun _ => (locateWrite_stays _ _ _).bind fun _ =>
    (writeLoc_stays _ _ _ _).bind fun _ => stays_pure _

theorem movlfBody_stays (src dest : Gen) : Stays w (movlfBody src dest) :=
  needsFpu_stays.bind fun _ => (readOp_stays _ _ _).bind fun _ => (locateWrite_stays _ _ _).bind fun _ =>
    (fpValue_stays _ _).bind fun _ => (fpDeliver_stays _ _ _).bind fun _ => (writeLoc_stays _ _ _ _).bind fun _ =>
      stays_pure _

theorem movflBody_stays (src dest : Gen) : Stays w (movflBody src dest) :=
  needsFpu_stays.bind fun _ => (readOp_stays _ _ _).bind fun _ => (locateWrite_stays _ _ _).bind fun _ =>
    (fpValue_stays _ _).bind fun _ => (writeLoc_stays _ _ _ _).bind fun _ => stays_pure _

theorem fpFromInt_stays (l : Len) (y : FLen) (src dest : Gen) : Stays w (fpFromInt l y src dest) :=
  needsFpu_stays.bind fun _ => (readOp_stays _ _ _).bind fun _ => (locateWrite_stays _ _ _).bind fun _ =>
    (fpDeliver_stays _ _ _).bind fun _ => (writeLoc_stays _ _ _ _).bind fun _ => stays_pure _

theorem fpToInt_stays (f : Exact → Int) (y : FLen) (l : Len) (src dest : Gen) : Stays w (fpToInt f y l src dest) :=
  needsFpu_stays.bind fun _ => (readOp_stays _ _ _).bind fun _ => (locateWrite_stays _ _ _).bind fun _ =>
    (fpValue_stays _ _).bind fun _ => stays_when (fpuTrap_stays _) fun _ => (inexactResult_stays _).bind fun _ =>
      (writeLoc_stays _ _ _ _).bind fun _ => stays_pure _

theorem lfsrBody_stays (src : Gen) (unused : BitVec 5) : Stays w (lfsrBody src unused) :=
  needsFpu_stays.bind fun _ => (mustBeZero_stays _).bind fun _ => (readOp_stays _ _ _).bind fun _ =>
    (setFsr_stays _).bind fun _ => stays_pure _

theorem sfsrBody_stays (dest : Gen) (unused : BitVec 5) : Stays w (sfsrBody dest unused) :=
  needsFpu_stays.bind fun _ => (mustBeZero_stays _).bind fun _ => stays_get_bind fun _ =>
    (locateWrite_stays _ _ _).bind fun _ => (writeLoc_stays _ _ _ _).bind fun _ => stays_pure _

theorem fpIllegal_stays : Stays w fpIllegal := needsFpu_stays.bind fun _ => fpuTrap_stays _

theorem format9Length_stays : Stays w format9Length :=
  stays_get_bind fun _ => stays_when (stays_raise _) fun _ => stays_stop _

/-! ### Processor service instructions -/

theorem addressWord_stays (a : Int) : Stays w (addressWord a) := stays_ite (stays_pure _) draw_stays

theorem addrBody_stays (src dest : Gen) : Stays w (addrBody src dest) :=
  (exactAddress_stays _).bind fun _ => (locateWrite_stays _ _ _).bind fun _ => (addressWord_stays _).bind fun _ =>
    (writeLoc_stays _ _ _ _).bind fun _ => stays_pure _

theorem pushRegs_stays (list : Byte) (rs : List Reg) : Stays w (pushRegs list rs) := by
  induction rs with
  | nil => exact stays_pure _
  | cons r rs ih => exact stays_ite (stays_get_bind fun _ => (push_stays _ _).bind fun _ => ih) ih

theorem popRegs_stays (list : Byte) (rs : List Reg) : Stays w (popRegs list rs) := by
  induction rs with
  | nil => exact stays_pure _
  | cons r rs ih => exact stays_ite ((pop_stays _).bind fun _ => (setReg_stays _ _).bind fun _ => ih) ih

/-- FP is loaded, which concerns no scope. -/
theorem setFp_stays (f : State → Addr) : Stays w (modify fun s => { s with fp := f s } : Act PUnit) :=
  stays_modify fun _ => Within.of_fields rfl rfl rfl rfl rfl rfl id

theorem saveBody_stays (list : Byte) : Stays w (saveBody list) := (pushRegs_stays _ _).bind fun _ => stays_pure _

theorem restoreBody_stays (list : Byte) : Stays w (restoreBody list) := (popRegs_stays _ _).bind fun _ => stays_pure _

theorem enterBody_stays (list : Byte) (constant : Disp) : Stays w (enterBody list constant) :=
  (dispValue_stays _).bind fun _ => stays_get_bind fun _ => (push_stays _ _).bind fun _ => (setFp_stays _).bind fun _ =>
    stays_get_bind fun _ => (moveSp_stays _).bind fun _ => (pushRegs_stays _ _).bind fun _ => stays_pure _

theorem exitBody_stays (list : Byte) : Stays w (exitBody list) :=
  (popRegs_stays _ _).bind fun _ => stays_get_bind fun _ => (moveSp_stays _).bind fun _ => (pop_stays _).bind fun _ =>
    (setFp_stays _).bind fun _ => stays_pure _

theorem adjspBody_stays (l : Len) (src : Gen) : Stays w (adjspBody l src) :=
  (readOp_stays _ _ _).bind fun _ => stays_get_bind fun _ => (moveSp_stays _).bind fun _ => stays_pure _

/-- A mask of one byte has no bit above it. -/
theorem byteMask_getLsbD (v : QWord) {k : Nat} (h : 8 ≤ k) : (BitVec.ofNat 16 (uval 1 v)).getLsbD k = false := by
  have hlt : uval 1 v < 2 ^ k := lt_of_lt_of_le (Nat.mod_lt _ (by norm_num)) (Nat.pow_le_pow_right (by norm_num) (by omega))
  rw [BitVec.getLsbD_ofNat, Nat.testBit_lt_two_pow hlt, Bool.and_false]

/-- The byte form changes the low byte of the PSR only; the word form is privileged (R398, R399). -/
theorem psrBitsBody_stays (l : Len) (set : Bool) (src : Gen) : Stays .user (psrBitsBody l set src) := by
  by_cases hl : l = .b
  · subst hl
    unfold psrBitsBody
    dsimp only
    rw [if_neg (by simp)]
    refine (readOp_stays _ _ _).bind fun v =>
      (stays_modify fun s => setPsr_within s fun k hk => ?_).bind fun _ => stays_pure _
    have hm : (BitVec.ofNat 16 (uval Len.b.bytes v)).getLsbD k = false := byteMask_getLsbD v hk
    cases set with
    | true => simp only [if_true, BitVec.getLsbD_or, hm, Bool.or_false]
    | false =>
      simp only [Bool.false_eq_true, if_false, BitVec.getLsbD_and, BitVec.getLsbD_not, hm]
      by_cases h16 : k < 16
      · simp [h16]
      · simp [h16, BitVec.getLsbD_of_ge s.psr k (by omega)]
  · show Stays .user (if l ≠ .b then _ else _)
    rw [if_pos hl]
    exact stays_privileged fun _ => (readOp_stays _ _ _).bind fun _ =>
      (stays_modify_kept fun s => setPsr_kept s _).bind fun _ => stays_pure _

theorem selectProcreg_stays (code : BitVec 4) (l : Len) : Stays w (selectProcreg code l) := by
  unfold selectProcreg
  split
  · exact stays_raise _
  · rename_i p _
    show Stays w (if p = .psr ∨ p = .intbase then _ else _)
    exact stays_when privileged_stays fun _ => (stays_ensure _ _).bind fun _ => stays_pure _

/-- PSR and INTBASE are selected in Supervisor Mode only (R400, R401, R515). -/
theorem selectProcreg_privileged {code : BitVec 4} {l : Len} {p : Procreg} (h : Gives (selectProcreg code l) s p t)
    (hp : p = .psr ∨ p = .intbase) : s.flag bitU = false := by
  unfold selectProcreg at h
  split at h
  · exact ((gives_raise ..).mp h).elim
  · simp only [gives_ite, gives_bind, gives_ensure, gives_pure] at h
    obtain ⟨-, _, _, g, -⟩ | ⟨hn, _, _, -, rfl, -⟩ := h
    · exact (privileged_gives g).1
    · exact (hn hp).elim

theorem setProcreg_kept (s : State) (p : Procreg) (v : QWord) : Kept s (s.setProcreg p v) := by
  cases p with
  | upsr => exact setPsr_kept _ _
  | psr => exact setPsr_kept _ _
  | sp => exact (setSp_within (w := .machine) s _).kept
  | fp => exact Kept.of_eq rfl rfl
  | sb => exact Kept.of_eq rfl rfl
  | intbase => exact Kept.of_eq rfl rfl
  | mod => exact Kept.of_eq rfl rfl

theorem setProcreg_within (s : State) {p : Procreg} (v : QWord) (hp : ¬(p = .psr ∨ p = .intbase)) :
    Within .user s (s.setProcreg p v) := by
  cases p with
  | upsr =>
    refine setPsr_within s fun k hk => ?_
    show (s.psr.extractLsb' 8 8 ++ v.extractLsb' 0 8 : BitVec (8 + 8)).getLsbD k = _
    rw [BitVec.getLsbD_append, if_neg (by omega), BitVec.getLsbD_extractLsb', Nat.add_sub_cancel' hk]
    by_cases h16 : k < 16
    · simp [show k - 8 < 8 by omega]
    · simp [show ¬k - 8 < 8 by omega, BitVec.getLsbD_of_ge s.psr k (by omega)]
  | psr => exact (hp (.inl rfl)).elim
  | intbase => exact (hp (.inr rfl)).elim
  | sp => exact setSp_within s _
  | fp => exact Within.of_fields rfl rfl rfl rfl rfl rfl id
  | sb => exact Within.of_fields rfl rfl rfl rfl rfl rfl id
  | mod => exact Within.of_fields rfl rfl rfl rfl rfl rfl id

theorem lprBody_stays (l : Len) (code : BitVec 4) (src : Gen) : Stays .user (lprBody l code src) :=
  (selectProcreg_stays _ _).bind_guarded selectProcreg_privileged
    (fun _ hp => (readOp_stays _ _ _).bind fun _ => (stays_modify fun s => setProcreg_within s _ hp).bind fun _ =>
      stays_pure _)
    fun _ _ => (readOp_stays _ _ _).bind fun _ => (stays_modify_kept fun s => setProcreg_kept s _ _).bind fun _ => stays_pure _

theorem sprBody_stays (l : Len) (code : BitVec 4) (dest : Gen) : Stays w (sprBody l code dest) :=
  (selectProcreg_stays _ _).bind fun _ => stays_get_bind fun _ => (locateWrite_stays _ _ _).bind fun _ =>
    (writeLoc_stays _ _ _ _).bind fun _ => stays_pure _

theorem setcfgBody_stays (cfglist : BitVec 4) (unused : BitVec 6) : Stays .user (setcfgBody cfglist unused) :=
  have load : Stays .machine (modify fun s => { s with cfg := cfglist } : Act PUnit) :=
    stays_modify_kept fun _ => Kept.of_eq rfl rfl
  stays_privileged fun _ => (mustBeZero_stays _).bind fun _ => load.bind fun _ => stays_pure _

/-! ### Memory-management and custom instructions -/

theorem needsMmu_stays : Stays w needsMmu :=
  privileged_stays.bind fun _ => stays_get_bind fun _ => stays_when (stays_raise _) fun _ =>
    stays_ite (stays_refuse _) (stays_pure _)

/-- Behind the check of the memory-management instructions anything may follow (R436). -/
theorem stays_needsMmu {f : PUnit → Act β} (k : ∀ a, Stays .machine (f a)) : Stays .user (needsMmu >>= f) := by
  refine needsMmu_stays.bind_guarded (P := fun _ => True) (fun g _ => ?_) (fun _ h => (h trivial).elim) fun a _ => k a
  unfold needsMmu at g
  obtain ⟨_, _, g, -⟩ := (gives_bind ..).mp g
  exact (privileged_gives g).1

theorem loadMmu_kept (s : State) (code : BitVec 4) (v : DWord) : Kept s (s.loadMmu code v) := by
  unfold State.loadMmu
  split
  · exact Kept.of_eq rfl rfl
  · exact Kept.of_eq rfl rfl

theorem lmrBody_stays (code : BitVec 4) (src : Gen) (unused : BitVec 1) : Stays .user (lmrBody code src unused) :=
  stays_needsMmu fun _ => (mustBeZero_stays _).bind fun _ => (stays_ensure _ _).bind fun _ =>
    (readOp_stays _ _ _).bind fun _ => (stays_modify_kept fun s => loadMmu_kept s _ _).bind fun _ => stays_pure _

theorem smrBody_stays (code : BitVec 4) (dest : Gen) (unused : BitVec 1) : Stays .user (smrBody code dest unused) := by
  refine stays_needsMmu fun _ => (mustBeZero_stays _).bind fun _ => stays_get_bind fun s => ?_
  cases MmuRegs.get s.mmu code with
  | none => exact stays_stop _
  | some v =>
    exact (locateWrite_stays _ _ _).bind fun _ => (writeLoc_stays _ _ _ _).bind fun _ => stays_pure _

/-- A protection test changes the Translation Buffer and F at most. -/
theorem validateBody_stays (kind : AccessKind) (loc : Gen) (unused : BitVec 5) :
    Stays .user (validateBody kind loc unused) := by
  refine stays_needsMmu fun _ => (mustBeZero_stays _).bind fun _ => (addrOp_stays _).bind fun a =>
    stays_get_bind_at (fun {s v t} g => ?_) (fun {s x t} b => ?_) fun s allowed =>
      ((setF_stays _).bind fun _ => stays_pure _).machine
  · obtain ⟨-, g⟩ | ⟨-, g⟩ := (gives_ite ..).mp g
    · dsimp only at g
      split at g
      · simp only [gives_bind, gives_set, gives_pure] at g
        obtain ⟨_, _, rfl, -, rfl⟩ := g
        exact Kept.of_eq rfl rfl
      · simp only [gives_bind, gives_set, gives_pure] at g
        obtain ⟨_, _, rfl, -, rfl⟩ := g
        exact Kept.of_eq rfl rfl
      · exact ((physical_stays _ _ _).bind fun _ => stays_pure _).gives (w := .machine) g
    · obtain ⟨-, rfl⟩ := (gives_pure ..).mp g
      exact Kept.refl _
  · obtain ⟨-, b⟩ | ⟨-, b⟩ := (abandons_ite ..).mp b
    · dsimp only at b
      split at b
      · simp only [abandons_bind, abandons_set, abandons_pure, and_false, exists_false, or_self] at b
      · simp only [abandons_bind, abandons_set, abandons_pure, and_false, exists_false, or_self] at b
      · exact ((physical_stays _ _ _).bind fun _ => stays_pure _).abandons (w := .machine) b
    · exact ((abandons_pure ..).mp b).elim

theorem moveSpaceBody_stays (l : Len) (a b : Mode) (src dest : Gen) : Stays w (moveSpaceBody l a b src dest) :=
  privileged_stays.bind fun _ => (addrOp_stays _).bind fun _ => (addrOp_stays _).bind fun _ =>
    (memReadAs_stays _ _ _).bind fun _ => (memWriteAs_stays _ _ _ _).bind fun _ => stays_pure _

theorem customBody_stays (b : Bool) : Stays w (customBody b) :=
  stays_get_bind fun _ => stays_when (stays_raise _) fun _ => stays_when privileged_stays fun _ => stays_refuse _

/-! ### String and block instructions -/

theorem nextElement_within (s : State) (kind : StrKind) (n : Nat) (b : Bool) : Within w s (s.nextElement kind n b) := by
  cases kind with
  | skps => exact (setReg_within s _ _).trans (setReg_within _ _ _)
  | cmps => exact (setReg_within s _ _).trans ((setReg_within _ _ _).trans (setReg_within _ _ _))
  | movs => exact (setReg_within s _ _).trans ((setReg_within _ _ _).trans (setReg_within _ _ _))

theorem stringPass_stays (kind : StrKind) (n : Nat) (t : Bool) (o : StrOpts) (unused : BitVec 6) :
    Stays .user (stringPass kind n t o unused) := by
  refine (mustBeZero_stays _).bind fun _ => (stays_ensure _ _).bind fun _ => stays_get_bind fun s =>
    (stays_ensure _ _).bind fun _ => stays_when (setZNL_stays _ _ _) fun _ =>
      stays_ite ((setF_stays _).bind fun _ => stays_pure _) <| (memRead_stays _ _).bind fun element => ?_
  have next : Stays .user (do
      modify fun s => s.nextElement kind n o.backward
      return Next.again) :=
    (stays_modify fun s => nextElement_within s _ _ _).bind fun _ => stays_pure _
  refine stays_ite ((memRead_stays _ _).bind fun temp => stays_ite ((setF_stays _).bind fun _ => stays_pure _) ?_)
    ((stays_pure element).bind fun temp => stays_ite ((setF_stays _).bind fun _ => stays_pure _) ?_)
  all_goals
    cases kind with
    | cmps =>
      exact (memRead_stays _ _).bind fun _ => (compare_stays _ _ _).bind fun _ =>
        stays_ite ((setF_stays _).bind fun _ => stays_pure _) next
    | movs => exact (memWrite_stays _ _ _).bind fun _ => next
    | skps => exact next

theorem blockCount_stays (l : Len) (d : Disp) : Stays w (blockCount l d) := (stays_ensure _ _).bind fun _ => stays_pure _

theorem copyBlock_stays (n : Nat) (overlap : Bool) (k : Nat) (a b : Int) : Stays w (copyBlock n overlap k a b) := by
  induction k generalizing a b with
  | zero => exact stays_pure _
  | succ k ih =>
    exact (memRead_stays _ _).bind fun _ => stays_ite
      (draw_stays.bind fun _ => (memWrite_stays _ _ _).bind fun _ => ih _ _)
      ((stays_pure _).bind fun _ => (memWrite_stays _ _ _).bind fun _ => ih _ _)

theorem movmBody_stays (l : Len) (b1 b2 : Gen) (d : Disp) : Stays w (movmBody l b1 b2 d) :=
  (blockCount_stays _ _).bind fun _ => (addrOp_stays _).bind fun _ => (addrOp_stays _).bind fun _ =>
    (copyBlock_stays _ _ _ _ _).bind fun _ => stays_pure _

theorem compareBlock_stays (n k : Nat) (a b : Int) : Stays .user (compareBlock n k a b) := by
  induction k generalizing a b with
  | zero => exact stays_pure _
  | succ k ih =>
    exact (memRead_stays _ _).bind fun _ => (memRead_stays _ _).bind fun _ => stays_ite (compare_stays _ _ _) (ih _ _)

theorem cmpmBody_stays (l : Len) (b1 b2 : Gen) (d : Disp) : Stays .user (cmpmBody l b1 b2 d) :=
  (blockCount_stays _ _).bind fun _ => (addrOp_stays _).bind fun _ => (addrOp_stays _).bind fun _ =>
    (setZNL_stays _ _ _).bind fun _ => (compareBlock_stays _ _ _ _).bind fun _ => stays_pure _

end Sys2Proof.Machine
end

section
/-! How a step ends: an exception sequence has been taken, or the state has stayed within what User Mode may do. -/

namespace Sys2Proof.Machine

variable {s t u : State}

/-- Every instruction performs a body that stays within what User Mode may do, a privileged one by
trapping there. The length matters to no instruction that only traps or stops. -/
theorem exec_performs (i : Instr) :
    ∃ n body, Stays .user body ∧ ∀ s, exec i s = perform n body s := by
  cases i
  case beq | bne | bcs | bcc | bhi | bls | bgt | ble | bfs | bfc | blo | bhs | blt | bge | br =>
    exact ⟨_, _, branchBody_stays _ _, fun _ => rfl⟩
  case bcond1111 => exact ⟨_, _, branchBody_stays _ _, exec_bcond1111 _⟩
  case bsr => exact ⟨_, _, bsrBody_stays _ _, fun _ => rfl⟩
  case ret => exact ⟨_, _, retBody_stays _, fun _ => rfl⟩
  case cxp => exact ⟨_, _, cxpBody_stays _ _, fun _ => rfl⟩
  case rxp => exact ⟨_, _, rxpBody_stays _, fun _ => rfl⟩
  case rett => exact ⟨_, _, rettBody_stays _, fun _ => rfl⟩
  case reti => exact ⟨_, _, retiBody_stays, fun _ => rfl⟩
  case save => exact ⟨_, _, saveBody_stays _, fun _ => rfl⟩
  case restore => exact ⟨_, _, restoreBody_stays _, fun _ => rfl⟩
  case enter => exact ⟨_, _, enterBody_stays _ _, fun _ => rfl⟩
  case exit => exact ⟨_, _, exitBody_stays _, fun _ => rfl⟩
  case nop => exact ⟨_, _, stays_pure _, exec_nop⟩
  case wait => exact ⟨_, _, stays_pure _, exec_wait⟩
  case dia => exact ⟨_, _, stays_pure _, exec_dia⟩
  case flag => exact ⟨_, _, flagBody_stays, fun _ => rfl⟩
  case svc | bpt | und7E | undFE | und9E | und5E | undDE | und8E | undX6Other | undF3Op1000B | undF3OpOddB | undCXPDIB
      | undJUMPIB | undJSRIB | undF3Op1000W | undF3OpOddW | undCXPDIW | undJUMPIW | undJSRIW | undF3Op1000D |
      undF3OpOddD | undBICPSRD | undBISPSRD | undADDRIB | undADDRIW | undF5Op1xxx | undF5OpX1xx | undSETCFGI |
      undF6Op0100 | undF6Op1010 | undF7Op1010 | undMOVXBWI | undMOVZBWI | undMOVZiDD | undMOVXiDD | undF8Op111 |
      undCVTPI | undF8Op110Reg000 | undF8Op110Reg010 | undF8Op110Reg100 | undF8Op110Reg101 | undF8Op110Reg110 |
      undF8Op110Reg111 | undLFSRFi | undMOVLFFi | undMOVFLFi | undSFSRFi | undF11Op011x | undF11Op101x | undF11Op111x
      | undF11Bit9 | undF14Op1xxx | undF14OpX1xx | undF14I => exact ⟨0, _, stays_raise _, fun _ => rfl⟩
  case addqb | addqw | addqd => exact ⟨_, _, addTo_stays _ _ _ _, fun _ => rfl⟩
  case cmpqb | cmpqw | cmpqd => exact ⟨_, _, cmpqBody_stays _ _ _, fun _ => rfl⟩
  case movqb | movqw | movqd => exact ⟨_, _, storeBody_stays _ _ _, fun _ => rfl⟩
  case acbb | acbw | acbd => exact ⟨_, _, acbBody_stays _ _ _ _, fun _ => rfl⟩
  case sprb | sprw | sprd => exact ⟨_, _, sprBody_stays _ _ _, fun _ => rfl⟩
  case lprb | lprw | lprd => exact ⟨_, _, lprBody_stays _ _ _, fun _ => rfl⟩
  case seqb | sneb | scsb | sccb | shib | slsb | sgtb | sleb | sfsb | sfcb | slob | shsb | sltb | sgeb | srb | s1111b
      | seqw | snew | scsw | sccw | shiw | slsw | sgtw | slew | sfsw | sfcw | slow | shsw | sltw | sgew | srw | s1111w
      | seqd | sned | scsd | sccd | shid | slsd | sgtd | sled | sfsd | sfcd | slod | shsd | sltd | sged | srd | s1111d
      => exact ⟨_, _, scondBody_stays _ _ _, fun _ => rfl⟩
  case cxpd => exact ⟨_, _, cxpdBody_stays _ _, fun _ => rfl⟩
  case jump => exact ⟨_, _, jumpBody_stays _, fun _ => rfl⟩
  case jsr => exact ⟨_, _, jsrBody_stays _ _, fun _ => rfl⟩
  case bicpsrb | bicpsrw | bispsrb | bispsrw => exact ⟨_, _, psrBitsBody_stays _ _ _, fun _ => rfl⟩
  case adjspb | adjspw | adjspd => exact ⟨_, _, adjspBody_stays _ _, fun _ => rfl⟩
  case caseb | casew | cased => exact ⟨_, _, caseBody_stays _ _, fun _ => rfl⟩
  case addb | addw | addd | addcb | addcw | addcd => exact ⟨_, _, addBody_stays _ _ _ _, fun _ => rfl⟩
  case cmpb | cmpw | cmpd => exact ⟨_, _, cmpBody_stays _ _ _, fun _ => rfl⟩
  case bicb | bicw | bicd | orb | orw | ord | andb | andw | andd | xorb | xorw | xord | mulb | mulw | muld =>
    exact ⟨_, _, binaryBody_stays _ _ _ _, fun _ => rfl⟩
  case movb | movw | movd | notb | notw | notd | comb | comw | comd | movxbw | movzbw | movzbd | movzwd | movxbd |
      movxwd => exact ⟨_, _, convertBody_stays _ _ _ _ _, fun _ => rfl⟩
  case subb | subw | subd | subcb | subcw | subcd => exact ⟨_, _, subBody_stays _ _ _ _, fun _ => rfl⟩
  case tbitb | tbitw | tbitd | cbitb | cbitw | cbitd | cbitib | cbitiw | cbitid | sbitb | sbitw | sbitd | sbitib |
      sbitiw | sbitid | ibitb | ibitw | ibitd => exact ⟨_, _, bitBody_stays _ _ _ _, fun _ => rfl⟩
  case addr | lxpd => exact ⟨_, _, addrBody_stays _ _, fun _ => rfl⟩
  case movsb | movsw | movsd | movst | cmpsb | cmpsw | cmpsd | cmpst | skpsb | skpsw | skpsd | skpst =>
    exact ⟨_, _, stringPass_stays _ _ _ _ _, fun _ => rfl⟩
  case setcfg => exact ⟨_, _, setcfgBody_stays _ _, fun _ => rfl⟩
  case rotb | rotw | rotd | ashb | ashw | ashd | lshb | lshw | lshd =>
    exact ⟨_, _, shiftBody_stays _ _ _ _, fun _ => rfl⟩
  case negb | negw | negd => exact ⟨_, _, negBody_stays _ _ _, fun _ => rfl⟩
  case subpb | subpw | subpd | addpb | addpw | addpd => exact ⟨_, _, decimalBody_stays _ _ _ _, fun _ => rfl⟩
  case absb | absw | absd => exact ⟨_, _, absBody_stays _ _ _, fun _ => rfl⟩
  case movmb | movmw | movmd => exact ⟨_, _, movmBody_stays _ _ _ _, fun _ => rfl⟩
  case cmpmb | cmpmw | cmpmd => exact ⟨_, _, cmpmBody_stays _ _ _ _, fun _ => rfl⟩
  case inssb | inssw | inssd => exact ⟨_, _, insertBody_stays _ _ _ _ (stays_pure _), fun _ => rfl⟩
  case extsb | extsw | extsd => exact ⟨_, _, extractBody_stays _ _ _ _ (stays_pure _), fun _ => rfl⟩
  case meib | meiw | meid => exact ⟨_, _, meiBody_stays _ _ _, fun _ => rfl⟩
  case deib | deiw | deid => exact ⟨_, _, deiBody_stays _ _ _, fun _ => rfl⟩
  case quob | quow | quod | remb | remw | remd | modb | modw | modd | divb | divw | divd =>
    exact ⟨_, _, divideBody_stays _ _ _ _ _, fun _ => rfl⟩
  case extb | extw | extd => exact ⟨_, _, extBody_stays _ _ _ _ _, fun _ => rfl⟩
  case insb | insw | insd => exact ⟨_, _, insBody_stays _ _ _ _ _, fun _ => rfl⟩
  case checkb | checkw | checkd => exact ⟨_, _, checkBody_stays _ _ _ _, fun _ => rfl⟩
  case indexb | indexw | indexd => exact ⟨_, _, indexBody_stays _ _ _ _, fun _ => rfl⟩
  case cvtp => exact ⟨_, _, cvtpBody_stays _ _ _, fun _ => rfl⟩
  case ffsb | ffsw | ffsd => exact ⟨_, _, ffsBody_stays _ _ _ _, fun _ => rfl⟩
  case movsub | movsuw | movsud | movusb | movusw | movusd =>
    exact ⟨_, _, moveSpaceBody_stays _ _ _ _ _, fun _ => rfl⟩
  case movbf | movbl | movwf | movwl | movdf | movdl => exact ⟨_, _, fpFromInt_stays _ _ _ _, fun _ => rfl⟩
  case roundfb | roundfw | roundfd | roundlb | roundlw | roundld | truncfb | truncfw | truncfd | trunclb | trunclw |
      truncld | floorfb | floorfw | floorfd | floorlb | floorlw | floorld =>
    exact ⟨_, _, fpToInt_stays _ _ _ _ _, fun _ => rfl⟩
  case movlf => exact ⟨_, _, movlfBody_stays _ _, fun _ => rfl⟩
  case movfl => exact ⟨_, _, movflBody_stays _ _, fun _ => rfl⟩
  case lfsr => exact ⟨_, _, lfsrBody_stays _ _, fun _ => rfl⟩
  case sfsr => exact ⟨_, _, sfsrBody_stays _ _, fun _ => rfl⟩
  case addf | addl | subf | subl | divf | divl | mulf | mull => exact ⟨_, _, fpArith_stays _ _ _ _, fun _ => rfl⟩
  case movf | movl => exact ⟨_, _, fpMove_stays _ _ _, fun _ => rfl⟩
  case cmpf | cmpl => exact ⟨_, _, fpCompare_stays _ _ _, fun _ => rfl⟩
  case negf | negl | absf | absl => exact ⟨_, _, fpSign_stays _ _ _ _, fun _ => rfl⟩
  case rdval | wrval => exact ⟨_, _, validateBody_stays _ _ _, fun _ => rfl⟩
  case lmr => exact ⟨_, _, lmrBody_stays _ _ _, fun _ => rfl⟩
  case smr => exact ⟨_, _, smrBody_stays _ _ _, fun _ => rfl⟩
  case custom16 | custom36 | customB6 => exact ⟨_, _, customBody_stays _, fun _ => rfl⟩
  case faultF5TI | faultF5I10 | faultF6I10 | faultF7I10 | faultF8I10 => exact ⟨0, _, stays_stop _, fun _ => rfl⟩
  case faultF9I10 => exact ⟨_, _, format9Length_stays, fun _ => rfl⟩
  case fpuILLEGAL0011 | fpuILLEGAL1001 => exact ⟨_, _, fpIllegal_stays, fun _ => rfl⟩

/-! ### Exception sequences -/

/-- The canonical form holds, and right after an exception sequence the machine is in Supervisor Mode, on the Interrupt
Stack and not traced (R551). -/
theorem inv_iff : s.Inv ↔ s.Canonical ∧ (s.activity = .afterException →
    s.flag bitU = false ∧ s.flag bitS = false ∧ s.flag bitT = false ∧ s.flag bitP = false) :=
  ⟨fun h => ⟨⟨h.memory, h.reserved⟩, h.service⟩, fun h => ⟨h.1.memory, h.1.reserved, h.2⟩⟩

/-- In any other activity the invariant is the canonical form. -/
theorem State.Canonical.inv (h : s.Canonical) (ha : s.activity ≠ .afterException) : s.Inv :=
  inv_iff.mpr ⟨h, fun e => (ha e).elim⟩

theorem psrInService_reserved {x : Word} (clearI : Bool) (h : x &&& ~~~psrMask = 0) :
    psrInService x clearI &&& ~~~psrMask = 0 := by
  have clear {y : Word} (k : Nat) (hk : k < 16) (hm : psrMask.getLsbD k = true) (h : y &&& ~~~psrMask = 0) :
      putBit y k false &&& ~~~psrMask = 0 := putBit_reserved _ hk hm h
  have base := clear bitP (by decide) (by decide) <| clear bitT (by decide) (by decide) <|
    clear bitU (by decide) (by decide) <| clear bitS (by decide) (by decide) h
  cases clearI with
  | false => exact base
  | true => exact clear bitI (by decide) (by decide) base

/-- A sequence clears S, U, T and P (R551). -/
theorem psrInService_getLsbD (x : Word) (clearI : Bool) {k : Nat} (h : k ∈ [bitS, bitU, bitT, bitP]) :
    (psrInService x clearI).getLsbD k = false := by
  have base : (putBit (putBit (putBit (putBit x bitS false) bitU false) bitT false) bitP false).getLsbD k = false := by
    simp only [List.mem_cons, List.not_mem_nil, or_false] at h
    rw [putBit_getLsbD _ _ _ _ (by decide), putBit_getLsbD _ _ _ _ (by decide), putBit_getLsbD _ _ _ _ (by decide),
      putBit_getLsbD _ _ _ _ (by decide)]
    obtain rfl | rfl | rfl | rfl := h <;> simp
  cases clearI with
  | false => exact base
  | true =>
    show (putBit _ bitI false).getLsbD k = false
    rw [putBit_getLsbD _ _ _ _ (by decide), base, ite_self]

/-- What every exception sequence leaves, from a state in canonical form, is a state that meets the invariant. -/
theorem takeException_gives {dropP clearI : Bool} {ra : Addr} {vector : Act Nat} {v : PUnit}
    (hv : Stays .operand vector) (h : Gives (takeException dropP clearI ra vector) s v t) :
    t.activity = .afterException ∧ (s.Canonical → t.Inv) := by
  simp only [takeException, gives_bind, gives_get, gives_modify] at h
  obtain ⟨_, _, ⟨rfl, rfl⟩, _, u, rfl, _, u1, h1, n, u2, h2, _, u3, h3, rfl⟩ := h
  obtain ⟨psr, -, kept⟩ := ((push_stays _ _).gives (w := .operand) h1).trans
    ((hv.gives h2).trans ((service_stays _ _).gives h3))
  refine ⟨rfl, fun c => ?_⟩
  have reserved (b : Bool) {x : Word} (h : x &&& ~~~psrMask = 0) :
      (if b then putBit x bitP false else x) &&& ~~~psrMask = 0 := by
    split
    · exact putBit_reserved _ (by decide) (by decide) h
    · exact h
  obtain ⟨memory, reserved⟩ := kept ⟨c.memory, psrInService_reserved clearI (reserved dropP c.reserved)⟩
  have flag (k : Nat) (hk : k ∈ [bitS, bitU, bitT, bitP]) : u3.psr.getLsbD k = false := by
    rw [psr]
    exact psrInService_getLsbD _ _ hk
  exact ⟨memory, reserved, fun _ =>
    ⟨flag _ (by simp), flag _ (by simp), flag _ (by simp), flag _ (by simp)⟩⟩

/-- An exception sequence has been completed, in a state that meets the invariant if the one it began in was canonical. -/
def Served (s t : State) : Prop := t.activity = .afterException ∧ (s.Canonical → t.Inv)

/-- A step, or a part of one, ends by an exception sequence, or in a state within what User Mode may do. -/
def Ends (s t : State) : Prop := Served s t ∨ (t.activity ≠ .afterException ∧ Within .user s t)

theorem Served.after (h : Kept s t) (k : Served t u) : Served s u := ⟨k.1, fun c => k.2 (h c)⟩

theorem Ends.after (h : Within .user s t) (k : Ends t u) : Ends s u :=
  k.imp (Served.after h.kept) fun k => ⟨k.1, h.trans k.2⟩

theorem sequenceOutcome_served {dropP clearI : Bool} {ra : Addr} {vector : Act Nat} (hv : Stays .operand vector)
    (h : sequenceOutcome (takeException dropP clearI ra vector) s = .next t) : Served s t := by
  unfold sequenceOutcome at h
  split at h
  · rename_i g
    cases h
    exact takeException_gives hv g
  all_goals cases h

theorem restoreSp_kept (start s : State) : Kept s (restoreSp start s) := by
  unfold restoreSp
  split
  · exact Kept.of_eq rfl rfl
  · exact Kept.of_eq rfl rfl

theorem takeTrap_served {x : Trap} {start : State} (h : takeTrap x start s = .next t) : Served s t :=
  (sequenceOutcome_served (stays_pure _) h).after (restoreSp_kept start s)

theorem takeTrace_served (h : takeTrace s = .next t) : Served s t := sequenceOutcome_served (stays_pure _) h

theorem nmiVector_stays {w : Scope} : Stays w nmiVector := by
  refine Stays.bind (stays_modify fun _ => ?_) fun _ => (ioRead_stays _ _).bind fun _ => stays_pure _
  exact Within.of_fields rfl rfl rfl rfl rfl rfl id

theorem intVector_stays {w : Scope} : Stays w intVector :=
  (ioRead_stays _ _).bind fun _ => stays_get_bind fun _ => stays_ite
    (stays_ite (stays_pure _) ((stays_ensure _ _).bind fun _ => (memRead_stays _ _).bind fun _ =>
      (ioRead_stays _ _).bind fun _ => stays_pure _))
    (stays_pure _)

theorem takeInterrupt_served {nmi inString : Bool} {ra : Addr} (h : takeInterrupt nmi inString ra s = .next t) :
    Served s t := by
  refine sequenceOutcome_served ?_ h
  split
  · exact nmiVector_stays
  · exact intVector_stays

theorem abandon_served {x : Stop} {start : State} (h : abandon start x s = .next t) : Served s t := by
  cases x with
  | trap x => exact takeTrap_served h
  | fault f => cases h
  | refused r => cases h

/-! ### Instructions and boundaries -/

theorem continueAt_next {a : Int} {flush : Bool} (h : continueAt s a flush = .next t) :
    t.activity ≠ .afterException ∧ Within .user s t := by
  unfold continueAt at h
  split at h
  · cases h
    exact ⟨nofun, Within.of_fields rfl rfl rfl rfl rfl rfl id⟩
  · cases h

/-- An instruction that is not abandoned changes at its end only PC, the activity and the instruction queue. -/
theorem finish_next {len : Nat} {n : Next} (h : finish len n s = .next t) :
    t.activity ≠ .afterException ∧ Within .user s t := by
  cases n with
  | seq => exact continueAt_next h
  | seqFlush => exact continueAt_next h
  | jump a => exact continueAt_next h
  | again =>
    cases h
    exact ⟨nofun, Within.of_fields rfl rfl rfl rfl rfl rfl id⟩
  | suspend =>
    cases h
    exact ⟨nofun, Within.of_fields rfl rfl rfl rfl rfl rfl id⟩
  | diagnose =>
    cases h
    exact ⟨nofun, Within.of_fields rfl rfl rfl rfl rfl rfl id⟩

theorem perform_ends {len : Nat} {body : Act Next} (hb : Stays .user body) (h : perform len body s = .next t) :
    Ends s t := by
  obtain ⟨n, u, g, e⟩ | ⟨x, u, a, e⟩ := perform_cases len body s
  · obtain ⟨running, within⟩ := finish_next (e.symm.trans h)
    exact .inr ⟨running, (hb.gives g).trans within⟩
  · exact .inl ((abandon_served (e.symm.trans h)).after (hb.abandons a))

theorem exec_ends {i : Instr} (h : exec i s = .next t) : Ends s t := by
  obtain ⟨n, body, hb, e⟩ := exec_performs i
  exact perform_ends hb ((e s).symm.trans h)

/-- At a boundary an interrupt or the Trace trap is taken, or nothing happens. -/
theorem boundary_next (h : boundary s = .next t) : Served s t ∨ t = s := by
  have same (h : (.next s : Result) = .next t) : t = s := by
    cases h
    rfl
  have interrupt {b : Bool} {ra : Addr} (h : (if s.interrupted then serveInterrupt b ra s else .next s) = .next t) :
      Served s t ∨ t = s := by
    obtain ⟨-, h⟩ | ⟨-, h⟩ := ite_eq_iff.mp h
    · exact .inl (takeInterrupt_served h)
    · exact .inr (same h)
  unfold boundary at h
  split at h
  case h_1 =>
    obtain ⟨-, h⟩ | ⟨-, h⟩ := ite_eq_iff.mp h
    · exact .inl (takeInterrupt_served h)
    · obtain ⟨-, h⟩ | ⟨-, h⟩ := ite_eq_iff.mp h
      · exact .inl (takeTrace_served h)
      · exact .inr (same h)
  case h_2 => exact interrupt h
  case h_3 =>
    obtain ⟨-, h⟩ | ⟨-, h⟩ := ite_eq_iff.mp h
    · obtain ⟨-, h⟩ | ⟨-, h⟩ := ite_eq_iff.mp h
      · exact .inl (takeInterrupt_served h)
      · cases h
    · exact .inr (same h)
  case h_4 => exact interrupt h
  case h_5 => exact .inr (same h)

theorem boundary_ends (hs : s.activity ≠ .afterException) (h : boundary s = .next t) : Ends s t := by
  obtain served | rfl := boundary_next h
  · exact .inl served
  · exact .inr ⟨hs, Within.refl _ _⟩

/-- Right after an exception sequence nothing is tested (D29). -/
theorem boundary_afterException (h : s.activity = .afterException) : boundary s = .next s := by
  unfold boundary
  rw [h]

theorem endStep_ends {i : Instr} (h : endStep (exec i s) = .next t) : Ends s t := by
  unfold endStep at h
  split at h
  · rename_i u e
    obtain served | ⟨running, within⟩ := exec_ends e
    · rw [boundary_afterException served.1] at h
      cases h
      exact .inl served
    · exact (boundary_ends running h).after within
  all_goals cases h

end Sys2Proof.Machine
end

section
/-! The decoder takes from the stream exactly the bytes of the instruction that it reads (R121, R189). -/

namespace Sys2Proof.Machine

variable {α β γ : Type}

/-- What a parser answers and how many bytes it has then taken are in a relation. -/
structure Takes (p : Parse α) (r : α → Nat → Prop) : Prop where
  run : ∀ {bs x rest}, p bs = .ok (x, rest) → ∃ n, bs.length = n + rest.length ∧ r x n

theorem Takes.mono {p : Parse α} {r q : α → Nat → Prop} (h : Takes p r) (hq : ∀ x n, r x n → q x n) : Takes p q := by
  refine ⟨fun e => ?_⟩
  obtain ⟨n, hn, hr⟩ := h.run e
  exact ⟨n, hn, hq _ _ hr⟩

theorem takes_pure {x : α} {r : α → Nat → Prop} (h : r x 0) : Takes (pure x : Parse α) r := by
  refine ⟨fun {bs y rest} e => ?_⟩
  have e : (Except.ok (x, bs) : Except DecodeError (α × List Byte)) = .ok (y, rest) := e
  cases e
  exact ⟨0, by omega, h⟩

theorem Takes.bind {p : Parse α} {k : α → Parse β} {r : α → Nat → Prop} {q : β → Nat → Prop} (h : Takes p r)
    (hk : ∀ x n, r x n → Takes (k x) fun y m => q y (n + m)) : Takes (p >>= k) q := by
  refine ⟨fun {bs y rest} e => ?_⟩
  have e : (Except.bind (p bs) fun a => k a.1 a.2) = .ok (y, rest) := e
  cases hp : p bs with
  | error d =>
    rw [hp] at e
    cases e
  | ok a =>
    obtain ⟨x, mid⟩ := a
    rw [hp] at e
    obtain ⟨n, hn, hr⟩ := h.run hp
    obtain ⟨m, hm, hq⟩ := (hk x n hr).run e
    exact ⟨n + m, by rw [hn, hm, Nat.add_assoc], hq⟩

theorem Takes.map {p : Parse α} {f : α → β} {r : α → Nat → Prop} {q : β → Nat → Prop} (h : Takes p r)
    (hf : ∀ x n, r x n → q (f x) n) : Takes (f <$> p) q := by
  show Takes (p >>= fun x => pure (f x)) q
  exact h.bind fun x n hr => takes_pure (hf x n hr)

/-- Two parsers one after the other, their answers combined. -/
theorem Takes.map₂ {p : Parse α} {p' : Parse β} {f : α → β → γ} {r : α → Nat → Prop} {r' : β → Nat → Prop}
    {q : γ → Nat → Prop} (h : Takes p r) (h' : Takes p' r') (hf : ∀ x n y m, r x n → r' y m → q (f x y) (n + m)) :
    Takes (f <$> p <*> p') q := by
  show Takes ((f <$> p) >>= fun g => g <$> p') q
  refine (h.map (q := fun g n => ∃ x, g = f x ∧ r x n) fun x n hr => ⟨x, rfl, hr⟩).bind ?_
  rintro g n ⟨x, rfl, hr⟩
  exact h'.map fun y m hr' => hf x n y m hr hr'

theorem takes_ite {c : Prop} [Decidable c] {p p' : Parse α} {r : α → Nat → Prop} (h : c → Takes p r)
    (h' : ¬c → Takes p' r) : Takes (if c then p else p') r := by
  split
  · exact h ‹_›
  · exact h' ‹_›

/-! ### Extensions -/

theorem nextByte_takes : Takes nextByte fun _ n => n = 1 := by
  refine ⟨fun {bs x rest} e => ?_⟩
  cases bs with
  | nil => cases e
  | cons b bs =>
    cases e
    exact ⟨1, by rw [List.length_cons, Nat.add_comm], rfl⟩

theorem parseDisp_takes : Takes parseDisp fun d n => d.size = n := by
  refine nextByte_takes.bind ?_
  rintro b0 _ rfl
  refine takes_ite (fun _ => takes_pure rfl) fun _ => nextByte_takes.bind ?_
  rintro b1 _ rfl
  refine takes_ite (fun _ => takes_pure rfl) fun _ => nextByte_takes.bind ?_
  rintro b2 _ rfl
  refine nextByte_takes.bind ?_
  rintro b3 _ rfl
  exact takes_pure rfl

theorem parseImm_takes (n : Nat) (acc : QWord) : Takes (parseImm n acc) fun _ m => m = n := by
  induction n generalizing acc with
  | zero => exact takes_pure rfl
  | succ n ih =>
    refine nextByte_takes.bind ?_
    rintro b _ rfl
    exact (ih _).mono fun _ m h => by rw [h, Nat.add_comm]

theorem parseIndex_takes (code : BitVec 5) : Takes (parseIndex code) fun x n => x.toList.length = n := by
  refine takes_ite (fun _ => nextByte_takes.map ?_) fun _ => takes_pure rfl
  rintro b _ rfl
  rfl

theorem parseBase_takes (code : BitVec 5) : Takes (parseBase code) fun m n => m.extension.length = n := by
  have one (f : Disp → Base) (hf : ∀ d, (f d).extension = d.encode) :
      Takes (f <$> parseDisp) fun m n => m.extension.length = n :=
    parseDisp_takes.map fun d n h => by rw [hf, ← h]; rfl
  have two (f : Disp → Disp → Base) (hf : ∀ d e, (f d e).extension = d.encode ++ e.encode) :
      Takes (f <$> parseDisp <*> parseDisp) fun m n => m.extension.length = n :=
    parseDisp_takes.map₂ parseDisp_takes fun d n e m h h' => by rw [hf, List.length_append, ← h, ← h']; rfl
  unfold parseBase
  split
  · exact takes_pure rfl
  · exact one _ fun _ => rfl
  · split
    · exact two _ fun _ _ => rfl
    · exact two _ fun _ _ => rfl
    · exact two _ fun _ _ => rfl
    · exact one _ fun _ => rfl
    · exact two _ fun _ _ => rfl
    · exact takes_pure rfl
    · exact one _ fun _ => rfl
    · exact one _ fun _ => rfl
    · exact one _ fun _ => rfl
    · exact one _ fun _ => rfl
    · exact takes_pure rfl

theorem immBytes_length (n : Nat) (v : QWord) : (immBytes n v).length = n := by
  induction n with
  | zero => rfl
  | succ n ih => simp [immBytes, ih]

/-- The index byte and the extension make up what an operand adds to an instruction (R189). -/
theorem parseGen_takes (n : Nat) (code : BitVec 5) (index : Option Byte) :
    Takes (parseGen n code index) fun g m => Gen.size n g = index.toList.length + m := by
  cases index with
  | some x => exact (parseBase_takes _).map fun m k h => by simp [Gen.size, Gen.indexByte, Gen.extension, h]
  | none =>
    refine takes_ite (fun _ => (parseImm_takes n 0).map fun v k h => ?_) fun _ => (parseBase_takes _).map fun m k h => ?_
    · simp [Gen.size, Gen.indexByte, Gen.extension, immBytes_length, h]
    · simp [Gen.size, Gen.indexByte, Gen.extension, h]

theorem parseOne_takes (n : Nat) (code : BitVec 5) : Takes (parseOne n code) fun g m => Gen.size n g = m :=
  (parseIndex_takes code).bind fun x k hx => by
    subst hx
    exact parseGen_takes n code x

/-- Two operands, whatever follows them. -/
theorem operands_take {n1 n2 : Nat} {c1 c2 : BitVec 5} {k : Gen → Gen → Parse α} {q : α → Nat → Prop}
    (hk : ∀ g1 g2, Takes (k g1 g2) fun y m => q y (Gen.size n1 g1 + Gen.size n2 g2 + m)) :
    Takes (do
      let x1 ← parseIndex c1
      let x2 ← parseIndex c2
      let g1 ← parseGen n1 c1 x1
      let g2 ← parseGen n2 c2 x2
      k g1 g2) q :=
  (parseIndex_takes c1).bind fun x1 m1 e1 => (parseIndex_takes c2).bind fun x2 m2 e2 =>
    (parseGen_takes n1 c1 x1).bind fun g1 m3 e3 => (parseGen_takes n2 c2 x2).bind fun g2 m4 e4 => by
      refine (hk g1 g2).mono fun y m h => ?_
      have : Gen.size n1 g1 + Gen.size n2 g2 + m = m1 + (m2 + (m3 + (m4 + m))) := by omega
      rwa [← this]

/-! ### Instructions -/

/-- A parser of an instruction of which `b` bytes have been read takes the rest of it. -/
def TakesRest (b : Nat) (p : Parse Instr) : Prop := Takes p fun i n => i.length = b + n

variable {b n1 n2 : Nat} {c1 c2 : BitVec 5} {i : Instr}

theorem rest_fixed {bs : List Byte} (hb : i.basic = bs) (ho : i.operands = []) (hm : i.immByte = none)
    (hd : i.disp = none) : TakesRest bs.length (pure i) := takes_pure (length_fixed hb ho hm hd)

theorem rest_two {k : Gen → Gen → Instr} (hk : ∀ g1 g2, (k g1 g2).length = size2 b n1 n2 g1 g2) :
    TakesRest b (parseTwo n1 n2 c1 c2 k) :=
  operands_take fun g1 g2 => takes_pure (by rw [hk, size2]; omega)

theorem rest_twoDisp {k : Gen → Gen → Disp → Instr}
    (hk : ∀ g1 g2 d, (k g1 g2 d).length = size2 b n1 n2 g1 g2 + d.size) :
    TakesRest b (parseTwoDisp n1 n2 c1 c2 k) :=
  operands_take fun g1 g2 => parseDisp_takes.map fun d n h => by rw [hk, size2, h]; omega

theorem rest_immByte {k : Gen → Gen → BitVec 3 → BitVec 5 → Instr}
    (hk : ∀ g1 g2 o m, (k g1 g2 o m).length = size2 b n1 n2 g1 g2 + 1) :
    TakesRest b (withImmByte k n1 n2 c1 c2) :=
  operands_take fun g1 g2 => nextByte_takes.bind fun x n h => takes_pure (by rw [hk, size2, h]; omega)

theorem rest_one {k : Gen → Instr} {n : Nat} {c : BitVec 5} (hk : ∀ g, (k g).length = size1 b n g) :
    TakesRest b (k <$> parseOne n c) :=
  (parseOne_takes n c).map fun g m h => by rw [hk, size1, h]

theorem rest_disp {k : Disp → Instr} (hk : ∀ d, (k d).length = b + d.size) : TakesRest b (k <$> parseDisp) :=
  parseDisp_takes.map fun d n h => by rw [hk, h]

theorem rest_ite {c : Prop} [Decidable c] {p p' : Parse Instr} (h : c → TakesRest b p) (h' : ¬c → TakesRest b p') :
    TakesRest b (if c then p else p') := takes_ite h h'

end Sys2Proof.Machine
end

section
namespace Sys2Proof.Machine

/-! ### The formats -/

theorem parseF0_rest (cond : BitVec 4) : TakesRest 1 (parseF0 cond) := by
  refine parseDisp_takes.bind fun d n h => takes_pure ?_
  subst h
  split
  all_goals exact length_disp (b := [_]) rfl rfl rfl rfl

theorem parseF1_rest (op : BitVec 4) : TakesRest 1 (parseF1 op) := by
  have disp (k : Disp → Instr) (hk : ∀ d, (k d).length = 1 + d.size) : TakesRest 1 (k <$> parseDisp) := rest_disp hk
  have byte (k : Byte → Instr) (hk : ∀ x, (k x).length = 2) : TakesRest 1 (k <$> nextByte) :=
    nextByte_takes.map fun x n h => by rw [hk, h]
  unfold parseF1
  split
  case h_9 =>
    exact nextByte_takes.map₂ parseDisp_takes fun x n d m h h' => by
      rw [length_disp_imm (b := [f1 0x8]) rfl rfl rfl rfl, h, h', List.length_singleton]
      omega
  case h_1 | h_2 | h_3 | h_4 | h_5 => exact disp _ fun _ => length_disp (b := [_]) rfl rfl rfl rfl
  case h_7 | h_8 | h_10 => exact byte _ fun _ => length_imm (b := [_]) rfl rfl rfl rfl
  all_goals exact takes_pure (length_fixed (b := [_]) rfl rfl rfl rfl)

theorem scond_length (l : Len) (cond : BitVec 4) (g : Gen) : (scond l cond g).length = size1 2 l.bytes g := by
  unfold scond
  split
  all_goals cases l
  all_goals exact (length_one rfl rfl rfl rfl).trans rfl

theorem parseF2_rest (x : Word) : TakesRest 2 (parseF2 x) := by
  unfold parseF2
  dsimp only
  generalize lenOf _ = l
  generalize BitVec.extractLsb' 7 4 x = short
  refine (parseOne_takes _ _).bind fun g n h => ?_
  have one {i : Instr} (hi : i.length = size1 2 l.bytes g) :
      Takes (pure i : Parse Instr) fun i m => i.length = 2 + (n + m) :=
    takes_pure (by rw [hi, size1, h, Nat.add_zero])
  split
  case h_4 => exact one (scond_length l short g)
  case h_5 =>
    refine parseDisp_takes.map fun d m hd => ?_
    have e {i : Instr} (hi : i.length = size1 2 l.bytes g + d.size) : i.length = 2 + (n + m) := by
      rw [hi, size1, h, hd, Nat.add_assoc]
    cases l
    all_goals exact e ((length_one_disp rfl rfl rfl rfl).trans rfl)
  all_goals
    cases l
    all_goals exact one ((length_one rfl rfl rfl rfl).trans rfl)

theorem parseF3_rest (x : Word) : TakesRest 2 (parseF3 x) := by
  have one (k : Gen → Instr) {n : Nat} (c : BitVec 5) (hk : ∀ g, (k g).length = size1 2 n g) :
      TakesRest 2 (k <$> parseOne n c) := rest_one hk
  have raw (i : Instr) (hi : i.length = 2) : TakesRest 2 (pure i) := takes_pure hi
  unfold parseF3
  dsimp only
  generalize lenOf _ = l
  split
  case h_1 | h_3 | h_7 =>
    cases l
    case d => exact one _ _ fun _ => (length_one rfl rfl rfl rfl).trans rfl
    all_goals exact raw _ (length_fixed (b := [_, _]) rfl rfl rfl rfl)
  case h_2 | h_4 =>
    cases l
    case d => exact raw _ (length_fixed (b := [_, _]) rfl rfl rfl rfl)
    all_goals exact one _ _ fun _ => (length_one rfl rfl rfl rfl).trans rfl
  case h_6 | h_8 =>
    cases l
    all_goals exact one _ _ fun _ => (length_one rfl rfl rfl rfl).trans rfl
  all_goals
    cases l
    all_goals exact raw _ (length_fixed (b := [_, _]) rfl rfl rfl rfl)

theorem addrOrLxpd_length (g1 g2 : Gen) : (addrOrLxpd g1 g2).length = size2 2 0 4 g1 g2 := by
  unfold addrOrLxpd
  split
  all_goals exact (length_two rfl rfl rfl rfl).trans rfl

theorem parseF4_rest (x : Word) : TakesRest 2 (parseF4 x) := by
  unfold parseF4
  dsimp only
  generalize lenOf _ = l
  split
  case h_8 =>
    cases l
    case d => exact rest_two addrOrLxpd_length
    all_goals exact takes_pure (length_fixed (b := [_, _]) rfl rfl rfl rfl)
  all_goals
    cases l
    all_goals exact rest_two fun _ _ => (length_two rfl rfl rfl rfl).trans rfl

theorem parseF5_length (x : BitVec 24) : (parseF5 x).length = 3 := by
  have fixed {i : Instr} {c d e : Byte} (hb : i.basic = [c, d, e]) (ho : i.operands = []) (hm : i.immByte = none)
      (hd : i.disp = none) : i.length = 3 := length_fixed hb ho hm hd
  unfold parseF5
  dsimp only
  generalize lenOf _ = l
  split
  · exact fixed rfl rfl rfl rfl
  split
  · exact fixed rfl rfl rfl rfl
  split
  case h_3 =>
    split
    all_goals exact fixed rfl rfl rfl rfl
  all_goals
    split
    · split
      all_goals exact fixed rfl rfl rfl rfl
    split
    · exact fixed rfl rfl rfl rfl
    cases l
    all_goals exact fixed rfl rfl rfl rfl

/-- The rows of R190 in the three-byte formats take their three bytes. -/
theorem raw24_rest {i : Instr} {c d e : Byte} (hb : i.basic = [c, d, e]) (ho : i.operands = []) (hm : i.immByte = none)
    (hd : i.disp = none) : TakesRest 3 (pure i) := rest_fixed hb ho hm hd

theorem parseF6_rest (x : BitVec 24) : TakesRest 3 (parseF6 x) := by
  unfold parseF6
  dsimp only
  generalize lenOf _ = l
  split
  case h_5 | h_11 => exact raw24_rest rfl rfl rfl rfl
  all_goals
    refine rest_ite (fun _ => raw24_rest rfl rfl rfl rfl) fun _ => rest_two fun _ _ => ?_
    cases l
    all_goals exact (length_two rfl rfl rfl rfl).trans rfl

theorem lenOf_ne_d {i : BitVec 2} (h2 : i ≠ 0b10) (h3 : i ≠ 0b11) : lenOf i ≠ .d := by
  revert i
  decide

theorem parseF7_rest (x : BitVec 24) : TakesRest 3 (parseF7 x) := by
  unfold parseF7
  dsimp only
  split
  case h_1 | h_2 =>
    refine rest_ite (fun _ => raw24_rest rfl rfl rfl rfl) fun _ => rest_twoDisp fun _ _ _ => ?_
    cases lenOf _
    all_goals exact (length_two_disp rfl rfl rfl rfl).trans rfl
  case h_3 | h_4 =>
    refine rest_ite (fun _ => raw24_rest rfl rfl rfl rfl) fun _ => rest_immByte fun _ _ _ _ => ?_
    cases lenOf _
    all_goals exact (length_two_imm rfl rfl rfl rfl).trans rfl
  case h_5 | h_6 =>
    exact rest_ite (fun _ => rest_two fun _ _ => (length_two rfl rfl rfl rfl).trans rfl)
      fun _ => raw24_rest rfl rfl rfl rfl
  case h_7 | h_8 =>
    refine rest_ite (fun _ => raw24_rest rfl rfl rfl rfl) fun h3 =>
      rest_ite (fun _ => raw24_rest rfl rfl rfl rfl) fun h2 => rest_two fun _ _ => ?_
    have hl := lenOf_ne_d h2 h3
    generalize lenOf _ = l at hl ⊢
    cases l
    case d => exact absurd rfl hl
    all_goals exact (length_two rfl rfl rfl rfl).trans rfl
  case h_11 => exact raw24_rest rfl rfl rfl rfl
  all_goals
    refine rest_ite (fun _ => raw24_rest rfl rfl rfl rfl) fun _ => rest_two fun _ _ => ?_
    cases lenOf _
    all_goals exact (length_two rfl rfl rfl rfl).trans rfl

theorem parseF8_rest (x : BitVec 24) : TakesRest 3 (parseF8 x) := by
  unfold parseF8
  dsimp only
  generalize lenOf _ = l
  split
  case h_1 | h_3 =>
    refine rest_ite (fun _ => raw24_rest rfl rfl rfl rfl) fun _ => rest_twoDisp fun _ _ _ => ?_
    cases l
    all_goals exact (length_two_disp rfl rfl rfl rfl).trans rfl
  case h_2 =>
    exact rest_ite (fun _ => rest_two fun _ _ => (length_two rfl rfl rfl rfl).trans rfl)
      fun _ => raw24_rest rfl rfl rfl rfl
  case h_7 =>
    split
    case h_2 | h_4 =>
      refine rest_ite (fun _ => raw24_rest rfl rfl rfl rfl) fun _ => rest_two fun _ _ => ?_
      cases l
      all_goals exact (length_two rfl rfl rfl rfl).trans rfl
    all_goals exact raw24_rest rfl rfl rfl rfl
  case h_8 => exact raw24_rest rfl rfl rfl rfl
  all_goals
    refine rest_ite (fun _ => raw24_rest rfl rfl rfl rfl) fun _ => rest_two fun _ _ => ?_
    cases l
    all_goals exact (length_two rfl rfl rfl rfl).trans rfl

theorem parseF9_rest (x : BitVec 24) : TakesRest 3 (parseF9 x) := by
  unfold parseF9
  dsimp only
  generalize lenOf _ = l
  generalize flenOf _ = k
  split
  case h_2 | h_7 =>
    exact rest_ite (fun _ => rest_one fun _ => (length_one rfl rfl rfl rfl).trans rfl)
      fun _ => raw24_rest rfl rfl rfl rfl
  case h_3 | h_4 =>
    exact rest_ite (fun _ => rest_two fun _ _ => (length_two rfl rfl rfl rfl).trans rfl)
      fun _ => raw24_rest rfl rfl rfl rfl
  all_goals
    refine rest_ite (fun _ => raw24_rest rfl rfl rfl rfl) fun _ => rest_two fun _ _ => ?_
    cases k
    all_goals
      cases l
      all_goals exact (length_two rfl rfl rfl rfl).trans rfl

theorem parseF11_rest (x : BitVec 24) : TakesRest 3 (parseF11 x) := by
  unfold parseF11
  dsimp only
  generalize flenOf _ = k
  split
  case h_4 | h_8 | h_11 | h_12 | h_13 | h_14 | h_15 => exact raw24_rest rfl rfl rfl rfl
  all_goals
    refine rest_ite (fun _ => raw24_rest rfl rfl rfl rfl) fun _ => rest_two fun _ _ => ?_
    cases k
    all_goals exact (length_two rfl rfl rfl rfl).trans rfl

theorem parseF14_rest (x : BitVec 24) : TakesRest 3 (parseF14 x) := by
  unfold parseF14
  dsimp only
  refine rest_ite (fun _ => raw24_rest rfl rfl rfl rfl) fun _ =>
    rest_ite (fun _ => raw24_rest rfl rfl rfl rfl) fun _ =>
      rest_ite (fun _ => ?_) fun _ => raw24_rest rfl rfl rfl rfl
  split
  all_goals exact rest_one fun _ => (length_one rfl rfl rfl rfl).trans rfl

theorem basic24_takes (b0 : Byte) : Takes (basic24 b0) fun _ n => n = 2 := by
  refine nextByte_takes.bind ?_
  rintro b1 _ rfl
  refine nextByte_takes.bind ?_
  rintro b2 _ rfl
  exact takes_pure rfl

theorem parse1110_rest (b0 : Byte) : TakesRest 1 (parse1110 b0) := by
  have three {p : BitVec 24 → Parse Instr} (h : ∀ x, TakesRest 3 (p x)) : TakesRest 1 (basic24 b0 >>= p) := by
    refine (basic24_takes b0).bind ?_
    rintro x _ rfl
    exact (h x).mono fun i n hi => by omega
  unfold parse1110
  split
  case h_1 =>
    refine (basic24_takes b0).map ?_
    rintro x _ rfl
    exact parseF5_length x
  case h_2 => exact three parseF14_rest
  case h_3 => exact three parseF9_rest
  case h_4 => exact three parseF6_rest
  case h_9 => exact three parseF11_rest
  case h_10 => exact three parseF7_rest
  case h_13 => exact three parseF8_rest
  all_goals exact takes_pure (length_fixed (b := [_]) rfl rfl rfl rfl)

theorem parseInstr_takes : Takes parseInstr fun i n => i.length = n := by
  refine nextByte_takes.bind ?_
  rintro b0 _ rfl
  refine takes_ite (fun _ => ?_) fun _ => ?_
  · split
    · exact parseF0_rest _
    · exact parseF1_rest _
    · split
      all_goals exact takes_pure (length_fixed (b := [_]) rfl rfl rfl rfl)
    · exact parse1110_rest b0
  · refine nextByte_takes.bind ?_
    rintro b1 _ rfl
    have two {p : Parse Instr} (h : TakesRest 2 p) : Takes p fun i n => i.length = 1 + (1 + n) :=
      h.mono fun i n hi => by omega
    exact takes_ite (fun _ => takes_ite (fun _ => two (parseF3_rest _)) fun _ => two (parseF2_rest _))
      fun _ => two (parseF4_rest _)

theorem decode_length {bs rest : List Byte} {i : Instr} (h : decode bs = .ok (i, rest)) :
    bs.length = i.length + rest.length := by
  obtain ⟨n, hn, hi⟩ := parseInstr_takes.run h
  rw [hn, hi]

end Sys2Proof.Machine
end

section
/-! A step as a whole: the environment's inputs, the fetch, the instruction and the boundary. -/

namespace Sys2Proof.Machine

variable {w : Scope} {s t u : State}

/-! ### Fetch -/

theorem fetchByte_stays (a : Int) : Stays w (fetchByte a) :=
  (stays_ensure _ _).bind fun _ => stays_get_bind fun _ => (physical_stays _ _ _).bind fun _ =>
    stays_get_bind fun _ => stays_when (stays_refuse _) fun _ => readByte_stays _

theorem fetchWindow_kept (n : Nat) (a : Int) (s : State) : Kept s (fetchWindow n a s).2.2 := by
  induction n generalizing a s with
  | zero => exact Kept.refl s
  | succ n ih =>
    unfold fetchWindow
    split
    · rename_i b t e
      exact ((fetchByte_stays (w := .machine) a).gives e).trans (ih (a + 1) t)
    · rename_i x t e
      exact (fetchByte_stays (w := .machine) a).abandons e

/-- Where `n` bytes can be fetched, fetching at most the first of them is not abandoned. -/
theorem fetchWindow_within {m n : Nat} {a : Int} (h : m ≤ (fetchWindow n a s).1.length) :
    Within w s (fetchWindow m a s).2.2 := by
  induction m generalizing n a s with
  | zero => exact Within.refl w s
  | succ m ih =>
    cases n with
    | zero => exact absurd h (by simp [fetchWindow])
    | succ n =>
      unfold fetchWindow at h ⊢
      split at h
      · rename_i b t e
        exact ((fetchByte_stays a).gives e).trans (ih (Nat.le_of_succ_le_succ h))
      · exact absurd h (by simp)

/-- The tracing of program flow changes PF0, PF1 and SC. -/
theorem traceFlow_eq (m : MmuRegs) (flow : Flow) (pc : Addr) :
    ∃ pf0 pf1 sc, MmuRegs.traceFlow m flow pc = { m with pf0, pf1, sc } := by
  cases flow with
  | traced => exact ⟨_, _, _, rfl⟩
  | sequential => exact ⟨_, _, _, rfl⟩
  | nonSequential =>
    simp only [MmuRegs.traceFlow]
    split
    all_goals exact ⟨_, _, _, rfl⟩

/-- The MMU, where it is active, may change the registers in which it counts and traces. -/
theorem traced_within {m : MmuRegs} {bcnt pf0 pf1 sc : DWord} (flow : Flow) (ht : s.translating = true)
    (hm : m = { s.mmu with bcnt, pf0, pf1, sc }) : Within w s { s with mmu := m, flow } := by
  subst hm
  refine Within.of_operand w ⟨rfl, ?_, Kept.of_eq rfl rfl⟩
  constructor
  case idle => exact fun e => by simp [ht] at e
  all_goals intros; rfl

theorem observeFetch_stays (n : Nat) : Stays w (observeFetch n) where
  gives g := by
    simp only [observeFetch, gives_bind, gives_get, gives_ite, gives_modify, gives_pure] at g
    obtain ⟨_, s, ⟨rfl, rfl⟩, _, u, g1, ⟨ht, rfl⟩ | ⟨-, -, rfl⟩⟩ := g
    · have seen : Within .operand s u := (observe_stays _ _ _ _).gives g1
      have active : u.translating = true := seen.2.1.translating.trans ht
      refine (seen.of_operand w).trans ?_
      split
      · obtain ⟨pf0, pf1, sc, e⟩ := traceFlow_eq u.mmu u.flow u.pc
        exact traced_within _ active e
      · exact traced_within _ active rfl
    · exact (observe_stays _ _ _ _).gives g1
  abandons a := by
    simp only [observeFetch, abandons_bind, abandons_get, false_or, gives_get, abandons_ite, abandons_modify,
      abandons_pure, and_false, or_false, exists_false] at a
    obtain ⟨_, _, ⟨rfl, rfl⟩, a⟩ := a
    exact (observe_stays (w := .machine) _ _ _ _).abandons a

/-- A fetch that is abandoned has kept the canonical form; one that succeeds is within what User Mode may do, because the
bytes that the instruction takes are bytes that can be fetched. Fetch, window and decoder are made variables before the
definition is taken apart: the kernel would evaluate them. -/
theorem fetchInstr_cases (s : State) :
    (∃ e, fetchInstr s = .error e ∧ Kept s e.2) ∨ ∃ i t, fetchInstr s = .ok (i, t) ∧ Within .user s t := by
  have kept := fetchWindow_kept
  have within := @fetchWindow_within .user s
  have length := @decode_length
  obtain ⟨window, hw⟩ : ∃ window, fetchWindow = window := ⟨_, rfl⟩
  obtain ⟨dec, hd⟩ : ∃ dec, decode = dec := ⟨_, rfl⟩
  obtain ⟨fetch, hf⟩ : ∃ fetch, fetchInstr = fetch := ⟨_, rfl⟩
  rw [hf]
  delta fetchInstr at hf
  rw [hw] at hf kept within
  rw [hd] at hf length
  have h := congrFun hf s
  dsimp only at h
  split at h
  · rename_i i rest e
    have fits : i.length ≤ (window maxLength s.pc.toNat s).1.length := by
      rw [length e]
      exact Nat.le_add_right _ _
    have fetched : Within .user s (window i.length s.pc.toNat s).2.2 := within fits
    split at h
    · rename_i v t o
      exact .inr ⟨i, t, h.symm, fetched.trans ((observeFetch_stays _).gives o)⟩
    · rename_i x t o
      exact .inl ⟨(x, t), h.symm, fetched.kept.trans ((observeFetch_stays (w := .machine) _).abandons o)⟩
  · exact .inl ⟨_, h.symm, kept _ _ _⟩

/-! ### The inputs -/

theorem otherWrite_within (s : State) (x : Addr × Byte) : Within w s (s.otherWrite x) := by
  unfold State.otherWrite
  split
  · exact Within.of_fields rfl rfl rfl rfl rfl rfl fun h => State.wf_storeByte s _ _ h x.1.isLt
  · exact Within.refl w s

theorem otherWrites_within (xs : List (Addr × Byte)) (s : State) : Within w s (xs.foldl State.otherWrite s) := by
  induction xs generalizing s with
  | nil => exact Within.refl w s
  | cons x xs ih => exact (otherWrite_within s x).trans (ih _)

theorem takeInputs_within (s : State) : Within w s s.takeInputs := by
  unfold State.takeInputs
  split
  · exact Within.refl w s
  · rename_i i rest _
    have taken : Within w s { s with inputs := rest } := Within.of_fields rfl rfl rfl rfl rfl rfl id
    exact (taken.trans (otherWrites_within i.writes _)).trans (Within.of_fields rfl rfl rfl rfl rfl rfl id)

/-! ### A step -/

theorem begin_within (s : State) : Within .user s s.begin :=
  (setFlag_within s (s.flag bitT) (by decide) (by decide) (by decide)).trans
    (Within.of_fields rfl rfl rfl rfl rfl rfl id)

/-- A step is over at its beginning only by Reset, by waiting, or by an interrupt after an exception sequence. -/
theorem startStep_done {r : Result} (hr : s.resetRequested = false) (h : startStep s = .done r) (hn : r = .next t) :
    Ends s.takeInputs t := by
  subst hn
  unfold startStep at h
  simp only [hr, Bool.false_eq_true, if_false] at h
  split at h
  case h_1 ha | h_2 ha =>
    injection h with h
    exact boundary_ends (by simp [ha]) h
  case h_3 =>
    obtain ⟨-, h⟩ | ⟨-, h⟩ := ite_eq_iff.mp h
    · injection h with h
      exact .inl (takeInterrupt_served h)
    · cases h
  all_goals cases h

theorem startStep_run (h : startStep s = .run t) : t = s.takeInputs.begin := by
  have run {u : State} (h : Start.run u = .run t) : t = u := by
    cases h
    rfl
  unfold startStep at h
  obtain ⟨-, h⟩ | ⟨-, h⟩ := ite_eq_iff.mp h
  · cases h
  split at h
  case h_1 | h_2 => cases h
  case h_3 =>
    obtain ⟨-, h⟩ | ⟨-, h⟩ := ite_eq_iff.mp h
    · cases h
    · exact run h
  all_goals exact run h

theorem step_ends (hr : s.resetRequested = false) (h : step s = .next t) : Ends s t := by
  have fetched := fetchInstr_cases
  refine Ends.after (takeInputs_within s) ?_
  unfold step at h
  obtain ⟨fetch, hf⟩ : ∃ fetch, fetchInstr = fetch := ⟨_, rfl⟩
  rw [hf] at h fetched
  split at h
  · rename_i r e
    exact startStep_done hr e h
  · rename_i v e
    obtain rfl := startStep_run e
    refine Ends.after (begin_within _) ?_
    obtain ⟨x, f, kept⟩ | ⟨i, u, f, within⟩ := fetched s.takeInputs.begin
    · rw [f] at h
      exact .inl ((abandon_served h).after kept)
    · rw [f] at h
      exact (endStep_ends h).after within

theorem step_reset (hr : s.resetRequested = true) : step s = .next s.takeInputs.restart := by
  unfold step startStep
  simp only [hr, if_true]

theorem restart_canonical (h : s.Canonical) : s.restart.Canonical := ⟨h.memory, by simp [State.restart, State.reset]⟩

/-- Settles O9, by what a step may end in: `step_ends`, or Reset. -/
theorem stepKeepsInvariant : Obligations.StepKeepsInvariant := by
  intro s t hs h
  have canonical : s.Canonical := (inv_iff.mp hs).1
  cases hr : s.resetRequested with
  | true =>
    obtain rfl : s.takeInputs.restart = t := by
      rw [step_reset hr] at h
      cases h
      rfl
    exact (restart_canonical ((takeInputs_within (w := .machine) s) canonical)).inv nofun
  | false =>
    obtain served | ⟨running, within⟩ := step_ends hr h
    · exact served.2 canonical
    · exact (within.kept canonical).inv running

/-- Settles O10: a step that takes no exception stays within what User Mode may do, by `step_ends`. -/
theorem userModeIsConfined : Obligations.UserModeIsConfined := by
  intro s t hu hr h ha
  obtain served | ⟨-, within⟩ := step_ends hr h
  · exact (ha served.1).elim
  · have c := within.1 hu
    exact ⟨c.user.trans hu, c.stack, c.enable, c.cfg, c.intbase, c.idle, c.mmu, c.sp0⟩

end Sys2Proof.Machine
end

section
/-! Registers and register pairs as operands, and Reset. -/

namespace Sys2Proof.Machine

variable {s t : State} {r : Reg}

/-! ### Register operands -/

theorem pairOf_even (h : r.val % 2 = 0) : pairOf r = r + 1 := by
  revert r
  decide

theorem pairOf_ne (h : r.val % 2 = 0) : r ≠ r + 1 := by
  revert r
  decide

theorem toNat_append_eq {m n : Nat} (x : BitVec m) (y : BitVec n) : (x ++ y).toNat = x.toNat * 2 ^ n + y.toNat := by
  rw [BitVec.toNat_append, ← Nat.shiftLeft_add_eq_or_of_lt y.isLt, Nat.shiftLeft_eq]

theorem replaceLow_toNat (l : Len) (old : DWord) (v : QWord) :
    (replaceLow l.bytes old v).toNat = old.toNat / 2 ^ l.bits * 2 ^ l.bits + v.toNat % 2 ^ l.bits := by
  have bound := old.isLt
  have high (k : Nat) : (old.extractLsb' k (32 - k)).toNat = old.toNat / 2 ^ k % 2 ^ (32 - k) := by
    rw [BitVec.extractLsb'_toNat, Nat.shiftRight_eq_div_pow]
  have low (k : Nat) : (v.extractLsb' 0 k).toNat = v.toNat % 2 ^ k := by
    rw [BitVec.extractLsb'_toNat, Nat.shiftRight_zero]
  cases l with
  | b =>
    show (old.extractLsb' 8 (32 - 8) ++ v.extractLsb' 0 8).toNat = old.toNat / 2 ^ 8 * 2 ^ 8 + v.toNat % 2 ^ 8
    rw [toNat_append_eq, high, low]
    omega
  | w =>
    show (old.extractLsb' 16 (32 - 16) ++ v.extractLsb' 0 16).toNat = old.toNat / 2 ^ 16 * 2 ^ 16 + v.toNat % 2 ^ 16
    rw [toNat_append_eq, high, low]
    omega
  | d =>
    show (v.extractLsb' 0 32).toNat = old.toNat / 2 ^ 32 * 2 ^ 32 + v.toNat % 2 ^ 32
    rw [low]
    omega

theorem readRegBytes_eq (s : State) (l : Len) (r : Reg) :
    s.readRegBytes l.bytes r = BitVec.ofNat 64 ((s.reg r).toNat % 2 ^ l.bits) := by
  rw [State.readRegBytes, bits_eq]

theorem half_bytes (l : Len) : 2 * l.bytes / 2 = l.bytes := Nat.mul_div_cancel_left _ (by decide)

theorem ofNat_append_halves {n x y : Nat} (hx : x < 2 ^ n) :
    BitVec.ofNat 64 y <<< n ||| BitVec.ofNat 64 x = BitVec.ofNat 64 (x + y * 2 ^ n) := by
  rw [Nat.add_comm, ← Nat.shiftLeft_eq, Nat.shiftLeft_add_eq_or_of_lt hx, BitVec.ofNat_or]
  congr 1
  apply BitVec.eq_of_toNat_eq
  simp [Nat.shiftLeft_eq]

/-- A pair is read as its two low parts, the even register's below (R22). -/
theorem readReg_pair (l : Len) (h : r.val % 2 = 0) : s.readReg .pair (2 * l.bytes) r =
    BitVec.ofNat 64 ((s.reg r).toNat % 2 ^ l.bits + (s.reg (r + 1)).toNat % 2 ^ l.bits * 2 ^ l.bits) := by
  simp only [State.readReg, half_bytes, readRegBytes_eq, pairOf_even h, ← bits_eq]
  exact ofNat_append_halves (Nat.mod_lt _ (Nat.two_pow_pos _))

/-- A pair is written by its halves, the low one to the even register (R22). -/
theorem writeReg_pair (l : Len) (v : QWord) (h : r.val % 2 = 0) : s.writeReg .pair (2 * l.bytes) r v =
    (s.writeRegBytes l.bytes r v).writeRegBytes l.bytes (r + 1) (v >>> l.bits) := by
  simp only [State.writeReg, half_bytes, pairOf_even h, ← bits_eq]

theorem writeRegBytes_reg_self (l : Len) (r : Reg) (v : QWord) : ((s.writeRegBytes l.bytes r v).reg r).toNat =
    (s.reg r).toNat / 2 ^ l.bits * 2 ^ l.bits + v.toNat % 2 ^ l.bits := by
  rw [State.writeRegBytes, State.reg_setReg_self, replaceLow_toNat]

theorem writeRegBytes_reg_ne (n : Nat) {r q : Reg} (v : QWord) (h : r ≠ q) : (s.writeRegBytes n r v).reg q = s.reg q :=
  State.reg_setReg_ne _ _ _ _ h

theorem writeReg_long (r : Reg) (v : QWord) : s.writeReg .float FLen.l.bytes r v =
    (s.setFreg r (v.setWidth 32)).setFreg (pairOf r) (v.extractLsb' 32 32) := rfl

/-- A register that is legal as an operand is read without any effect. -/
theorem readOp_reg {k : Kind} {n : Nat} (h : Gives (legalReg k n r) s () s) :
    Gives (readOp k n (.base (.reg r))) s (s.readReg k n r) s := by
  simp only [readOp, gives_bind, gives_get, gives_pure]
  exact ⟨(), s, h, s, s, ⟨rfl, rfl⟩, rfl, rfl⟩

theorem writeLoc_reg (k : Kind) (n : Nat) (r : Reg) (v : QWord) :
    Gives (writeLoc k n (.reg r) v) s () (s.writeReg k n r v) := (gives_modify ..).mpr rfl

theorem legalReg_even {k : Kind} {n : Nat} (h : r.val % 2 = 0) : Gives (legalReg k n r) s () s := by
  cases k with
  | int => rfl
  | pair => exact (gives_ensure ..).mpr ⟨by simp [h], rfl⟩
  | float => exact (gives_ensure ..).mpr ⟨by simp [h], rfl⟩

/-- Settles O18: what each kind of operand is read as, what it is written as, and what writing it leaves alone. -/
theorem registerOperands : Obligations.RegisterOperands := by
  intro s r v l
  refine ⟨?int, ?single, fun even => ⟨?pair, ?long⟩⟩
  case int =>
    refine ⟨?_, _, writeLoc_reg _ _ _ _, writeRegBytes_reg_self l r v, (writeReg_keeps s .int l.bytes r v).1⟩
    rw [← readRegBytes_eq]
    exact readOp_reg rfl
  case single =>
    exact ⟨readOp_reg rfl, _, writeLoc_reg _ _ _ _, State.freg_setFreg_self s r _, (writeReg_keeps s .float 4 r v).1⟩
  case pair =>
    have keeps := (writeReg_keeps s .pair (2 * l.bytes) r v).1
    rw [← readReg_pair l even]
    refine ⟨readOp_reg (legalReg_even even), _, writeLoc_reg _ _ _ _, ?_, ?_, pairOf_even even ▸ keeps⟩
    · rw [writeReg_pair l v even, writeRegBytes_reg_ne _ _ (pairOf_ne even).symm, writeRegBytes_reg_self]
    · rw [writeReg_pair l v even, writeRegBytes_reg_self, writeRegBytes_reg_ne _ _ (pairOf_ne even),
        BitVec.toNat_ushiftRight, Nat.shiftRight_eq_div_pow]
  case long =>
    have keeps := (writeReg_keeps s .float FLen.l.bytes r v).1
    rw [← pairOf_even even]
    refine ⟨readOp_reg (legalReg_even even), _, writeLoc_reg _ _ _ _, ?_, ?_, keeps⟩
    · rw [writeReg_long, pairOf_even even, State.freg_setFreg, if_neg (pairOf_ne even).symm, State.freg_setFreg_self]
      rfl
    · rw [writeReg_long, State.freg_setFreg_self]

/-! ### Reset -/

/-- Settles O8: the state after Reset is canonical, and no exception sequence has led to it. -/
theorem resetIsInvariant : Obligations.ResetIsInvariant :=
  State.Canonical.inv ⟨reset_memory_wf, by decide⟩ (by decide)

/-- Another bus master writes memory, which the instruction queue may then differ from, and nothing else. -/
theorem otherWrites_eq (xs : List (Addr × Byte)) (s : State) :
    ∃ mem queueDirty, xs.foldl State.otherWrite s = { s with mem, queueDirty } := by
  induction xs generalizing s with
  | nil => exact ⟨s.mem, s.queueDirty, rfl⟩
  | cons x xs ih =>
    obtain ⟨mem, queueDirty, e⟩ := ih (s.otherWrite x)
    refine ⟨mem, queueDirty, e.trans ?_⟩
    unfold State.otherWrite
    split <;> rfl

theorem takeInputs_eq (s : State) :
    ∃ mem queueDirty inputs nmiPending intLine,
      s.takeInputs = { s with mem, queueDirty, inputs, nmiPending, intLine } := by
  unfold State.takeInputs
  split
  · exact ⟨s.mem, s.queueDirty, s.inputs, s.nmiPending, s.intLine, rfl⟩
  · rename_i i rest _
    obtain ⟨mem, queueDirty, e⟩ := otherWrites_eq i.writes { s with inputs := rest }
    exact ⟨mem, queueDirty, rest, _, _, by rw [e]⟩

/-- Settles O7: the step is `State.restart`, and taking the inputs first has left the platform and the environment's other
parts alone. -/
theorem resetClears : Obligations.ResetClears := by
  refine ⟨rfl, rfl, rfl, rfl, fun s hr => ⟨s.takeInputs.restart, step_reset hr, ?_⟩⟩
  obtain ⟨mem, queueDirty, inputs, nmiPending, intLine, e⟩ := takeInputs_eq s
  rw [e]
  exact ⟨rfl, rfl, rfl, rfl, rfl, rfl, rfl, rfl, rfl, rfl, rfl, rfl, rfl⟩

end Sys2Proof.Machine
end

section
/-! Data in memory, where every address is physical and RAM (R84). -/

namespace Sys2Proof.Machine

/-- The low bytes of what is loaded are the bytes at the lowest addresses (R84). -/
theorem load_mod (mem : List Host.Cell) (a : Nat) {m n : Nat} (h : m ≤ n) : load mem a n % 256 ^ m = load mem a m := by
  induction m generalizing a n with
  | zero => simp [load, Nat.mod_one]
  | succ m ih =>
    obtain ⟨n, rfl⟩ : ∃ k, n = k + 1 := ⟨n - 1, by omega⟩
    have hb := (Memory.read mem a).isLt
    simp only [load, pow_succ']
    rw [Nat.mod_mul, Nat.add_mul_mod_self_left, Nat.mod_eq_of_lt hb, Nat.add_mul_div_left _ _ (by decide),
      Nat.div_eq_of_lt hb, Nat.zero_add, ih (a + 1) (by omega)]

theorem inSpace_mono {a : Int} {m n : Nat} (ha : inSpace a n = true) (h : m ≤ n) : inSpace a m = true := by
  rw [inSpace_iff] at *
  omega

theorem load_store_uval (s : State) (a n : Nat) (v : QWord) : load (s.store a n v.toNat).mem a n = uval n v := by
  rw [State.load_store, uval, pow_mul]
  rfl

/-- Settles O17: in plain memory a read is `load`, a write is `State.store`, and each byte after a store is known. -/
theorem storedValueIsRead : Obligations.StoredValueIsRead := by
  intro s a n v plain ha hn
  refine ⟨fun m hm => ?_, s.store a.toNat n v.toNat, memWrite_plain plain a n v ha, ?_, fun k hk => ?_, fun b hb => ?_⟩
  · rw [load_mod _ _ hm]
    exact memRead_plain plain a m (hm.trans hn) (inSpace_mono ha hm)
  · rw [← load_store_uval s a.toNat]
    exact memRead_plain (plain.store _ _ _) a n hn ha
  · rw [State.read_store, if_pos (by omega), Nat.add_sub_cancel_left]
  · rw [State.read_store, if_neg (by omega)]

end Sys2Proof.Machine
end

section
/-! What the readers of the instruction stream answer, as equivalences: each gives the bytes it has taken, so one lemma
serves decoding what is encoded and encoding what is decoded (R164, R178, R183, R188, R189). -/

namespace Sys2Proof

variable {α β γ : Type} {bs rest : List Byte}

/-! ### The reader's operations -/

theorem parse_pure_iff {x y : α} : (pure x : Parse α) bs = .ok (y, rest) ↔ x = y ∧ bs = rest := by
  show (Except.ok (x, bs) : Except DecodeError (α × List Byte)) = .ok (y, rest) ↔ _
  simp

theorem parse_bind_iff {p : Parse α} {k : α → Parse β} {y : β} :
    (p >>= k) bs = .ok (y, rest) ↔ ∃ x mid, p bs = .ok (x, mid) ∧ k x mid = .ok (y, rest) := by
  show (Except.bind (p bs) fun a => k a.1 a.2) = .ok (y, rest) ↔ _
  cases p bs with
  | error e => simp [Except.bind]
  | ok a => exact ⟨fun h => ⟨a.1, a.2, rfl, h⟩, by rintro ⟨x, mid, ⟨⟩, h⟩; exact h⟩

theorem parse_map_iff {p : Parse α} {f : α → β} {y : β} :
    (f <$> p) bs = .ok (y, rest) ↔ ∃ x, p bs = .ok (x, rest) ∧ f x = y := by
  show (p >>= fun x => pure (f x)) bs = .ok (y, rest) ↔ _
  simp only [parse_bind_iff, parse_pure_iff]
  exact ⟨fun ⟨x, _, h, e, hm⟩ => ⟨x, hm ▸ h, e⟩, fun ⟨x, h, e⟩ => ⟨x, rest, h, e, rfl⟩⟩

theorem parse_map₂_iff {p : Parse α} {p' : Parse β} {f : α → β → γ} {z : γ} :
    (f <$> p <*> p') bs = .ok (z, rest) ↔ ∃ x mid y, p bs = .ok (x, mid) ∧ p' mid = .ok (y, rest) ∧ f x y = z := by
  show ((f <$> p) >>= fun g => g <$> p') bs = .ok (z, rest) ↔ _
  simp only [parse_bind_iff, parse_map_iff]
  exact ⟨fun ⟨_, mid, ⟨x, h, e⟩, y, h', e'⟩ => ⟨x, mid, y, h, h', e ▸ e'⟩,
    fun ⟨x, mid, y, h, h', e⟩ => ⟨f x, mid, ⟨x, h, rfl⟩, y, h', e⟩⟩

theorem nextByte_iff {b : Byte} : nextByte bs = .ok (b, rest) ↔ bs = b :: rest := by
  cases bs <;> simp [nextByte]

/-! ### Parts of a word -/

theorem extract_append_iff {a m n k : Nat} {w : BitVec k} {x : BitVec m} {y : BitVec n} :
    w.extractLsb' a (m + n) = x ++ y ↔ w.extractLsb' (a + n) m = x ∧ w.extractLsb' a n = y := by
  rw [← BitVec.extractLsb'_append_extractLsb'_eq_extractLsb' rfl]
  refine ⟨fun h => ⟨?_, ?_⟩, fun ⟨hx, hy⟩ => by rw [hx, hy]⟩
  · rw [← BitVec.extractLsb'_append_eq_left (a := x) (b := y), ← h, BitVec.extractLsb'_append_eq_left]
  · rw [← BitVec.extractLsb'_append_eq_right (a := x) (b := y), ← h, BitVec.extractLsb'_append_eq_right]

/-- A word is known by its fields: the part above the last field, and the last field. -/
theorem fields_cons (m n : Nat) {a k : Nat} {w : BitVec k} {x : BitVec m} {y : BitVec n} {P : Prop}
    (h : w.extractLsb' (a + n) m = x ↔ P) : w.extractLsb' a (m + n) = x ++ y ↔ P ∧ w.extractLsb' a n = y :=
  extract_append_iff.trans (and_congr_left' h)

theorem fields_whole {n : Nat} {w x : BitVec n} {P : Prop} (h : w.extractLsb' 0 n = x ↔ P) : w = x ↔ P := by
  rwa [BitVec.extractLsb'_eq_self] at h

/-! ### Displacements -/

theorem nextByte_bind_iff {k : Byte → Parse α} {y : α} :
    (nextByte >>= k) bs = .ok (y, rest) ↔ ∃ b mid, bs = b :: mid ∧ k b mid = .ok (y, rest) := by
  simp only [parse_bind_iff, nextByte_iff]

theorem disp1_fields {b : Byte} {v : BitVec 7} : b = 0#1 ++ v ↔ b.extractLsb' 7 1 = 0 ∧ b.extractLsb' 0 7 = v :=
  fields_whole (fields_cons 1 7 Iff.rfl)

theorem disp2_fields {b : Byte} {v : BitVec 6} :
    b = 0b10#2 ++ v ↔ (b.extractLsb' 7 1 ≠ 0 ∧ b.extractLsb' 6 1 = 0) ∧ b.extractLsb' 0 6 = v := by
  have head : ∀ b : Byte, b.extractLsb' 6 2 = 0b10#2 ↔ b.extractLsb' 7 1 ≠ 0 ∧ b.extractLsb' 6 1 = 0 := by decide
  exact fields_whole (fields_cons 2 6 (head b))

theorem disp4_fields {b : Byte} {v : BitVec 6} :
    b = 0b11#2 ++ v ↔ (b.extractLsb' 7 1 ≠ 0 ∧ b.extractLsb' 6 1 ≠ 0) ∧ b.extractLsb' 0 6 = v := by
  have head : ∀ b : Byte, b.extractLsb' 6 2 = 0b11#2 ↔ b.extractLsb' 7 1 ≠ 0 ∧ b.extractLsb' 6 1 ≠ 0 := by decide
  exact fields_whole (fields_cons 2 6 (head b))

theorem word14_fields {v : BitVec 14} {x : BitVec 6} {b : Byte} :
    v = x ++ b ↔ v.extractLsb' 8 6 = x ∧ v.extractLsb' 0 8 = b := fields_whole (fields_cons 6 8 Iff.rfl)

theorem word30_fields {v : BitVec 30} {x : BitVec 6} {b1 b2 b3 : Byte} :
    v = x ++ b1 ++ b2 ++ b3 ↔
      ((v.extractLsb' 24 6 = x ∧ v.extractLsb' 16 8 = b1) ∧ v.extractLsb' 8 8 = b2) ∧ v.extractLsb' 0 8 = b3 :=
  fields_whole (fields_cons 22 8 (fields_cons 14 8 (fields_cons 6 8 Iff.rfl)))

theorem parseDisp_iff {d : Disp} : parseDisp bs = .ok (d, rest) ↔ bs = d.encode ++ rest := by
  constructor
  · intro h
    obtain ⟨b0, _, rfl, h0⟩ := nextByte_bind_iff.mp h
    split at h0
    case isTrue h7 =>
      obtain ⟨rfl, rfl⟩ := parse_pure_iff.mp h0
      rw [Disp.encode, ← disp1_fields.mpr ⟨h7, rfl⟩]
      rfl
    case isFalse h7 =>
    obtain ⟨b1, _, rfl, h1⟩ := nextByte_bind_iff.mp h0
    split at h1
    case isTrue h6 =>
      obtain ⟨rfl, rfl⟩ := parse_pure_iff.mp h1
      obtain ⟨e0, e1⟩ := word14_fields.mp (rfl : b0.extractLsb' 0 6 ++ b1 = _)
      rw [Disp.encode, e0, e1, ← disp2_fields.mpr ⟨⟨h7, h6⟩, rfl⟩]
      rfl
    case isFalse h6 =>
      obtain ⟨b2, _, rfl, h2⟩ := nextByte_bind_iff.mp h1
      obtain ⟨b3, _, rfl, h3⟩ := nextByte_bind_iff.mp h2
      obtain ⟨rfl, rfl⟩ := parse_pure_iff.mp h3
      obtain ⟨⟨⟨e0, e1⟩, e2⟩, e3⟩ := word30_fields.mp (rfl : b0.extractLsb' 0 6 ++ b1 ++ b2 ++ b3 = _)
      rw [Disp.encode, e0, e1, e2, e3, ← disp4_fields.mpr ⟨⟨h7, h6⟩, rfl⟩]
      rfl
  · rintro rfl
    cases d with
    | d1 v =>
      obtain ⟨h7, h0⟩ := disp1_fields.mp (rfl : 0#1 ++ v = _)
      refine nextByte_bind_iff.mpr ⟨_, _, rfl, ?_⟩
      rw [if_pos h7, h0]
      rfl
    | d2 v =>
      obtain ⟨⟨h7, h6⟩, h0⟩ := disp2_fields.mp (rfl : 0b10#2 ++ v.extractLsb' 8 6 = _)
      refine nextByte_bind_iff.mpr ⟨_, _, rfl, ?_⟩
      rw [if_neg h7]
      refine nextByte_bind_iff.mpr ⟨_, _, rfl, ?_⟩
      rw [if_pos h6, h0, ← word14_fields.mpr ⟨rfl, rfl⟩]
      rfl
    | d4 v =>
      obtain ⟨⟨h7, h6⟩, h0⟩ := disp4_fields.mp (rfl : 0b11#2 ++ v.extractLsb' 24 6 = _)
      refine nextByte_bind_iff.mpr ⟨_, _, rfl, ?_⟩
      rw [if_neg h7]
      refine nextByte_bind_iff.mpr ⟨_, _, rfl, ?_⟩
      rw [if_neg h6]
      refine nextByte_bind_iff.mpr ⟨_, _, rfl, nextByte_bind_iff.mpr ⟨_, _, rfl, ?_⟩⟩
      rw [h0, ← word30_fields.mpr ⟨⟨⟨rfl, rfl⟩, rfl⟩, rfl⟩]
      rfl

/-! ### Immediate values -/

theorem byte_appended_toNat {acc : QWord} (b : Byte) (h : acc.toNat < 2 ^ 56) :
    (acc <<< 8 ||| b.setWidth 64).toNat = acc.toNat * 256 + b.toNat := by
  rw [BitVec.toNat_or, BitVec.toNat_shiftLeft, BitVec.toNat_setWidth_of_le (by decide), Nat.mod_eq_of_lt
    (by rw [Nat.shiftLeft_eq]; omega), ← Nat.shiftLeft_add_eq_or_of_lt b.isLt, Nat.shiftLeft_eq]

theorem byte_appended_iff {x acc : QWord} {b : Byte} (h : acc.toNat < 2 ^ 56) :
    acc <<< 8 ||| b.setWidth 64 = x ↔ x >>> 8 = acc ∧ x.extractLsb' 0 8 = b := by
  have hb := b.isLt
  rw [BitVec.toNat_eq, BitVec.toNat_eq, BitVec.toNat_eq, byte_appended_toNat b h, BitVec.toNat_ushiftRight,
    BitVec.extractLsb'_toNat, Nat.shiftRight_eq_div_pow, Nat.shiftRight_zero]
  omega

/-- A value in the making, of which the `n` last bytes are still to be read, becomes any value that begins with it. -/
theorem parseImm_acc_iff {n : Nat} {acc v : QWord} (hacc : acc.toNat < 2 ^ (64 - 8 * n)) (hn : n ≤ 8) :
    parseImm n acc bs = .ok (v, rest) ↔ v >>> (8 * n) = acc ∧ bs = immBytes n v ++ rest := by
  induction n generalizing acc bs with
  | zero =>
    rw [parseImm, parse_pure_iff, immBytes, List.nil_append, Nat.mul_zero, BitVec.ushiftRight_zero, eq_comm]
  | succ n ih =>
    have small : acc.toNat < 2 ^ 56 := hacc.trans_le (Nat.pow_le_pow_right (by decide) (by omega))
    have e : v >>> (8 * (n + 1)) = v >>> (8 * n) >>> 8 := by rw [Nat.mul_succ, BitVec.shiftRight_add]
    have low : (v >>> (8 * n)).extractLsb' 0 8 = v.extractLsb' (8 * n) 8 := by
      rw [← BitVec.setWidth_ushiftRight_eq_extractLsb, ← BitVec.setWidth_ushiftRight_eq_extractLsb,
        BitVec.ushiftRight_zero]
    have next (b : Byte) : (acc <<< 8 ||| b.setWidth 64).toNat < 2 ^ (64 - 8 * n) := by
      have hb := b.isLt
      have width : 64 - 8 * n = 64 - 8 * (n + 1) + 8 := by omega
      rw [byte_appended_toNat b small, width, pow_add]
      omega
    rw [parseImm, nextByte_bind_iff, immBytes, e]
    constructor
    · rintro ⟨b, mid, rfl, h⟩
      obtain ⟨hv, rfl⟩ := (ih (next b) (by omega)).mp h
      obtain ⟨hacc, rfl⟩ := (byte_appended_iff small).mp hv.symm
      exact ⟨hacc, by rw [low]; rfl⟩
    · rintro ⟨hv, rfl⟩
      exact ⟨_, _, rfl, (ih (next _) (by omega)).mpr ⟨((byte_appended_iff small).mpr ⟨hv, low⟩).symm, rfl⟩⟩

theorem parseImm_iff {n : Nat} {v : QWord} (hn : n ≤ 8) :
    parseImm n 0 bs = .ok (v, rest) ↔ v.toNat < 2 ^ (8 * n) ∧ bs = immBytes n v ++ rest := by
  have e : v >>> (8 * n) = 0 ↔ v.toNat < 2 ^ (8 * n) := by
    rw [BitVec.toNat_eq, BitVec.toNat_ushiftRight, Nat.shiftRight_eq_div_pow]
    exact Nat.div_eq_zero_iff_lt (Nat.two_pow_pos _)
  rw [parseImm_acc_iff (Nat.two_pow_pos _) hn, e]

/-! ### Addressing modes -/

/-- The codes that `parseBase` reads as no mode (U2). -/
def isIllegal (c : BitVec 5) : Bool := c == 0b10011 || c == 0b10100 || c.extractLsb' 2 3 == 0b111

/-- A base mode that `parseBase` can answer. -/
def Base.Canonical : Base → Prop
  | .illegal c => isIllegal c = true
  | _ => True

theorem regCode_regOf (v : BitVec 3) : regCode (regOf v) = v := BitVec.eq_of_toNat_eq (Nat.mod_eq_of_lt v.isLt)

theorem regOf_regCode (r : Reg) : regOf (regCode r) = r := Fin.ext (Nat.mod_eq_of_lt r.isLt)

theorem code_fields {c : BitVec 5} {x : BitVec 2} {y : BitVec 3} :
    c = x ++ y ↔ c.extractLsb' 3 2 = x ∧ c.extractLsb' 0 3 = y := fields_whole (fields_cons 2 3 Iff.rfl)


theorem parse_one_disp_iff {f : Disp → α} {y : α} :
    (f <$> parseDisp) bs = .ok (y, rest) ↔ ∃ d, f d = y ∧ bs = d.encode ++ rest := by
  simp only [parse_map_iff, parseDisp_iff, and_comm]

theorem parse_two_disp_iff {f : Disp → Disp → α} {y : α} :
    (f <$> parseDisp <*> parseDisp) bs = .ok (y, rest) ↔ ∃ d e, f d e = y ∧ bs = d.encode ++ e.encode ++ rest := by
  simp only [parse_map₂_iff, parseDisp_iff, List.append_assoc]
  exact ⟨fun ⟨d, _, e, h, h', hf⟩ => ⟨d, e, hf, h' ▸ h⟩, fun ⟨d, e, hf, h⟩ => ⟨d, _, e, h, rfl, hf⟩⟩

/-- What a parser answers meets a condition and is written as the bytes it has taken. -/
structure Writes (p : Parse α) (ok : α → Prop) (enc : α → List Byte) : Prop where
  run : ∀ {bs x rest}, p bs = .ok (x, rest) → ok x ∧ bs = enc x ++ rest

theorem parseBase_writes (c : BitVec 5) :
    Writes (parseBase c) (fun m => m.code = c ∧ m.Canonical) Base.extension := by
  have fixed {m : Base} (hc : m.code = c) (hm : m.Canonical) (he : m.extension = []) :
      Writes (pure m) (fun m => m.code = c ∧ m.Canonical) Base.extension := by
    refine ⟨fun h => ?_⟩
    obtain ⟨rfl, rfl⟩ := parse_pure_iff.mp h
    exact ⟨⟨hc, hm⟩, by rw [he]; rfl⟩
  have one {f : Disp → Base} (hf : ∀ d, (f d).code = c ∧ (f d).Canonical ∧ (f d).extension = d.encode) :
      Writes (f <$> parseDisp) (fun m => m.code = c ∧ m.Canonical) Base.extension := by
    refine ⟨fun h => ?_⟩
    obtain ⟨d, rfl, rfl⟩ := parse_one_disp_iff.mp h
    obtain ⟨hc, hm, he⟩ := hf d
    exact ⟨⟨hc, hm⟩, by rw [he]⟩
  have two {f : Disp → Disp → Base}
      (hf : ∀ d e, (f d e).code = c ∧ (f d e).Canonical ∧ (f d e).extension = d.encode ++ e.encode) :
      Writes (f <$> parseDisp <*> parseDisp) (fun m => m.code = c ∧ m.Canonical) Base.extension := by
    refine ⟨fun h => ?_⟩
    obtain ⟨d, e, rfl, rfl⟩ := parse_two_disp_iff.mp h
    obtain ⟨hc, hm, he⟩ := hf d e
    exact ⟨⟨hc, hm⟩, by rw [he]⟩
  have register {x : BitVec 2} (h : c.extractLsb' 3 2 = x) : x ++ regCode (regOf (c.extractLsb' 0 3)) = c :=
    (code_fields.mpr ⟨h, (regCode_regOf _).symm⟩).symm
  unfold parseBase
  split
  case h_1 h => exact fixed (register h) trivial rfl
  case h_2 h => exact one fun d => ⟨register h, trivial, rfl⟩
  case h_3 h0 h1 =>
    split
    case h_1 | h_2 | h_3 | h_5 => exact two fun _ _ => ⟨rfl, trivial, rfl⟩
    case h_6 => exact fixed rfl trivial rfl
    case h_11 =>
      refine fixed rfl ?_ rfl
      show isIllegal c = true
      clear fixed one two register
      revert c
      decide
    all_goals exact one fun _ => ⟨rfl, trivial, rfl⟩

theorem parseBase_reg (r : Reg) : parseBase (Base.reg r).code = pure (.reg r) := by
  obtain ⟨h, h'⟩ := code_fields.mp (rfl : 0b00#2 ++ regCode r = _)
  unfold parseBase Base.code
  rw [h, h', regOf_regCode]
  rfl

theorem parseBase_regRel (r : Reg) (d : Disp) : parseBase (Base.regRel r d).code = .regRel r <$> parseDisp := by
  obtain ⟨h, h'⟩ := code_fields.mp (rfl : 0b01#2 ++ regCode r = _)
  unfold parseBase Base.code
  rw [h, h', regOf_regCode]
  rfl

theorem parseBase_illegal : ∀ c, isIllegal c = true → parseBase c = pure (.illegal c) := by
  intro c h
  obtain rfl | rfl | rfl | rfl | rfl | rfl : c = 0b10011 ∨ c = 0b10100 ∨ c = 0b11100 ∨ c = 0b11101 ∨ c = 0b11110 ∨
      c = 0b11111 := by
    revert c
    decide
  all_goals rfl

theorem parseBase_iff {c : BitVec 5} {m : Base} :
    parseBase c bs = .ok (m, rest) ↔ (m.code = c ∧ m.Canonical) ∧ bs = m.extension ++ rest := by
  refine ⟨(parseBase_writes c).run, ?_⟩
  have fixed {m : Base} (c : BitVec 5) (hc : m.code = c) (hp : parseBase c = pure m) (he : m.extension = []) :
      parseBase m.code (m.extension ++ rest) = .ok (m, rest) := by
    rw [hc, hp, he]
    exact parse_pure_iff.mpr ⟨rfl, rfl⟩
  have one {f : Disp → Base} {d : Disp} (c : BitVec 5) (hc : (f d).code = c) (hp : parseBase c = f <$> parseDisp)
      (he : (f d).extension = d.encode) : parseBase (f d).code ((f d).extension ++ rest) = .ok (f d, rest) := by
    rw [hc, hp, he]
    exact parse_one_disp_iff.mpr ⟨d, rfl, rfl⟩
  have two {f : Disp → Disp → Base} {d e : Disp} (c : BitVec 5) (hc : (f d e).code = c)
      (hp : parseBase c = f <$> parseDisp <*> parseDisp) (he : (f d e).extension = d.encode ++ e.encode) :
      parseBase (f d e).code ((f d e).extension ++ rest) = .ok (f d e, rest) := by
    rw [hc, hp, he]
    exact parse_two_disp_iff.mpr ⟨d, e, rfl, rfl⟩
  rintro ⟨⟨rfl, hm⟩, rfl⟩
  cases m with
  | reg r => exact fixed _ rfl (parseBase_reg r) rfl
  | regRel r d => exact one _ rfl (parseBase_regRel r d) rfl
  | illegal c => exact fixed c rfl (parseBase_illegal c hm) rfl
  | tos => exact fixed 0b10111 rfl rfl rfl
  | frameRel d e => exact two (f := .frameRel) 0b10000 rfl rfl rfl
  | stackRel d e => exact two (f := .stackRel) 0b10001 rfl rfl rfl
  | staticRel d e => exact two (f := .staticRel) 0b10010 rfl rfl rfl
  | ext d e => exact two (f := .ext) 0b10110 rfl rfl rfl
  | abs d => exact one (f := .abs) 0b10101 rfl rfl rfl
  | frame d => exact one (f := .frame) 0b11000 rfl rfl rfl
  | stack d => exact one (f := .stack) 0b11001 rfl rfl rfl
  | static d => exact one (f := .static) 0b11010 rfl rfl rfl
  | program d => exact one (f := .program) 0b11011 rfl rfl rfl

/-! ### General operands -/

/-- The gen codes of a Scaled Index (R188). -/
def isScaled (c : BitVec 5) : Bool := c.extractLsb' 2 3 == 0b111

/-- An operand of `n` bytes that `parseGen` can answer for a code. -/
def Gen.Reads (n : Nat) (c : BitVec 5) (g : Gen) : Prop :=
  g.code = c ∧
    match g with
    | .base m => m.Canonical ∧ c ≠ 0b10100 ∧ isScaled c = false
    | .imm v => v.toNat < 2 ^ (8 * n)
    | .scaled _ _ m => m.Canonical

theorem parseIndex_iff {c : BitVec 5} {x : Option Byte} :
    parseIndex c bs = .ok (x, rest) ↔ x.isSome = isScaled c ∧ bs = x.toList ++ rest := by
  unfold parseIndex isScaled
  split
  case isTrue h =>
    rw [parse_map_iff, h]
    simp only [nextByte_iff]
    constructor
    · rintro ⟨b, rfl, rfl⟩
      exact ⟨rfl, rfl⟩
    · rintro ⟨hx, rfl⟩
      obtain ⟨b, rfl⟩ := Option.isSome_iff_exists.mp hx
      exact ⟨b, rfl, rfl⟩
  case isFalse h =>
    rw [parse_pure_iff, beq_false_of_ne h, Option.isSome_eq_false_iff, Option.isNone_iff_eq_none]
    constructor
    · rintro ⟨rfl, rfl⟩
      exact ⟨rfl, rfl⟩
    · rintro ⟨rfl, rfl⟩
      exact ⟨rfl, rfl⟩

theorem scale_fields {c : BitVec 5} {x : BitVec 3} {y : BitVec 2} :
    c = x ++ y ↔ c.extractLsb' 2 3 = x ∧ c.extractLsb' 0 2 = y := fields_whole (fields_cons 3 2 Iff.rfl)

theorem index_fields {b : Byte} {x : BitVec 5} {y : BitVec 3} :
    b = x ++ y ↔ b.extractLsb' 3 5 = x ∧ b.extractLsb' 0 3 = y := fields_whole (fields_cons 5 3 Iff.rfl)

theorem code_scaleOf : ∀ c : BitVec 2, (scaleOf c).code = c := by decide

theorem scaleOf_code (sc : Scale) : scaleOf sc.code = sc := by cases sc <;> rfl

theorem parseGen_scaled_iff {n : Nat} {c : BitVec 5} {x : Byte} {g : Gen} (hc : isScaled c = true) :
    parseGen n c (some x) bs = .ok (g, rest) ↔ g.Reads n c ∧ g.indexByte = [x] ∧ bs = g.extension n ++ rest := by
  have hc : c.extractLsb' 2 3 = 0b111 := beq_iff_eq.mp hc
  show ((Gen.scaled _ _) <$> parseBase _) bs = _ ↔ _
  rw [parse_map_iff]
  simp only [parseBase_iff]
  constructor
  · rintro ⟨m, ⟨⟨hm, canonical⟩, rfl⟩, rfl⟩
    refine ⟨⟨?_, canonical⟩, ?_, rfl⟩
    · rw [Gen.code, code_scaleOf]
      exact (scale_fields.mpr ⟨hc, rfl⟩).symm
    · rw [Gen.indexByte, regCode_regOf, hm, ← index_fields.mpr ⟨rfl, rfl⟩]
  · rintro ⟨⟨rfl, hg⟩, hx, rfl⟩
    cases g with
    | base m => cases hx
    | imm v => cases hx
    | scaled sc r m =>
      obtain ⟨h0, h1⟩ := index_fields.mp (List.singleton_injective hx).symm
      obtain ⟨-, h2⟩ := scale_fields.mp (rfl : (Gen.scaled sc r m).code = _)
      exact ⟨m, ⟨⟨h0.symm, hg⟩, rfl⟩, by rw [h1, h2, regOf_regCode, scaleOf_code]⟩

theorem isScaled_scaled (sc : Scale) (r : Reg) (m : Base) : isScaled (Gen.scaled sc r m).code = true :=
  beq_iff_eq.mpr (scale_fields.mp rfl).1

theorem parseGen_plain_iff {n : Nat} {c : BitVec 5} {g : Gen} (hn : n ≤ 8) (hc : isScaled c = false) :
    parseGen n c none bs = .ok (g, rest) ↔ g.Reads n c ∧ g.indexByte = [] ∧ bs = g.extension n ++ rest := by
  unfold parseGen
  split
  case isTrue h =>
    subst h
    rw [parse_map_iff]
    simp only [parseImm_iff hn]
    constructor
    · rintro ⟨v, ⟨hv, rfl⟩, rfl⟩
      exact ⟨⟨rfl, hv⟩, rfl, rfl⟩
    · rintro ⟨⟨e, hg⟩, hx, rfl⟩
      cases g with
      | base m => exact absurd rfl hg.2.1
      | imm v => exact ⟨v, ⟨hg, rfl⟩, rfl⟩
      | scaled sc r m => cases hx
  case isFalse h =>
    rw [parse_map_iff]
    simp only [parseBase_iff]
    constructor
    · rintro ⟨m, ⟨⟨hm, canonical⟩, rfl⟩, rfl⟩
      exact ⟨⟨hm, canonical, h, hc⟩, rfl, rfl⟩
    · rintro ⟨⟨e, hg⟩, hx, rfl⟩
      cases g with
      | base m => exact ⟨m, ⟨⟨e, hg.1⟩, rfl⟩, rfl⟩
      | imm v => exact absurd e.symm h
      | scaled sc r m => cases hx

theorem parseGen_iff {n : Nat} {c : BitVec 5} {x : Option Byte} {g : Gen} (hn : n ≤ 8) (hc : x.isSome = isScaled c) :
    parseGen n c x bs = .ok (g, rest) ↔ g.Reads n c ∧ g.indexByte = x.toList ∧ bs = g.extension n ++ rest := by
  cases x with
  | some x => exact parseGen_scaled_iff hc.symm
  | none => exact parseGen_plain_iff hn hc.symm

/-- The index byte that an operand has. -/
theorem Gen.Reads.index {n : Nat} {c : BitVec 5} {g : Gen} (h : g.Reads n c) :
    ∃ x : Option Byte, x.isSome = isScaled c ∧ g.indexByte = x.toList := by
  obtain ⟨rfl, hg⟩ := h
  cases g with
  | base m => exact ⟨none, hg.2.2.symm, rfl⟩
  | imm v => exact ⟨none, (by decide : false = isScaled 0b10100), rfl⟩
  | scaled sc r m => exact ⟨some _, (isScaled_scaled sc r m).symm, rfl⟩

theorem parseOne_iff {n : Nat} {c : BitVec 5} {g : Gen} (hn : n ≤ 8) :
    parseOne n c bs = .ok (g, rest) ↔ g.Reads n c ∧ bs = g.indexByte ++ g.extension n ++ rest := by
  unfold parseOne
  rw [parse_bind_iff]
  simp only [parseIndex_iff]
  constructor
  · rintro ⟨x, mid, ⟨hx, rfl⟩, h⟩
    obtain ⟨hg, e, rfl⟩ := (parseGen_iff hn hx).mp h
    exact ⟨hg, by rw [e, List.append_assoc]⟩
  · rintro ⟨hg, rfl⟩
    obtain ⟨x, hx, e⟩ := hg.index
    exact ⟨x, _, ⟨hx, by rw [e, List.append_assoc]⟩, (parseGen_iff hn hx).mpr ⟨hg, e, rfl⟩⟩

/-- Two operands, whatever follows them. -/
theorem parse_operands_iff {n1 n2 : Nat} {c1 c2 : BitVec 5} {k : Gen → Gen → Parse α} {y : α} (h1 : n1 ≤ 8)
    (h2 : n2 ≤ 8) :
    (do
      let x1 ← parseIndex c1
      let x2 ← parseIndex c2
      let g1 ← parseGen n1 c1 x1
      let g2 ← parseGen n2 c2 x2
      k g1 g2 : Parse α) bs = .ok (y, rest) ↔
    ∃ g1 g2 mid, (g1.Reads n1 c1 ∧ g2.Reads n2 c2) ∧
      bs = g1.indexByte ++ g2.indexByte ++ (g1.extension n1 ++ g2.extension n2) ++ mid ∧
        k g1 g2 mid = .ok (y, rest) := by
  rw [parse_bind_iff]
  simp only [parseIndex_iff, parse_bind_iff]
  constructor
  · rintro ⟨x1, _, ⟨hx1, rfl⟩, x2, _, ⟨hx2, rfl⟩, g1, _, p1, g2, mid, p2, h⟩
    obtain ⟨hg1, e1, rfl⟩ := (parseGen_iff h1 hx1).mp p1
    obtain ⟨hg2, e2, rfl⟩ := (parseGen_iff h2 hx2).mp p2
    exact ⟨g1, g2, mid, ⟨hg1, hg2⟩, by simp only [e1, e2, List.append_assoc], h⟩
  · rintro ⟨g1, g2, mid, ⟨hg1, hg2⟩, rfl, h⟩
    obtain ⟨x1, hx1, e1⟩ := hg1.index
    obtain ⟨x2, hx2, e2⟩ := hg2.index
    refine ⟨x1, _, ⟨hx1, ?_⟩, x2, _, ⟨hx2, rfl⟩, g1, _, (parseGen_iff h1 hx1).mpr ⟨hg1, e1, rfl⟩, g2, mid,
      (parseGen_iff h2 hx2).mpr ⟨hg2, e2, rfl⟩, h⟩
    simp only [e1, e2, List.append_assoc]

end Sys2Proof
end

section
/-! What follows the Basic Instruction (R189), and when a parser of the rest of an instruction loses no byte and does
not run out of bytes. -/

namespace Sys2Proof

variable {α β γ : Type} {bs rest : List Byte}

/-! ### Enough bytes -/

/-- `n` bytes are enough for a parser, and it takes no more. -/
structure Total (n : Nat) (p : Parse α) : Prop where
  run : ∀ bs : List Byte, n ≤ bs.length → ∃ x rest, p bs = .ok (x, rest) ∧ bs.length ≤ n + rest.length

theorem Total.mono {m n : Nat} {p : Parse α} (h : Total m p) (hmn : m ≤ n) : Total n p := by
  refine ⟨fun bs hbs => ?_⟩
  obtain ⟨x, rest, e, hl⟩ := h.run bs (hmn.trans hbs)
  exact ⟨x, rest, e, by omega⟩

theorem total_pure (n : Nat) (x : α) : Total n (pure x : Parse α) :=
  ⟨fun bs _ => ⟨x, bs, rfl, Nat.le_add_left _ _⟩⟩

theorem Total.bind {m n : Nat} {p : Parse α} {k : α → Parse β} (h : Total m p) (hk : ∀ x, Total n (k x)) :
    Total (m + n) (p >>= k) := by
  refine ⟨fun bs hbs => ?_⟩
  obtain ⟨x, mid, e, hl⟩ := h.run bs (by omega)
  obtain ⟨y, rest, e', hl'⟩ := (hk x).run mid (by omega)
  exact ⟨y, rest, parse_bind_iff.mpr ⟨x, mid, e, e'⟩, by omega⟩

theorem Total.map {n : Nat} {p : Parse α} (f : α → β) (h : Total n p) : Total n (f <$> p) := by
  refine ⟨fun bs hbs => ?_⟩
  obtain ⟨x, rest, e, hl⟩ := h.run bs hbs
  exact ⟨f x, rest, parse_map_iff.mpr ⟨x, e, rfl⟩, hl⟩

theorem Total.map₂ {m n : Nat} {p : Parse α} {p' : Parse β} (f : α → β → γ) (h : Total m p) (h' : Total n p') :
    Total (m + n) (f <$> p <*> p') := (h.map f).bind fun _ => h'.map _

theorem total_ite {c : Prop} [Decidable c] {n : Nat} {p p' : Parse α} (h : Total n p) (h' : Total n p') :
    Total n (if c then p else p') := by
  split
  · exact h
  · exact h'

theorem nextByte_total : Total 1 nextByte := by
  refine ⟨fun bs hbs => ?_⟩
  obtain ⟨b, rest, rfl⟩ := List.exists_cons_of_length_pos hbs
  exact ⟨b, rest, rfl, by rw [List.length_cons, Nat.add_comm]⟩

theorem parseDisp_total : Total 4 parseDisp :=
  nextByte_total.bind (n := 3) fun _ => total_ite (total_pure _ _) <|
    nextByte_total.bind (n := 2) fun _ => total_ite (total_pure _ _) <|
      nextByte_total.bind (n := 1) fun _ => nextByte_total.bind (n := 0) fun _ => total_pure _ _

theorem parseImm_total (n : Nat) (acc : QWord) : Total n (parseImm n acc) := by
  induction n generalizing acc with
  | zero => exact total_pure 0 acc
  | succ n ih =>
    exact (nextByte_total.bind fun _ => ih _).mono (Nat.add_comm 1 n).le

theorem parseIndex_total (c : BitVec 5) : Total 1 (parseIndex c) :=
  total_ite (nextByte_total.map _) (total_pure _ _)

theorem parseBase_total (c : BitVec 5) : Total 8 (parseBase c) := by
  have one (f : Disp → Base) : Total 8 (f <$> parseDisp) := (parseDisp_total.map f).mono (by decide)
  have two (f : Disp → Disp → Base) : Total 8 (f <$> parseDisp <*> parseDisp) := parseDisp_total.map₂ f parseDisp_total
  unfold parseBase
  split
  case h_1 => exact total_pure _ _
  case h_2 => exact one _
  case h_3 =>
    split
    case h_1 | h_2 | h_3 | h_5 => exact two _
    case h_6 | h_11 => exact total_pure _ _
    all_goals exact one _

theorem parseGen_total {n : Nat} (hn : n ≤ 8) (c : BitVec 5) (x : Option Byte) : Total 8 (parseGen n c x) := by
  cases x with
  | some x => exact (parseBase_total _).map _
  | none => exact total_ite (((parseImm_total n 0).map _).mono hn) ((parseBase_total _).map _)

theorem parseOne_total {n : Nat} (hn : n ≤ 8) (c : BitVec 5) : Total 9 (parseOne n c) :=
  (parseIndex_total c).bind fun x => parseGen_total hn c x

theorem operands_total {n1 n2 m : Nat} (h1 : n1 ≤ 8) (h2 : n2 ≤ 8) {c1 c2 : BitVec 5} {k : Gen → Gen → Parse α}
    (hk : ∀ g1 g2, Total m (k g1 g2)) :
    Total (18 + m) (do
      let x1 ← parseIndex c1
      let x2 ← parseIndex c2
      let g1 ← parseGen n1 c1 x1
      let g2 ← parseGen n2 c2 x2
      k g1 g2) :=
  ((parseIndex_total c1).bind fun x1 => (parseIndex_total c2).bind fun x2 =>
    (parseGen_total h1 c1 x1).bind fun g1 => (parseGen_total h2 c2 x2).bind fun g2 => hk g1 g2).mono (by omega)

/-! ### The bytes after the Basic Instruction -/

/-- The bytes of an instruction that follow its Basic Instruction (R189). -/
def Instr.tail (i : Instr) : List Byte :=
  i.operands.flatMap (fun o => o.gen.indexByte) ++ i.operands.flatMap (fun o => o.gen.extension o.bytes) ++
    i.immByte.toList ++ i.disp.toList.flatMap Disp.encode

theorem encode_eq (i : Instr) : encode i = i.basic ++ i.tail := by
  simp only [encode, Instr.tail, List.append_assoc]

/-- The bytes of two operands: the index bytes come first. -/
def twoBytes (n1 n2 : Nat) (g1 g2 : Gen) : List Byte :=
  g1.indexByte ++ g2.indexByte ++ (g1.extension n1 ++ g2.extension n2)

section Tail

variable {i : Instr} {o p : Operand} {d : Disp} {x : Byte}

theorem tail_fixed (ho : i.operands = []) (hm : i.immByte = none) (hd : i.disp = none) : i.tail = [] := by
  simp [Instr.tail, ho, hm, hd]

theorem tail_disp (ho : i.operands = []) (hm : i.immByte = none) (hd : i.disp = some d) : i.tail = d.encode := by
  simp [Instr.tail, ho, hm, hd]

theorem tail_imm (ho : i.operands = []) (hm : i.immByte = some x) (hd : i.disp = none) : i.tail = [x] := by
  simp [Instr.tail, ho, hm, hd]

theorem tail_imm_disp (ho : i.operands = []) (hm : i.immByte = some x) (hd : i.disp = some d) :
    i.tail = x :: d.encode := by
  simp [Instr.tail, ho, hm, hd]

theorem tail_one (ho : i.operands = [o]) (hm : i.immByte = none) (hd : i.disp = none) :
    i.tail = o.gen.indexByte ++ o.gen.extension o.bytes := by
  simp [Instr.tail, ho, hm, hd]

theorem tail_one_disp (ho : i.operands = [o]) (hm : i.immByte = none) (hd : i.disp = some d) :
    i.tail = o.gen.indexByte ++ o.gen.extension o.bytes ++ d.encode := by
  simp [Instr.tail, ho, hm, hd]

theorem tail_two (ho : i.operands = [o, p]) (hm : i.immByte = none) (hd : i.disp = none) :
    i.tail = twoBytes o.bytes p.bytes o.gen p.gen := by
  simp [Instr.tail, twoBytes, ho, hm, hd]

theorem tail_two_disp (ho : i.operands = [o, p]) (hm : i.immByte = none) (hd : i.disp = some d) :
    i.tail = twoBytes o.bytes p.bytes o.gen p.gen ++ d.encode := by
  simp [Instr.tail, twoBytes, ho, hm, hd]

theorem tail_two_imm (ho : i.operands = [o, p]) (hm : i.immByte = some x) (hd : i.disp = none) :
    i.tail = twoBytes o.bytes p.bytes o.gen p.gen ++ [x] := by
  simp [Instr.tail, twoBytes, ho, hm, hd]

end Tail

/-! ### What reads it -/

section Parsers

variable {i : Instr} {n n1 n2 : Nat} {c c1 c2 : BitVec 5}

theorem parseTwo_iff {k : Gen → Gen → Instr} (h1 : n1 ≤ 8) (h2 : n2 ≤ 8) :
    parseTwo n1 n2 c1 c2 k bs = .ok (i, rest) ↔
      ∃ g1 g2, (g1.Reads n1 c1 ∧ g2.Reads n2 c2) ∧ k g1 g2 = i ∧ bs = twoBytes n1 n2 g1 g2 ++ rest := by
  unfold parseTwo
  rw [parse_operands_iff h1 h2]
  simp only [parse_pure_iff]
  constructor
  · rintro ⟨g1, g2, _, hg, h, rfl, rfl⟩
    exact ⟨g1, g2, hg, rfl, h⟩
  · rintro ⟨g1, g2, hg, rfl, h⟩
    exact ⟨g1, g2, rest, hg, h, rfl, rfl⟩

theorem parseTwoDisp_iff {k : Gen → Gen → Disp → Instr} (h1 : n1 ≤ 8) (h2 : n2 ≤ 8) :
    parseTwoDisp n1 n2 c1 c2 k bs = .ok (i, rest) ↔
      ∃ g1 g2 d, (g1.Reads n1 c1 ∧ g2.Reads n2 c2) ∧ k g1 g2 d = i ∧
        bs = twoBytes n1 n2 g1 g2 ++ d.encode ++ rest := by
  unfold parseTwoDisp
  rw [parse_operands_iff h1 h2]
  simp only [parse_one_disp_iff]
  constructor
  · rintro ⟨g1, g2, _, hg, h, d, rfl, rfl⟩
    exact ⟨g1, g2, d, hg, rfl, by rw [h, twoBytes, List.append_assoc _ d.encode]⟩
  · rintro ⟨g1, g2, d, hg, rfl, h⟩
    exact ⟨g1, g2, _, hg, by rw [h, twoBytes, List.append_assoc _ d.encode], d, rfl, rfl⟩

theorem imm_fields {b : Byte} {x : BitVec 3} {y : BitVec 5} :
    b = x ++ y ↔ b.extractLsb' 5 3 = x ∧ b.extractLsb' 0 5 = y := fields_whole (fields_cons 3 5 Iff.rfl)

theorem withImmByte_iff {k : Gen → Gen → BitVec 3 → BitVec 5 → Instr} (h1 : n1 ≤ 8) (h2 : n2 ≤ 8) :
    withImmByte k n1 n2 c1 c2 bs = .ok (i, rest) ↔
      ∃ g1 g2 x y, (g1.Reads n1 c1 ∧ g2.Reads n2 c2) ∧ k g1 g2 x y = i ∧
        bs = twoBytes n1 n2 g1 g2 ++ [x ++ y] ++ rest := by
  unfold withImmByte
  rw [parse_operands_iff h1 h2]
  simp only [nextByte_bind_iff, parse_pure_iff]
  constructor
  · rintro ⟨g1, g2, _, hg, h, b, _, rfl, rfl, rfl⟩
    exact ⟨g1, g2, _, _, hg, rfl, by rw [h, ← imm_fields.mpr ⟨rfl, rfl⟩, twoBytes, List.append_cons]⟩
  · rintro ⟨g1, g2, x, y, hg, rfl, h⟩
    obtain ⟨hx, hy⟩ := imm_fields.mp (rfl : x ++ y = _)
    exact ⟨g1, g2, _, hg, by rw [h, twoBytes, List.append_assoc _ [_], List.singleton_append], _, rest, rfl,
      by rw [hx, hy], rfl⟩

/-- A parser of the rest of an instruction, with `b` for its Basic Instruction: it loses no byte, and 22 bytes are
enough for it. -/
structure Row (b : List Byte) (p : Parse Instr) : Prop where
  reads : ∀ {bs i rest}, p bs = .ok (i, rest) → i.basic = b ∧ bs = i.tail ++ rest
  total : Total 22 p

variable {b : List Byte}

theorem row_fixed (hb : i.basic = b) (ht : i.tail = []) : Row b (pure i) where
  reads h := by
    obtain ⟨rfl, rfl⟩ := parse_pure_iff.mp h
    exact ⟨hb, by rw [ht]; rfl⟩
  total := total_pure _ _

theorem row_disp {k : Disp → Instr} (hb : ∀ d, (k d).basic = b) (ht : ∀ d, (k d).tail = d.encode) :
    Row b (k <$> parseDisp) where
  reads h := by
    obtain ⟨d, rfl, rfl⟩ := parse_one_disp_iff.mp h
    exact ⟨hb d, by rw [ht]⟩
  total := (parseDisp_total.map k).mono (by decide)

theorem row_imm {k : Byte → Instr} (hb : ∀ x, (k x).basic = b) (ht : ∀ x, (k x).tail = [x]) :
    Row b (k <$> nextByte) where
  reads h := by
    obtain ⟨x, hx, rfl⟩ := parse_map_iff.mp h
    exact ⟨hb x, nextByte_iff.mp hx ▸ by rw [ht]; rfl⟩
  total := (nextByte_total.map k).mono (by decide)

theorem row_imm_disp {k : Byte → Disp → Instr} (hb : ∀ x d, (k x d).basic = b)
    (ht : ∀ x d, (k x d).tail = x :: d.encode) : Row b (k <$> nextByte <*> parseDisp) where
  reads h := by
    obtain ⟨x, _, d, hx, hd, rfl⟩ := parse_map₂_iff.mp h
    exact ⟨hb x d, by rw [ht, nextByte_iff.mp hx, parseDisp_iff.mp hd]; rfl⟩
  total := (nextByte_total.map₂ k parseDisp_total).mono (by decide)

theorem row_one {k : Gen → Instr} (hn : n ≤ 8) (hb : ∀ g : Gen, g.code = c → (k g).basic = b)
    (ht : ∀ g, (k g).tail = g.indexByte ++ g.extension n) : Row b (k <$> parseOne n c) where
  reads h := by
    obtain ⟨g, one, rfl⟩ := parse_map_iff.mp h
    obtain ⟨hg, rfl⟩ := (parseOne_iff hn).mp one
    exact ⟨hb g hg.1, by rw [ht]⟩
  total := ((parseOne_total hn c).map k).mono (by decide)

theorem parseOneDisp_iff {k : Gen → Disp → Instr} (hn : n ≤ 8) :
    (parseOne n c >>= fun g => k g <$> parseDisp) bs = .ok (i, rest) ↔
      ∃ g d, g.Reads n c ∧ k g d = i ∧ bs = g.indexByte ++ g.extension n ++ d.encode ++ rest := by
  rw [parse_bind_iff]
  simp only [parseOne_iff hn, parse_one_disp_iff]
  constructor
  · rintro ⟨g, _, ⟨hg, rfl⟩, d, rfl, rfl⟩
    exact ⟨g, d, hg, rfl, (List.append_assoc _ d.encode rest).symm⟩
  · rintro ⟨g, d, hg, rfl, rfl⟩
    exact ⟨g, _, ⟨hg, List.append_assoc _ d.encode rest⟩, d, rfl, rfl⟩

theorem row_one_disp {k : Gen → Disp → Instr} (hn : n ≤ 8) (hb : ∀ (g : Gen) (d : Disp), g.code = c → (k g d).basic = b)
    (ht : ∀ g d, (k g d).tail = g.indexByte ++ g.extension n ++ d.encode) :
    Row b (parseOne n c >>= fun g => k g <$> parseDisp) where
  reads h := by
    obtain ⟨g, d, hg, rfl, rfl⟩ := (parseOneDisp_iff hn).mp h
    exact ⟨hb g d hg.1, by rw [ht]⟩
  total := ((parseOne_total hn c).bind fun _ => parseDisp_total.map _).mono (by decide)

theorem row_two {k : Gen → Gen → Instr} (h1 : n1 ≤ 8) (h2 : n2 ≤ 8)
    (hb : ∀ g1 g2 : Gen, g1.code = c1 → g2.code = c2 → (k g1 g2).basic = b)
    (ht : ∀ g1 g2, (k g1 g2).tail = twoBytes n1 n2 g1 g2) : Row b (parseTwo n1 n2 c1 c2 k) where
  reads h := by
    obtain ⟨g1, g2, ⟨hg1, hg2⟩, rfl, rfl⟩ := (parseTwo_iff h1 h2).mp h
    exact ⟨hb g1 g2 hg1.1 hg2.1, by rw [ht]⟩
  total := (operands_total h1 h2 fun _ _ => total_pure 0 _).mono (by decide)

theorem row_two_disp {k : Gen → Gen → Disp → Instr} (h1 : n1 ≤ 8) (h2 : n2 ≤ 8)
    (hb : ∀ (g1 g2 : Gen) (d : Disp), g1.code = c1 → g2.code = c2 → (k g1 g2 d).basic = b)
    (ht : ∀ g1 g2 d, (k g1 g2 d).tail = twoBytes n1 n2 g1 g2 ++ d.encode) : Row b (parseTwoDisp n1 n2 c1 c2 k) where
  reads h := by
    obtain ⟨g1, g2, d, ⟨hg1, hg2⟩, rfl, rfl⟩ := (parseTwoDisp_iff h1 h2).mp h
    exact ⟨hb g1 g2 d hg1.1 hg2.1, by rw [ht]⟩
  total := operands_total h1 h2 fun _ _ => parseDisp_total.map _

theorem row_two_imm {k : Gen → Gen → BitVec 3 → BitVec 5 → Instr} (h1 : n1 ≤ 8) (h2 : n2 ≤ 8)
    (hb : ∀ (g1 g2 : Gen) x y, g1.code = c1 → g2.code = c2 → (k g1 g2 x y).basic = b)
    (ht : ∀ g1 g2 x y, (k g1 g2 x y).tail = twoBytes n1 n2 g1 g2 ++ [x ++ y]) : Row b (withImmByte k n1 n2 c1 c2) where
  reads h := by
    obtain ⟨g1, g2, x, y, ⟨hg1, hg2⟩, rfl, rfl⟩ := (withImmByte_iff h1 h2).mp h
    exact ⟨hb g1 g2 x y hg1.1 hg2.1, by rw [ht]⟩
  total := (operands_total h1 h2 fun _ _ => nextByte_total.bind fun _ => total_pure 0 _).mono (by decide)

theorem row_ite {q : Prop} [Decidable q] {p p' : Parse Instr} (h : q → Row b p) (h' : ¬q → Row b p') :
    Row b (if q then p else p') := by
  split
  · exact h ‹_›
  · exact h' ‹_›

end Parsers

end Sys2Proof
end

section
/-! The formats: their words as fields (R126 to R137), and that each parser of a format loses no byte and is total. -/

namespace Sys2Proof

/-! ### The words of the formats -/

section Fields

variable {w : Word} {x : BitVec 24} {c c1 c2 : BitVec 5} {i : BitVec 2} {first : Byte}

theorem f2_fields {op : BitVec 3} {short : BitVec 4} {m : BitVec 2} : w = c ++ short ++ op ++ m ++ i ↔
    (((w.extractLsb' 11 5 = c ∧ w.extractLsb' 7 4 = short) ∧ w.extractLsb' 4 3 = op) ∧ w.extractLsb' 2 2 = m) ∧
      w.extractLsb' 0 2 = i :=
  fields_whole <| fields_cons 14 2 <| fields_cons 12 2 <| fields_cons 9 3 <| fields_cons 5 4 Iff.rfl

theorem f3_fields {op : BitVec 4} {m : BitVec 5} : w = c ++ op ++ m ++ i ↔
    ((w.extractLsb' 11 5 = c ∧ w.extractLsb' 7 4 = op) ∧ w.extractLsb' 2 5 = m) ∧ w.extractLsb' 0 2 = i :=
  fields_whole <| fields_cons 14 2 <| fields_cons 9 5 <| fields_cons 5 4 Iff.rfl

theorem f4_fields {op : BitVec 4} : w = c1 ++ c2 ++ op ++ i ↔
    ((w.extractLsb' 11 5 = c1 ∧ w.extractLsb' 6 5 = c2) ∧ w.extractLsb' 2 4 = op) ∧ w.extractLsb' 0 2 = i :=
  fields_whole <| fields_cons 14 2 <| fields_cons 10 4 <| fields_cons 5 5 Iff.rfl

/-- The fields of Formats 5 and 14. -/
theorem f5_fields {op short : BitVec 4} {low : BitVec 1} : x = c ++ short ++ low ++ op ++ i ++ first ↔
    ((((x.extractLsb' 19 5 = c ∧ x.extractLsb' 15 4 = short) ∧ x.extractLsb' 14 1 = low) ∧ x.extractLsb' 10 4 = op) ∧
      x.extractLsb' 8 2 = i) ∧ x.extractLsb' 0 8 = first :=
  fields_whole <| fields_cons 16 8 <| fields_cons 14 2 <| fields_cons 10 4 <| fields_cons 9 1 <| fields_cons 5 4 Iff.rfl

theorem f67_fields {op : BitVec 4} : x = c1 ++ c2 ++ op ++ i ++ first ↔
    (((x.extractLsb' 19 5 = c1 ∧ x.extractLsb' 14 5 = c2) ∧ x.extractLsb' 10 4 = op) ∧ x.extractLsb' 8 2 = i) ∧
      x.extractLsb' 0 8 = first :=
  fields_whole <| fields_cons 16 8 <| fields_cons 14 2 <| fields_cons 10 4 <| fields_cons 5 5 Iff.rfl

theorem f8_fields {reg : BitVec 3} {high : BitVec 1} {low : BitVec 2} {m : BitVec 6} :
    x = c1 ++ c2 ++ reg ++ high ++ i ++ low ++ m ↔
      (((((x.extractLsb' 19 5 = c1 ∧ x.extractLsb' 14 5 = c2) ∧ x.extractLsb' 11 3 = reg) ∧ x.extractLsb' 10 1 = high) ∧
        x.extractLsb' 8 2 = i) ∧ x.extractLsb' 6 2 = low) ∧ x.extractLsb' 0 6 = m :=
  fields_whole <| fields_cons 18 6 <| fields_cons 16 2 <| fields_cons 14 2 <| fields_cons 13 1 <| fields_cons 10 3 <|
    fields_cons 5 5 Iff.rfl

theorem f9_fields {op : BitVec 3} {f : BitVec 1} : x = c1 ++ c2 ++ op ++ f ++ i ++ first ↔
    ((((x.extractLsb' 19 5 = c1 ∧ x.extractLsb' 14 5 = c2) ∧ x.extractLsb' 11 3 = op) ∧ x.extractLsb' 10 1 = f) ∧
      x.extractLsb' 8 2 = i) ∧ x.extractLsb' 0 8 = first :=
  fields_whole <| fields_cons 16 8 <| fields_cons 14 2 <| fields_cons 13 1 <| fields_cons 10 3 <|
    fields_cons 5 5 Iff.rfl

theorem f11_fields {op : BitVec 4} {b f : BitVec 1} : x = c1 ++ c2 ++ op ++ b ++ f ++ first ↔
    ((((x.extractLsb' 19 5 = c1 ∧ x.extractLsb' 14 5 = c2) ∧ x.extractLsb' 10 4 = op) ∧ x.extractLsb' 9 1 = b) ∧
      x.extractLsb' 8 1 = f) ∧ x.extractLsb' 0 8 = first :=
  fields_whole <| fields_cons 16 8 <| fields_cons 15 1 <| fields_cons 14 1 <| fields_cons 10 4 <|
    fields_cons 5 5 Iff.rfl

end Fields

/-! ### Lengths and options -/

theorem len_code {i : BitVec 2} (h : i ≠ 0b10) : (lenOf i).code = i := by
  revert i
  decide

theorem flen_code : ∀ f : BitVec 1, (flenOf f).code = f := by decide

theorem opts_code : ∀ o : BitVec 3, (strOptsOf o).code = o := by decide

section Rows

variable {w : Word} {x : BitVec 24} {l : Len} {g g1 g2 : Gen}

/-! ### Formats 0 and 1 -/

theorem parseF0_row (cond : BitVec 4) : Row [f0 cond] (parseF0 cond) := by
  unfold parseF0
  rw [bind_pure_comp]
  refine row_disp (fun d => ?_) fun d => ?_
  · split
    case' h_16 =>
      obtain rfl : cond = 0b1111 := by
        revert cond
        decide
    all_goals rfl
  · split
    all_goals exact tail_disp rfl rfl rfl

theorem parseF1_row (op : BitVec 4) : Row [f1 op] (parseF1 op) := by
  unfold parseF1
  split
  case h_1 | h_2 | h_3 | h_4 | h_5 => exact row_disp (fun _ => rfl) fun _ => tail_disp rfl rfl rfl
  case h_7 | h_8 | h_10 => exact row_imm (fun _ => rfl) fun _ => tail_imm rfl rfl rfl
  case h_9 => exact row_imm_disp (fun _ _ => rfl) fun _ _ => tail_imm_disp rfl rfl rfl
  case' h_16 =>
    obtain rfl : op = 0b1111 := by
      revert op
      decide
  all_goals exact row_fixed rfl (tail_fixed rfl rfl rfl)

/-! ### Formats 2 to 4 -/

theorem f2_eq {op : BitVec 3} {short : BitVec 4} (hs : w.extractLsb' 7 4 = short) (ho : w.extractLsb' 4 3 = op)
    (hm : w.extractLsb' 2 2 = 0b11) (hl : l.code = w.extractLsb' 0 2) (e : g.code = w.extractLsb' 11 5) :
    f2 op l short g = le16 w := congrArg le16 (f2_fields.mpr ⟨⟨⟨⟨e.symm, hs⟩, ho⟩, hm⟩, hl.symm⟩).symm

theorem scond_basic (l : Len) (cond : BitVec 4) (g : Gen) : (scond l cond g).basic = f2 3 l cond g := by
  unfold scond
  split
  case' h_16 =>
    obtain rfl : cond = 0b1111 := by
      revert cond
      decide
  all_goals
    cases l
    all_goals rfl

theorem scond_tail (l : Len) (cond : BitVec 4) (g : Gen) :
    (scond l cond g).tail = g.indexByte ++ g.extension l.bytes := by
  unfold scond
  split
  all_goals
    cases l
    all_goals exact (tail_one rfl rfl rfl).trans rfl

theorem parseF2_row (h : w.extractLsb' 0 2 ≠ 0b10) (hm : w.extractLsb' 2 2 = 0b11) (ho : w.extractLsb' 4 3 ≠ 0b111) :
    Row (le16 w) (parseF2 w) := by
  have hl := len_code h
  unfold parseF2
  dsimp only
  generalize lenOf _ = l at hl ⊢
  generalize hs : w.extractLsb' 7 4 = short
  generalize e : w.extractLsb' 4 3 = op at ho ⊢
  have one {op : BitVec 3} (e : w.extractLsb' 4 3 = op) (k : Gen → Instr) (hb : ∀ g, (k g).basic = f2 op l short g)
      (ht : ∀ g, (k g).tail = g.indexByte ++ g.extension l.bytes) :
      Row (le16 w) (parseOne l.bytes (w.extractLsb' 11 5) >>= fun g => pure (k g)) := by
    rw [bind_pure_comp]
    exact row_one (by cases l <;> decide) (fun g hg => (hb g).trans (f2_eq hs e hm hl hg)) ht
  obtain rfl | rfl | rfl | rfl | rfl | rfl | rfl : op = 0 ∨ op = 1 ∨ op = 2 ∨ op = 5 ∨ op = 6 ∨ op = 3 ∨ op = 4 := by
    clear e
    revert op
    decide
  case inr.inr.inr.inr.inr.inl => exact one e _ (scond_basic l short) (scond_tail l short)
  case inr.inr.inr.inr.inr.inr =>
    cases l
    all_goals exact row_one_disp (by decide) (fun _ _ => f2_eq hs e hm hl) fun _ _ =>
      (tail_one_disp rfl rfl rfl).trans rfl
  all_goals
    cases l
    all_goals exact one e _ (fun _ => rfl) fun _ => (tail_one rfl rfl rfl).trans rfl

theorem f3_eq {op : BitVec 4} (ho : w.extractLsb' 7 4 = op) (hm : w.extractLsb' 2 5 = 0b11111)
    (hl : l.code = w.extractLsb' 0 2) (e : g.code = w.extractLsb' 11 5) : f3 op l g = le16 w :=
  congrArg le16 (f3_fields.mpr ⟨⟨⟨e.symm, ho⟩, hm⟩, hl.symm⟩).symm

theorem parseF3_row (h : w.extractLsb' 0 2 ≠ 0b10) (hm : w.extractLsb' 2 5 = 0b11111) : Row (le16 w) (parseF3 w) := by
  have hl := len_code h
  have raw {i : Instr} (hb : i.basic = le16 w) (ho : i.operands = []) (hi : i.immByte = none) (hd : i.disp = none) :
      Row (le16 w) (pure i) := row_fixed hb (tail_fixed ho hi hd)
  unfold parseF3
  dsimp only
  generalize lenOf _ = l at hl ⊢
  generalize ho : w.extractLsb' 7 4 = op
  split
  case h_1 | h_3 | h_7 =>
    cases l
    case d => exact row_one (by decide) (fun _ => f3_eq ho hm hl) fun _ => (tail_one rfl rfl rfl).trans rfl
    all_goals exact raw rfl rfl rfl rfl
  case h_2 | h_4 =>
    cases l
    case d => exact raw rfl rfl rfl rfl
    all_goals exact row_one (by decide) (fun _ => f3_eq ho hm hl) fun _ => (tail_one rfl rfl rfl).trans rfl
  case h_6 | h_8 =>
    cases l
    all_goals exact row_one (by decide) (fun _ => f3_eq ho hm hl) fun _ => (tail_one rfl rfl rfl).trans rfl
  all_goals
    cases l
    all_goals exact raw rfl rfl rfl rfl

theorem f4_eq {op : BitVec 4} (ho : w.extractLsb' 2 4 = op) (hl : l.code = w.extractLsb' 0 2)
    (e1 : g1.code = w.extractLsb' 11 5) (e2 : g2.code = w.extractLsb' 6 5) : f4 op l g1 g2 = le16 w :=
  congrArg le16 (f4_fields.mpr ⟨⟨⟨e1.symm, e2.symm⟩, ho⟩, hl.symm⟩).symm

theorem addrOrLxpd_basic (g1 g2 : Gen) : (addrOrLxpd g1 g2).basic = f4 9 .d g1 g2 := by
  unfold addrOrLxpd
  split
  all_goals rfl

theorem addrOrLxpd_tail (g1 g2 : Gen) : (addrOrLxpd g1 g2).tail = twoBytes 0 4 g1 g2 := by
  unfold addrOrLxpd
  split
  all_goals exact (tail_two rfl rfl rfl).trans rfl

theorem extract_extract {n : Nat} (v : BitVec n) (a k b m : Nat) (h : b + m ≤ k) :
    (v.extractLsb' a k).extractLsb' b m = v.extractLsb' (a + b) m := by
  ext j hj
  have : b + j < k := by omega
  simp [this, Nat.add_assoc]

theorem parseF4_row (h : w.extractLsb' 0 2 ≠ 0b10) (hm : w.extractLsb' 2 2 ≠ 0b11) : Row (le16 w) (parseF4 w) := by
  have hl := len_code h
  rw [← extract_extract w 2 4 0 2 (by decide)] at hm
  unfold parseF4
  dsimp only
  generalize lenOf _ = l at hl ⊢
  generalize ho : w.extractLsb' 2 4 = op at hm ⊢
  split
  case h_8 =>
    cases l
    case d =>
      exact row_two (by decide) (by decide) (fun _ _ e1 e2 => (addrOrLxpd_basic _ _).trans (f4_eq ho hl e1 e2))
        addrOrLxpd_tail
    all_goals exact row_fixed rfl (tail_fixed rfl rfl rfl)
  case' h_12 =>
    obtain rfl : op = 0b1110 := by
      clear ho
      revert op
      decide
  all_goals
    cases l
    all_goals exact row_two (by decide) (by decide) (fun _ _ => f4_eq ho hl) fun _ _ => (tail_two rfl rfl rfl).trans rfl

/-! ### Format 5 -/

/-- The rows of R190 in the three-byte formats. -/
theorem raw24_row {i : Instr} (hb : i.basic = le24 x) (ho : i.operands = []) (hi : i.immByte = none)
    (hd : i.disp = none) : Row (le24 x) (pure i) := row_fixed hb (tail_fixed ho hi hd)

theorem two_bits_zero {n a : Nat} {v : BitVec n} (h1 : v.extractLsb' (a + 1) 1 ≠ 1) (h0 : v.extractLsb' a 1 ≠ 1) :
    v.extractLsb' a 2 = 0#1 ++ 0#1 := by
  have zero : ∀ b : BitVec 1, b ≠ 1 → b = 0 := by decide
  exact extract_append_iff.mpr ⟨zero _ h1, zero _ h0⟩

theorem f5_eq {op short : BitVec 4} {unused : BitVec 6} (hf : x.extractLsb' 0 8 = 0x0E) (ho : x.extractLsb' 10 4 = op)
    (hl : l.code = x.extractLsb' 8 2) (hs : x.extractLsb' 15 4 = short)
    (hu : unused = x.extractLsb' 19 5 ++ x.extractLsb' 14 1) : f5 op l short unused = le24 x := by
  have fields : unused = x.extractLsb' 19 5 ++ x.extractLsb' 14 1 ↔ unused.extractLsb' 1 5 = x.extractLsb' 19 5 ∧
      unused.extractLsb' 0 1 = x.extractLsb' 14 1 := fields_whole (fields_cons 5 1 Iff.rfl)
  obtain ⟨high, low⟩ := fields.mp hu
  exact congrArg le24 (f5_fields.mpr ⟨⟨⟨⟨⟨high.symm, hs⟩, low.symm⟩, ho⟩, hl.symm⟩, hf⟩).symm

theorem parseF5_fixed (hf : x.extractLsb' 0 8 = 0x0E) : (parseF5 x).basic = le24 x ∧ (parseF5 x).tail = [] := by
  have raw {i : Instr} (hb : i.basic = le24 x) (ho : i.operands = []) (hi : i.immByte = none) (hd : i.disp = none) :
      i.basic = le24 x ∧ i.tail = [] := ⟨hb, tail_fixed ho hi hd⟩
  unfold parseF5
  dsimp only
  split
  · exact raw rfl rfl rfl rfl
  split
  · exact raw rfl rfl rfl rfl
  rename_i h13 h12
  have op {v : BitVec 2} (h : x.extractLsb' 10 2 = v) : x.extractLsb' 10 4 = 0#1 ++ 0#1 ++ v :=
    extract_append_iff.mpr ⟨two_bits_zero h13 h12, h⟩
  have short {t : BitVec 1} (h : x.extractLsb' 15 1 = t) :
      x.extractLsb' 15 4 = (strOptsOf (x.extractLsb' 16 3)).code ++ t :=
    extract_append_iff.mpr ⟨(opts_code _).symm, h⟩
  have zero : ∀ b : BitVec 1, b ≠ 1 → b = 0 := by decide
  generalize h10 : x.extractLsb' 10 2 = v
  split
  case h_3 =>
    split
    case isTrue h8 => exact raw (f5_eq hf (op h10) h8.symm rfl rfl) rfl rfl rfl
    case isFalse => exact raw rfl rfl rfl rfl
  case' h_4 =>
    obtain rfl : v = 0b11 := by
      clear h10
      revert v
      decide
  all_goals
    split
    case isTrue h15 =>
      split
      case isTrue h8 => exact raw (f5_eq hf (op h10) h8.symm (short h15) rfl) rfl rfl rfl
      case isFalse => exact raw rfl rfl rfl rfl
    case isFalse h15 =>
      split
      case isTrue => exact raw rfl rfl rfl rfl
      case isFalse h8 =>
        have hl := len_code h8
        generalize lenOf _ = l at hl ⊢
        cases l
        all_goals exact raw (f5_eq hf (op h10) hl (short (zero _ h15)) rfl) rfl rfl rfl

/-! ### Formats 6 and 7 -/

theorem f67_eq {op : BitVec 4} {first : Byte} (hf : x.extractLsb' 0 8 = first) (ho : x.extractLsb' 10 4 = op)
    (hl : l.code = x.extractLsb' 8 2) (e1 : g1.code = x.extractLsb' 19 5) (e2 : g2.code = x.extractLsb' 14 5) :
    f67 first op l g1 g2 = le24 x :=
  congrArg le24 (f67_fields.mpr ⟨⟨⟨⟨e1.symm, e2.symm⟩, ho⟩, hl.symm⟩, hf⟩).symm

theorem parseF6_row (hf : x.extractLsb' 0 8 = 0x4E) : Row (le24 x) (parseF6 x) := by
  unfold parseF6
  dsimp only
  generalize ho : x.extractLsb' 10 4 = op
  split
  case h_5 | h_11 => exact raw24_row rfl rfl rfl rfl
  case' h_16 =>
    obtain rfl : op = 0b1111 := by
      clear ho
      revert op
      decide
  all_goals
    refine row_ite (fun _ => raw24_row rfl rfl rfl rfl) fun h => ?_
    have hl := len_code h
    generalize lenOf _ = l at hl ⊢
    cases l
    all_goals exact row_two (by decide) (by decide) (fun _ _ => f67_eq hf ho hl) fun _ _ =>
      (tail_two rfl rfl rfl).trans rfl

theorem parseF7_row (hf : x.extractLsb' 0 8 = 0xCE) : Row (le24 x) (parseF7 x) := by
  unfold parseF7
  dsimp only
  generalize ho : x.extractLsb' 10 4 = op
  split
  case h_1 | h_2 =>
    refine row_ite (fun _ => raw24_row rfl rfl rfl rfl) fun h => ?_
    have hl := len_code h
    generalize lenOf _ = l at hl ⊢
    cases l
    all_goals
      exact row_two_disp (by decide) (by decide) (fun _ _ _ => f67_eq hf ho hl) fun _ _ _ =>
        (tail_two_disp rfl rfl rfl).trans rfl
  case h_3 | h_4 =>
    refine row_ite (fun _ => raw24_row rfl rfl rfl rfl) fun h => ?_
    have hl := len_code h
    generalize lenOf _ = l at hl ⊢
    cases l
    all_goals
      exact row_two_imm (by decide) (by decide) (fun _ _ _ _ => f67_eq hf ho hl) fun _ _ _ _ =>
        (tail_two_imm rfl rfl rfl).trans rfl
  case h_5 | h_6 =>
    exact row_ite (fun h => row_two (by decide) (by decide) (fun _ _ => f67_eq hf ho h.symm) fun _ _ =>
      (tail_two rfl rfl rfl).trans rfl) fun _ => raw24_row rfl rfl rfl rfl
  case h_7 | h_8 =>
    refine row_ite (fun _ => raw24_row rfl rfl rfl rfl) fun h3 => row_ite (fun _ => raw24_row rfl rfl rfl rfl)
      fun h2 => ?_
    have hl := len_code h2
    generalize lenOf _ = l at hl ⊢
    cases l
    case d => exact absurd hl.symm h3
    all_goals exact row_two (by decide) (by decide) (fun _ _ => f67_eq hf ho hl) fun _ _ =>
      (tail_two rfl rfl rfl).trans rfl
  case h_11 => exact raw24_row rfl rfl rfl rfl
  case' h_16 =>
    obtain rfl : op = 0b1111 := by
      clear ho
      revert op
      decide
  all_goals
    refine row_ite (fun _ => raw24_row rfl rfl rfl rfl) fun h => ?_
    have hl := len_code h
    generalize lenOf _ = l at hl ⊢
    cases l
    all_goals exact row_two (by decide) (by decide) (fun _ _ => f67_eq hf ho hl) fun _ _ =>
      (tail_two rfl rfl rfl).trans rfl

/-! ### Format 8 -/

theorem f8_eq {op reg : BitVec 3} (hf : x.extractLsb' 0 6 = 0b101110)
    (ho : x.extractLsb' 10 1 ++ x.extractLsb' 6 2 = op) (hr : x.extractLsb' 11 3 = reg)
    (hl : l.code = x.extractLsb' 8 2)
    (e1 : g1.code = x.extractLsb' 19 5) (e2 : g2.code = x.extractLsb' 14 5) : f8 op l reg g1 g2 = le24 x := by
  have fields : op = x.extractLsb' 10 1 ++ x.extractLsb' 6 2 ↔ op.extractLsb' 2 1 = x.extractLsb' 10 1 ∧
      op.extractLsb' 0 2 = x.extractLsb' 6 2 := fields_whole (fields_cons 1 2 Iff.rfl)
  obtain ⟨high, low⟩ := fields.mp ho.symm
  exact congrArg le24 (f8_fields.mpr ⟨⟨⟨⟨⟨⟨e1.symm, e2.symm⟩, hr⟩, high.symm⟩, hl.symm⟩, low.symm⟩, hf⟩).symm

theorem parseF8_row (hf : x.extractLsb' 0 6 = 0b101110) : Row (le24 x) (parseF8 x) := by
  have hr : x.extractLsb' 11 3 = regCode (regOf (x.extractLsb' 11 3)) := (regCode_regOf _).symm
  unfold parseF8
  dsimp only
  generalize ho : x.extractLsb' 10 1 ++ x.extractLsb' 6 2 = op
  split
  case h_1 | h_3 =>
    refine row_ite (fun _ => raw24_row rfl rfl rfl rfl) fun h => ?_
    have hl := len_code h
    generalize lenOf _ = l at hl ⊢
    cases l
    all_goals
      exact row_two_disp (by decide) (by decide) (fun _ _ _ => f8_eq hf ho hr hl) fun _ _ _ =>
        (tail_two_disp rfl rfl rfl).trans rfl
  case h_2 =>
    exact row_ite (fun h => row_two (by decide) (by decide) (fun _ _ => f8_eq hf ho hr h.symm) fun _ _ =>
      (tail_two rfl rfl rfl).trans rfl) fun _ => raw24_row rfl rfl rfl rfl
  case h_6 =>
    refine row_ite (fun _ => raw24_row rfl rfl rfl rfl) fun h => ?_
    have hl := len_code h
    generalize lenOf _ = l at hl ⊢
    cases l
    all_goals exact row_two (by decide) (by decide) (fun _ _ => f8_eq hf ho rfl hl) fun _ _ =>
      (tail_two rfl rfl rfl).trans rfl
  case h_7 =>
    generalize hr : x.extractLsb' 11 3 = reg
    split
    case h_2 | h_4 =>
      refine row_ite (fun _ => raw24_row rfl rfl rfl rfl) fun h => ?_
      have hl := len_code h
      generalize lenOf _ = l at hl ⊢
      cases l
      all_goals exact row_two (by decide) (by decide) (fun _ _ => f8_eq hf ho hr hl) fun _ _ =>
        (tail_two rfl rfl rfl).trans rfl
    all_goals exact raw24_row rfl rfl rfl rfl
  case h_8 => exact raw24_row rfl rfl rfl rfl
  all_goals
    refine row_ite (fun _ => raw24_row rfl rfl rfl rfl) fun h => ?_
    have hl := len_code h
    generalize lenOf _ = l at hl ⊢
    cases l
    all_goals exact row_two (by decide) (by decide) (fun _ _ => f8_eq hf ho hr hl) fun _ _ =>
      (tail_two rfl rfl rfl).trans rfl

/-! ### Format 9 -/

theorem f9_eq {op : BitVec 3} {k : FLen} {i : BitVec 2} {c1 c2 : BitVec 5} (hf : x.extractLsb' 0 8 = 0x3E)
    (ho : x.extractLsb' 11 3 = op) (hk : k.code = x.extractLsb' 10 1) (hl : i = x.extractLsb' 8 2)
    (e1 : c1 = x.extractLsb' 19 5) (e2 : c2 = x.extractLsb' 14 5) : f9 op k i c1 c2 = le24 x :=
  congrArg le24 (f9_fields.mpr ⟨⟨⟨⟨⟨e1.symm, e2.symm⟩, ho⟩, hk.symm⟩, hl.symm⟩, hf⟩).symm

theorem parseF9_row (hf : x.extractLsb' 0 8 = 0x3E) : Row (le24 x) (parseF9 x) := by
  have hk := flen_code (x.extractLsb' 10 1)
  have split_fi {f : BitVec 1} {i : BitVec 2} :
      x.extractLsb' 8 3 = f ++ i ↔ x.extractLsb' 10 1 = f ∧ x.extractLsb' 8 2 = i :=
    extract_append_iff (m := 1) (n := 2)
  unfold parseF9
  dsimp only
  generalize flenOf _ = k at hk ⊢
  generalize ho : x.extractLsb' 11 3 = op
  split
  case h_2 =>
    refine row_ite (fun h => ?_) fun _ => raw24_row rfl rfl rfl rfl
    obtain ⟨h10, h8⟩ := (split_fi (f := 0b1) (i := 0b11)).mp h
    exact row_one (by decide) (fun _ e => f9_eq hf ho h10.symm h8.symm e rfl) fun _ => (tail_one rfl rfl rfl).trans rfl
  case h_3 =>
    refine row_ite (fun h => ?_) fun _ => raw24_row rfl rfl rfl rfl
    obtain ⟨h10, h8⟩ := (split_fi (f := 0b1) (i := 0b10)).mp h
    exact row_two (by decide) (by decide) (fun _ _ => f9_eq hf ho h10.symm h8.symm) fun _ _ =>
      (tail_two rfl rfl rfl).trans rfl
  case h_4 =>
    refine row_ite (fun h => ?_) fun _ => raw24_row rfl rfl rfl rfl
    obtain ⟨h10, h8⟩ := (split_fi (f := 0b0) (i := 0b11)).mp h
    exact row_two (by decide) (by decide) (fun _ _ => f9_eq hf ho h10.symm h8.symm) fun _ _ =>
      (tail_two rfl rfl rfl).trans rfl
  case h_7 =>
    refine row_ite (fun h => ?_) fun _ => raw24_row rfl rfl rfl rfl
    obtain ⟨h10, h8⟩ := (split_fi (f := 0b1) (i := 0b11)).mp h
    exact row_one (by decide) (fun _ e => f9_eq hf ho h10.symm h8.symm rfl e) fun _ => (tail_one rfl rfl rfl).trans rfl
  case' h_8 =>
    obtain rfl : op = 0b111 := by
      clear ho
      revert op
      decide
  all_goals
    refine row_ite (fun _ => raw24_row rfl rfl rfl rfl) fun h => ?_
    have hl := len_code h
    generalize lenOf _ = l at hl ⊢
    cases k
    all_goals
      cases l
      all_goals exact row_two (by decide) (by decide) (fun _ _ => f9_eq hf ho hk hl) fun _ _ =>
        (tail_two rfl rfl rfl).trans rfl

/-! ### Formats 11 and 14 -/

theorem f11_eq {op : BitVec 4} {k : FLen} (hf : x.extractLsb' 0 8 = 0xBE) (ho : x.extractLsb' 10 4 = op)
    (hb : x.extractLsb' 9 1 = 0) (hk : k.code = x.extractLsb' 8 1) (e1 : g1.code = x.extractLsb' 19 5)
    (e2 : g2.code = x.extractLsb' 14 5) : f11 op k g1 g2 = le24 x :=
  congrArg le24 (f11_fields.mpr ⟨⟨⟨⟨⟨e1.symm, e2.symm⟩, ho⟩, hb⟩, hk.symm⟩, hf⟩).symm

theorem parseF11_row (hf : x.extractLsb' 0 8 = 0xBE) : Row (le24 x) (parseF11 x) := by
  have hk := flen_code (x.extractLsb' 8 1)
  have zero : ∀ b : BitVec 1, b ≠ 1 → b = 0 := by decide
  unfold parseF11
  dsimp only
  generalize flenOf _ = k at hk ⊢
  generalize ho : x.extractLsb' 10 4 = op
  split
  case h_4 | h_8 | h_11 | h_12 | h_13 | h_14 | h_15 => exact raw24_row rfl rfl rfl rfl
  all_goals
    refine row_ite (fun _ => raw24_row rfl rfl rfl rfl) fun h => ?_
    cases k
    all_goals
      exact row_two (by decide) (by decide) (fun _ _ => f11_eq hf ho (zero _ h) hk) fun _ _ =>
        (tail_two rfl rfl rfl).trans rfl

theorem f14_eq {op short : BitVec 4} {unused : BitVec 1} (hf : x.extractLsb' 0 8 = 0x1E) (ho : x.extractLsb' 10 4 = op)
    (hl : x.extractLsb' 8 2 = 0b11) (hs : x.extractLsb' 15 4 = short) (hu : x.extractLsb' 14 1 = unused)
    (e : g.code = x.extractLsb' 19 5) : f14 op short unused g = le24 x :=
  congrArg le24 (f5_fields.mpr ⟨⟨⟨⟨⟨e.symm, hs⟩, hu⟩, ho⟩, hl⟩, hf⟩).symm

theorem unused_fields {v : BitVec 5} {short : BitVec 4} {low : BitVec 1} :
    v = short ++ low ↔ v.extractLsb' 1 4 = short ∧ v.extractLsb' 0 1 = low := fields_whole (fields_cons 4 1 Iff.rfl)

theorem parseF14_row (hf : x.extractLsb' 0 8 = 0x1E) : Row (le24 x) (parseF14 x) := by
  unfold parseF14
  dsimp only
  refine row_ite (fun _ => raw24_row rfl rfl rfl rfl) fun h13 => row_ite (fun _ => raw24_row rfl rfl rfl rfl) fun h12 =>
    row_ite (fun h8 => ?_) fun _ => raw24_row rfl rfl rfl rfl
  have op {v : BitVec 2} (h : x.extractLsb' 10 2 = v) : x.extractLsb' 10 4 = 0#1 ++ 0#1 ++ v :=
    extract_append_iff.mpr ⟨two_bits_zero h13 h12, h⟩
  obtain ⟨hs, hu⟩ := unused_fields.mp (rfl : x.extractLsb' 15 4 ++ x.extractLsb' 14 1 = _)
  generalize h10 : x.extractLsb' 10 2 = v
  split
  case h_1 | h_2 =>
    exact row_one (by decide) (fun _ => f14_eq hf (op h10) h8 hs.symm hu.symm) fun _ => (tail_one rfl rfl rfl).trans rfl
  case' h_4 =>
    obtain rfl : v = 0b11 := by
      clear h10
      revert v
      decide
  all_goals exact row_one (by decide) (fun _ => f14_eq hf (op h10) h8 rfl rfl) fun _ => (tail_one rfl rfl rfl).trans rfl

end Rows

/-! ### Any instruction -/

theorem le16_fields {w : Word} {b1 b0 : Byte} : w = b1 ++ b0 ↔ w.extractLsb' 8 8 = b1 ∧ w.extractLsb' 0 8 = b0 :=
  fields_whole (fields_cons 8 8 Iff.rfl)

theorem le24_fields {x : BitVec 24} {b2 b1 b0 : Byte} :
    x = b2 ++ b1 ++ b0 ↔ (x.extractLsb' 16 8 = b2 ∧ x.extractLsb' 8 8 = b1) ∧ x.extractLsb' 0 8 = b0 :=
  fields_whole (fields_cons 16 8 (fields_cons 8 8 Iff.rfl))

/-- A parser of an instruction of which the bytes `b` have been read: it loses no byte, and `n` bytes are enough for
it. -/
structure Resumes (b : List Byte) (n : Nat) (p : Parse Instr) : Prop where
  reads : ∀ {bs i rest}, p bs = .ok (i, rest) → b ++ bs = encode i ++ rest
  total : Total n p

theorem Row.resumes {b : List Byte} {p : Parse Instr} {n : Nat} (h : Row b p) (hn : 22 ≤ n) : Resumes b n p where
  reads e := by
    obtain ⟨hb, ht⟩ := h.reads e
    rw [encode_eq, hb, ht, List.append_assoc]
  total := h.total.mono hn

theorem Resumes.nextByte {b : List Byte} {n : Nat} {k : Byte → Parse Instr} (h : ∀ x, Resumes (b ++ [x]) n (k x)) :
    Resumes b (1 + n) (nextByte >>= k) where
  reads e := by
    obtain ⟨x, _, rfl, e⟩ := nextByte_bind_iff.mp e
    rw [← (h x).reads e, List.append_assoc, List.singleton_append]
  total := nextByte_total.bind fun x => (h x).total

theorem resumes_ite {q : Prop} [Decidable q] {b : List Byte} {n : Nat} {p p' : Parse Instr} (h : q → Resumes b n p)
    (h' : ¬q → Resumes b n p') : Resumes b n (if q then p else p') := by
  split
  · exact h ‹_›
  · exact h' ‹_›

theorem basic24_resumes {b0 : Byte} {p : BitVec 24 → Parse Instr}
    (h : ∀ x, x.extractLsb' 0 8 = b0 → Row (le24 x) (p x)) :
    Resumes [b0] 24 (basic24 b0 >>= p) := by
  have e : basic24 b0 >>= p = nextByte >>= fun b1 => nextByte >>= fun b2 => p (b2 ++ b1 ++ b0) := by
    simp only [basic24, bind_assoc, pure_bind]
  rw [e]
  refine Resumes.nextByte (n := 23) fun b1 => Resumes.nextByte (n := 22) fun b2 => ?_
  obtain ⟨⟨h2, h1⟩, h0⟩ := le24_fields.mp (rfl : (b2 ++ b1 ++ b0 : BitVec 24) = b2 ++ b1 ++ b0)
  have row := h (b2 ++ b1 ++ b0) h0
  rw [le24, h2, h1, h0] at row
  exact row.resumes (by decide)

theorem parse1110_resumes (b0 : Byte) (h : b0.extractLsb' 0 4 = 0b1110) : Resumes [b0] 24 (parse1110 b0) := by
  have byte {v : BitVec 4} (hv : b0.extractLsb' 4 4 = v) : b0 = v ++ 0b1110#4 :=
    (fields_whole (fields_cons 4 4 Iff.rfl)).mpr ⟨hv, h⟩
  have one {i : Instr} (hb : i.basic = [b0]) (ho : i.operands = []) (hm : i.immByte = none) (hd : i.disp = none) :
      Resumes [b0] 24 (pure i) := (row_fixed hb (tail_fixed ho hm hd)).resumes (by decide)
  unfold parse1110
  generalize hv : b0.extractLsb' 4 4 = v
  split
  case h_1 =>
    have e : parseF5 <$> basic24 b0 = basic24 b0 >>= fun x => pure (parseF5 x) := (bind_pure_comp _ _).symm
    rw [e]
    refine basic24_resumes fun x hx => ?_
    obtain ⟨hb, ht⟩ := parseF5_fixed (hx.trans (byte hv))
    exact row_fixed hb ht
  case h_2 => exact basic24_resumes fun x hx => parseF14_row (hx.trans (byte hv))
  case h_3 => exact basic24_resumes fun x hx => parseF9_row (hx.trans (byte hv))
  case h_4 => exact basic24_resumes fun x hx => parseF6_row (hx.trans (byte hv))
  case h_9 => exact basic24_resumes fun x hx => parseF11_row (hx.trans (byte hv))
  case h_10 => exact basic24_resumes fun x hx => parseF7_row (hx.trans (byte hv))
  case h_13 =>
    have low : v.extractLsb' 0 2 = 0b10 := by
      clear byte one hv
      revert v
      decide
    rw [← hv, extract_extract b0 4 4 0 2 (by decide)] at low
    have six : b0.extractLsb' 0 6 = 0b10#2 ++ 0b1110#4 :=
      (extract_append_iff (m := 2) (n := 4)).mpr ⟨low, h⟩
    exact basic24_resumes fun x hx => parseF8_row (by rw [← extract_extract x 0 8 0 6 (by decide), hx, six]; rfl)
  all_goals exact one (congrArg (fun b => [b]) (byte hv).symm) rfl rfl rfl

theorem parseInstr_resumes : Resumes [] 25 parseInstr := by
  refine Resumes.nextByte (n := 24) fun b0 => resumes_ite (fun h0 => ?_) fun h0 => ?_
  · have nibble {v : BitVec 2} (hv : b0.extractLsb' 2 2 = v) : b0.extractLsb' 0 4 = v ++ 0b10#2 :=
      extract_append_iff.mpr ⟨hv, h0⟩
    have byte {u m : BitVec 4} (hu : b0.extractLsb' 4 4 = u) (hm : b0.extractLsb' 0 4 = m) : b0 = u ++ m :=
      (fields_whole (fields_cons 4 4 Iff.rfl)).mpr ⟨hu, hm⟩
    have one {i : Instr} (hb : i.basic = [b0]) (ho : i.operands = []) (hm : i.immByte = none) (hd : i.disp = none) :
        Resumes [b0] 24 (pure i) := (row_fixed hb (tail_fixed ho hm hd)).resumes (by decide)
    generalize hv : b0.extractLsb' 2 2 = v
    split
    case h_1 =>
      have e : [f0 (b0.extractLsb' 4 4)] = [b0] := congrArg (fun b => [b]) (byte rfl (nibble hv)).symm
      exact (e ▸ parseF0_row (b0.extractLsb' 4 4)).resumes (by decide)
    case h_2 =>
      have e : [f1 (b0.extractLsb' 4 4)] = [b0] := congrArg (fun b => [b]) (byte rfl (nibble hv)).symm
      exact (e ▸ parseF1_row (b0.extractLsb' 4 4)).resumes (by decide)
    case h_3 =>
      generalize hu : b0.extractLsb' 4 4 = u
      split
      case h_4 => exact one rfl rfl rfl rfl
      all_goals exact one (congrArg (fun b => [b]) (byte hu (nibble hv)).symm) rfl rfl rfl
    case h_4 =>
      obtain rfl : v = 0b11 := by
        clear hv nibble byte one
        revert v
        decide
      exact parse1110_resumes b0 (nibble hv)
  · refine Resumes.nextByte (n := 23) fun b1 => ?_
    obtain ⟨h1, h0'⟩ := le16_fields.mp (rfl : (b1 ++ b0 : Word) = b1 ++ b0)
    have field (a k : Nat) (hk : a + k ≤ 8) : (b1 ++ b0 : Word).extractLsb' a k = b0.extractLsb' a k := by
      conv => rhs; rw [← h0', extract_extract _ 0 8 a k hk, Nat.zero_add]
    have word {p : Parse Instr} (h : Row (le16 (b1 ++ b0)) p) : Resumes [b0, b1] 23 p := by
      rw [le16, h1, h0'] at h
      exact h.resumes (by decide)
    rw [← field 0 2 (by decide)] at h0
    rw [← field 2 2 (by decide), ← field 4 3 (by decide)]
    refine resumes_ite (fun h2 => resumes_ite (fun h4 => ?_) fun h4 => ?_) fun h2 => ?_
    · exact word (parseF3_row h0 (extract_append_iff.mpr ⟨h4, h2⟩))
    · exact word (parseF2_row h0 h2 h4)
    · exact word (parseF4_row h0 h2)

theorem decode_iff {bs rest : List Byte} {i : Instr} : decode bs = .ok (i, rest) ↔
    parseInstr bs = .ok (i, rest) := Iff.rfl

theorem basic_length_pos (i : Instr) : 0 < i.basic.length := by
  cases i
  all_goals exact Nat.succ_pos _

/-- Settles O3: no parser of the rest of an instruction loses a byte, by `parseInstr_resumes`. -/
theorem decodedBytesAreEncoded : Obligations.DecodedBytesAreEncoded := fun _ _ _ h => parseInstr_resumes.reads h

/-- Settles O4: 25 bytes are enough for every parser, and the bytes taken are those of the instruction (O3). -/
theorem everyEncodingIsDecoded : Obligations.EveryEncodingIsDecoded := by
  intro bs hbs
  obtain ⟨i, rest, h, hl⟩ := parseInstr_resumes.total.run bs hbs
  obtain rfl : bs = encode i ++ rest := decodedBytesAreEncoded bs rest i h
  rw [List.length_append] at hl
  have pos : 0 < (encode i).length := by
    rw [encode_eq, List.length_append]
    exact Nat.add_pos_left (basic_length_pos i) _
  exact ⟨i, rest, h, pos, Nat.le_of_add_le_add_right hl, (List.drop_left).symm⟩

end Sys2Proof
end

section
/-! Every legal instruction is decoded from its own encoding: the decoder finds the row of its Basic Instruction, and
the parser of that row reads what `Instr.tail` writes (R121, R189). -/

namespace Sys2Proof

variable {i : Instr}

/-! ### The operands of a legal instruction -/

theorem not_isIllegal_of_ok {m : Base} (h : m.ok = true) : isIllegal m.code = false := by
  have register : ∀ r : Reg, isIllegal (0b00#2 ++ regCode r) = false ∧
      isIllegal (0b01#2 ++ regCode r) = false := by decide
  cases m with
  | reg r => exact (register r).1
  | regRel r d => exact (register r).2
  | illegal c => cases h
  | _ =>
    simp only [Base.code]
    decide

theorem canonical_of_ok {m : Base} (h : m.ok = true) : m.Canonical := by
  cases m with
  | illegal c => cases h
  | _ => trivial

theorem reads_base_of_ok {n : Nat} {m : Base} (h : m.ok = true) : (Gen.base m).Reads n m.code := by
  have plain : ∀ c, isIllegal c = false → c ≠ 0b10100 ∧ isScaled c = false := by decide
  exact ⟨rfl, canonical_of_ok h, plain _ (not_isIllegal_of_ok h)⟩

theorem reads_of_ok {o : Operand} (h : o.ok = true) : o.gen.Reads o.bytes o.gen.code := by
  obtain ⟨gen, cls, bytes, kind⟩ := o
  cases gen with
  | imm v => exact ⟨rfl, of_decide_eq_true (Bool.and_eq_true_iff.mp h).2⟩
  | scaled sc r m => exact ⟨rfl, canonical_of_ok h⟩
  | base m =>
    cases m with
    | reg r => exact reads_base_of_ok rfl
    | _ => exact reads_base_of_ok h

theorem operands_ok (h : i.wf = true) : ∀ o ∈ i.operands, o.ok = true :=
  List.all_eq_true.mp (Bool.and_eq_true_iff.mp (Bool.and_eq_true_iff.mp h).1).1

/-! ### The parser of a row reads the rest of its instruction -/

/-- A parser answers the instruction for the bytes that follow its Basic Instruction. -/
def Continues (i : Instr) (p : Parse Instr) : Prop := ∀ rest, p (i.tail ++ rest) = .ok (i, rest)

/-- An instruction is decoded from its own encoding, whatever follows it. -/
def Decodes (i : Instr) : Prop := ∀ rest, decode (encode i ++ rest) = .ok (i, rest)

theorem Continues.decodes {p : Parse Instr} (hc : Continues i p) (hp : ∀ bs, parseInstr (i.basic ++ bs) = p bs) :
    Decodes i := by
  intro rest
  rw [encode_eq, List.append_assoc]
  exact (hp _).trans (hc rest)

section Continues

variable {g1 g2 : Gen} {a1 a2 : Access} {n1 n2 : Nat} {k1 k2 : Kind} {d : Disp} {x : Byte}

theorem continues_fixed (ho : i.operands = []) (hm : i.immByte = none) (hd : i.disp = none) : Continues i (pure i) := by
  intro rest
  rw [tail_fixed ho hm hd]
  rfl

theorem continues_disp {k : Disp → Instr} (hk : k d = i) (ho : i.operands = []) (hm : i.immByte = none)
    (hd : i.disp = some d) : Continues i (k <$> parseDisp) := by
  intro rest
  exact parse_one_disp_iff.mpr ⟨d, hk, by rw [tail_disp ho hm hd]⟩

theorem continues_imm {k : Byte → Instr} (hk : k x = i) (ho : i.operands = []) (hm : i.immByte = some x)
    (hd : i.disp = none) : Continues i (k <$> nextByte) := by
  intro rest
  exact parse_map_iff.mpr ⟨x, nextByte_iff.mpr (by rw [tail_imm ho hm hd]; rfl), hk⟩

theorem continues_imm_disp {k : Byte → Disp → Instr} (hk : k x d = i) (ho : i.operands = []) (hm : i.immByte = some x)
    (hd : i.disp = some d) : Continues i (k <$> nextByte <*> parseDisp) := by
  intro rest
  refine parse_map₂_iff.mpr ⟨x, _, d, nextByte_iff.mpr ?_, parseDisp_iff.mpr rfl, hk⟩
  rw [tail_imm_disp ho hm hd]
  rfl

theorem continues_one {k : Gen → Instr} (h : i.wf = true) (hk : k g1 = i) (ho : i.operands = [⟨g1, a1, n1, k1⟩])
    (hm : i.immByte = none) (hd : i.disp = none) (hn : n1 ≤ 8) : Continues i (k <$> parseOne n1 g1.code) := by
  intro rest
  have hg := operands_ok h ⟨g1, a1, n1, k1⟩ (by rw [ho]; exact List.mem_singleton_self _)
  exact parse_map_iff.mpr ⟨g1, (parseOne_iff hn).mpr ⟨reads_of_ok hg, by rw [tail_one ho hm hd]⟩, hk⟩

theorem continues_one_disp {k : Gen → Disp → Instr} (h : i.wf = true) (hk : k g1 d = i)
    (ho : i.operands = [⟨g1, a1, n1, k1⟩]) (hm : i.immByte = none) (hd : i.disp = some d) (hn : n1 ≤ 8) :
    Continues i (parseOne n1 g1.code >>= fun g => k g <$> parseDisp) := by
  intro rest
  have hg := operands_ok h ⟨g1, a1, n1, k1⟩ (by rw [ho]; exact List.mem_singleton_self _)
  exact (parseOneDisp_iff hn).mpr ⟨g1, d, reads_of_ok hg, hk, by rw [tail_one_disp ho hm hd]⟩

theorem reads_two (h : i.wf = true) (ho : i.operands = [⟨g1, a1, n1, k1⟩, ⟨g2, a2, n2, k2⟩]) :
    g1.Reads n1 g1.code ∧ g2.Reads n2 g2.code := by
  have ok := operands_ok h
  rw [ho, List.forall_mem_cons, List.forall_mem_singleton] at ok
  exact ⟨reads_of_ok ok.1, reads_of_ok ok.2⟩

theorem continues_two {k : Gen → Gen → Instr} (h : i.wf = true) (hk : k g1 g2 = i)
    (ho : i.operands = [⟨g1, a1, n1, k1⟩, ⟨g2, a2, n2, k2⟩]) (hm : i.immByte = none) (hd : i.disp = none) (h1 : n1 ≤ 8)
    (h2 : n2 ≤ 8) : Continues i (parseTwo n1 n2 g1.code g2.code k) := by
  intro rest
  exact (parseTwo_iff h1 h2).mpr ⟨g1, g2, reads_two h ho, hk, by rw [tail_two ho hm hd]⟩

theorem continues_two_disp {k : Gen → Gen → Disp → Instr} (h : i.wf = true) (hk : k g1 g2 d = i)
    (ho : i.operands = [⟨g1, a1, n1, k1⟩, ⟨g2, a2, n2, k2⟩]) (hm : i.immByte = none) (hd : i.disp = some d)
    (h1 : n1 ≤ 8)
    (h2 : n2 ≤ 8) : Continues i (parseTwoDisp n1 n2 g1.code g2.code k) := by
  intro rest
  exact (parseTwoDisp_iff h1 h2).mpr ⟨g1, g2, d, reads_two h ho, hk, by rw [tail_two_disp ho hm hd]⟩

theorem continues_two_imm {k : Gen → Gen → BitVec 3 → BitVec 5 → Instr} {y : BitVec 3} {z : BitVec 5} (h : i.wf = true)
    (hk : k g1 g2 y z = i) (ho : i.operands = [⟨g1, a1, n1, k1⟩, ⟨g2, a2, n2, k2⟩]) (hm : i.immByte = some (y ++ z))
    (hd : i.disp = none) (h1 : n1 ≤ 8) (h2 : n2 ≤ 8) : Continues i (withImmByte k n1 n2 g1.code g2.code) := by
  intro rest
  exact (withImmByte_iff h1 h2).mpr ⟨g1, g2, y, z, reads_two h ho, hk, by rw [tail_two_imm ho hm hd]⟩

end Continues

/-! ### The row of a Basic Instruction -/

theorem parseInstr_le16 {w : Word} (h : w.extractLsb' 0 2 ≠ 0b10) (bs : List Byte) :
    parseInstr (le16 w ++ bs) =
      (if w.extractLsb' 2 2 = 0b11 then if w.extractLsb' 4 3 = 0b111 then parseF3 w else parseF2 w else parseF4 w)
        bs := by
  have byte (a k : Nat) (hk : a + k ≤ 8) : (w.extractLsb' 0 8).extractLsb' a k = w.extractLsb' a k := by
    rw [extract_extract w 0 8 a k hk, Nat.zero_add]
  have e : w.extractLsb' 8 8 ++ w.extractLsb' 0 8 = w := (le16_fields.mpr ⟨rfl, rfl⟩).symm
  rw [← byte 0 2 (by decide)] at h
  rw [← byte 2 2 (by decide), ← byte 4 3 (by decide)]
  show (if (w.extractLsb' 0 8).extractLsb' 0 2 = 0b10 then _ else _ : Parse Instr) (w.extractLsb' 8 8 :: bs) = _
  rw [if_neg h]
  show (if _ then if _ then parseF3 (w.extractLsb' 8 8 ++ w.extractLsb' 0 8)
    else parseF2 (w.extractLsb' 8 8 ++ w.extractLsb' 0 8) else parseF4 (w.extractLsb' 8 8 ++ w.extractLsb' 0 8)) bs = _
  rw [e]

theorem parseInstr_le24 {x : BitVec 24} {first : Byte} {p : BitVec 24 → Parse Instr}
    (hp : ∀ b1 b2 bs, parseInstr (first :: b1 :: b2 :: bs) = p (b2 ++ b1 ++ first) bs) (h : x.extractLsb' 0 8 = first)
    (bs : List Byte) : parseInstr (le24 x ++ bs) = p x bs := by
  subst h
  have e : x.extractLsb' 16 8 ++ x.extractLsb' 8 8 ++ x.extractLsb' 0 8 = x := (le24_fields.mpr ⟨⟨rfl, rfl⟩, rfl⟩).symm
  exact (hp _ _ bs).trans (by rw [e])

theorem parseInstr_f5 {x : BitVec 24} (hf : x.extractLsb' 0 8 = 0x0E) (bs : List Byte) :
    parseInstr (le24 x ++ bs) = (pure (parseF5 x) : Parse Instr) bs :=
  parseInstr_le24 (p := fun x => pure (parseF5 x)) (fun _ _ _ => rfl) hf bs

theorem parseInstr_f6 {x : BitVec 24} (hf : x.extractLsb' 0 8 = 0x4E) (bs : List Byte) :
    parseInstr (le24 x ++ bs) = parseF6 x bs := parseInstr_le24 (fun _ _ _ => rfl) hf bs

theorem parseInstr_f7 {x : BitVec 24} (hf : x.extractLsb' 0 8 = 0xCE) (bs : List Byte) :
    parseInstr (le24 x ++ bs) = parseF7 x bs := parseInstr_le24 (fun _ _ _ => rfl) hf bs

theorem parseInstr_f9 {x : BitVec 24} (hf : x.extractLsb' 0 8 = 0x3E) (bs : List Byte) :
    parseInstr (le24 x ++ bs) = parseF9 x bs := parseInstr_le24 (fun _ _ _ => rfl) hf bs

theorem parseInstr_f11 {x : BitVec 24} (hf : x.extractLsb' 0 8 = 0xBE) (bs : List Byte) :
    parseInstr (le24 x ++ bs) = parseF11 x bs := parseInstr_le24 (fun _ _ _ => rfl) hf bs

theorem parseInstr_f14 {x : BitVec 24} (hf : x.extractLsb' 0 8 = 0x1E) (bs : List Byte) :
    parseInstr (le24 x ++ bs) = parseF14 x bs := parseInstr_le24 (fun _ _ _ => rfl) hf bs

/-- Format 8 has four first bytes. -/
theorem parseInstr_f8 {x : BitVec 24} (hf : x.extractLsb' 0 6 = 0b101110) (bs : List Byte) :
    parseInstr (le24 x ++ bs) = parseF8 x bs := by
  have byte : x.extractLsb' 0 8 = x.extractLsb' 6 2 ++ 0b101110#6 :=
    (extract_append_iff (m := 2) (n := 6)).mpr ⟨rfl, hf⟩
  have first (v : BitVec 2) (b1 b2 : Byte) (bs : List Byte) : parseInstr ((v ++ 0b101110#6) :: b1 :: b2 :: bs) =
      parseF8 (b2 ++ b1 ++ (v ++ 0b101110#6)) bs := by
    obtain rfl | rfl | rfl | rfl : v = 0 ∨ v = 1 ∨ v = 2 ∨ v = 3 := by
      revert v
      decide
    all_goals rfl
  exact parseInstr_le24 (first _) byte bs

theorem len_code_ne : ∀ l : Len, l.code ≠ 0b10
  | .b | .w | .d => by decide

section Formats

variable {l : Len} {g g1 g2 : Gen} {p : Parse Instr}

theorem decodes_f2 {op : BitVec 3} {short : BitVec 4} (hb : i.basic = f2 op l short g) (hop : op ≠ 0b111)
    (row : ∀ w : Word, w.extractLsb' 4 3 = op → w.extractLsb' 7 4 = short → w.extractLsb' 0 2 = l.code →
      w.extractLsb' 11 5 = g.code → parseF2 w = p) (hc : Continues i p) : Decodes i := by
  refine hc.decodes fun bs => ?_
  rw [hb, f2]
  generalize hw : (g.code ++ short ++ op ++ 0b11#2 ++ l.code : Word) = w
  obtain ⟨⟨⟨⟨e, hs⟩, ho⟩, hm⟩, hl⟩ := (f2_fields (m := 0b11)).mp hw.symm
  rw [parseInstr_le16 (hl.trans_ne (len_code_ne l)), if_pos hm, if_neg (ho.trans_ne hop), row w ho hs hl e]

theorem decodes_f3 {op : BitVec 4} (hb : i.basic = f3 op l g)
    (row : ∀ w : Word, w.extractLsb' 7 4 = op → w.extractLsb' 0 2 = l.code → w.extractLsb' 11 5 = g.code →
      parseF3 w = p) (hc : Continues i p) : Decodes i := by
  refine hc.decodes fun bs => ?_
  rw [hb, f3]
  generalize hw : (g.code ++ op ++ 0b11111#5 ++ l.code : Word) = w
  obtain ⟨⟨⟨e, ho⟩, hm⟩, hl⟩ := f3_fields.mp hw.symm
  obtain ⟨high, low⟩ := (extract_append_iff (m := 3) (n := 2) (x := 0b111) (y := 0b11)).mp hm
  rw [parseInstr_le16 (hl.trans_ne (len_code_ne l)), if_pos low, if_pos high, row w ho hl e]

theorem decodes_f4 {op : BitVec 4} (hb : i.basic = f4 op l g1 g2) (hop : op.extractLsb' 0 2 ≠ 0b11)
    (row : ∀ w : Word, w.extractLsb' 2 4 = op → w.extractLsb' 0 2 = l.code → w.extractLsb' 11 5 = g1.code →
      w.extractLsb' 6 5 = g2.code → parseF4 w = p) (hc : Continues i p) : Decodes i := by
  refine hc.decodes fun bs => ?_
  rw [hb, f4]
  generalize hw : (g1.code ++ g2.code ++ op ++ l.code : Word) = w
  obtain ⟨⟨⟨e1, e2⟩, ho⟩, hl⟩ := f4_fields.mp hw.symm
  rw [← ho, extract_extract w 2 4 0 2 (by decide)] at hop
  rw [parseInstr_le16 (hl.trans_ne (len_code_ne l)), if_neg hop, row w ho hl e1 e2]

theorem addrOrLxpd_addr {g1 g2 : Gen} (h : (Instr.addr g1 g2).wf = true) : addrOrLxpd g1 g2 = .addr g1 g2 := by
  have external : (!g1.isExternal) = true := (Bool.and_eq_true_iff.mp h).2
  unfold addrOrLxpd
  split
  · cases external
  · rfl

theorem decodes_f5 (op : BitVec 2) {short : BitVec 4} {unused : BitVec 6}
    (hb : i.basic = f5 (0b00#2 ++ op) l short unused)
    (row : ∀ x : BitVec 24, x.extractLsb' 13 1 = 0 → x.extractLsb' 12 1 = 0 → x.extractLsb' 10 2 = op →
      x.extractLsb' 8 2 = l.code → x.extractLsb' 15 4 = short → x.extractLsb' 19 5 ++ x.extractLsb' 14 1 = unused →
      parseF5 x = i) (hc : Continues i (pure i)) : Decodes i := by
  refine hc.decodes fun bs => ?_
  rw [hb, f5]
  generalize hx : (unused.extractLsb' 1 5 ++ short ++ unused.extractLsb' 0 1 ++ (0b00#2 ++ op) ++ l.code ++ 0x0E#8 :
    BitVec 24) = x
  obtain ⟨⟨⟨⟨⟨e, hs⟩, hu⟩, ho⟩, hl⟩, hf⟩ := f5_fields.mp hx.symm
  obtain ⟨high, ho⟩ := (extract_append_iff (m := 2) (n := 2)).mp ho
  obtain ⟨h13, h12⟩ := (extract_append_iff (m := 1) (n := 1) (x := 0#1) (y := 0#1)).mp high
  have fields : unused = x.extractLsb' 19 5 ++ x.extractLsb' 14 1 :=
    (fields_whole (fields_cons 5 1 Iff.rfl)).mpr ⟨e.symm, hu.symm⟩
  rw [parseInstr_f5 hf, row x h13 h12 ho hl hs fields.symm]

theorem strOptsOf_code (o : StrOpts) : strOptsOf o.code = o := by
  obtain ⟨matching, backward⟩ := o
  cases matching
  all_goals
    cases backward
    all_goals rfl

theorem decodes_string (op : BitVec 2) {opts : StrOpts} {t : BitVec 1} {unused : BitVec 6}
    (hb : i.basic = f5 (0b00#2 ++ op) l (opts.code ++ t) unused)
    (row : ∀ x : BitVec 24, x.extractLsb' 13 1 = 0 → x.extractLsb' 12 1 = 0 → x.extractLsb' 10 2 = op →
      x.extractLsb' 8 2 = l.code → x.extractLsb' 15 1 = t → strOptsOf (x.extractLsb' 16 3) = opts →
      x.extractLsb' 19 5 ++ x.extractLsb' 14 1 = unused → parseF5 x = i) (hc : Continues i (pure i)) : Decodes i := by
  refine decodes_f5 op hb (fun x h13 h12 h10 hl hs hu => ?_) hc
  obtain ⟨ho, ht⟩ := (extract_append_iff (m := 3) (n := 1)).mp hs
  exact row x h13 h12 h10 hl ht (ho ▸ strOptsOf_code opts) hu

theorem decodes_f67 {first : Byte} {op : BitVec 4} {q : BitVec 24 → Parse Instr} (hb : i.basic = f67 first op l g1 g2)
    (hq : ∀ x : BitVec 24, x.extractLsb' 0 8 = first → ∀ bs, parseInstr (le24 x ++ bs) = q x bs)
    (row : ∀ x : BitVec 24, x.extractLsb' 10 4 = op → x.extractLsb' 8 2 = l.code → x.extractLsb' 19 5 = g1.code →
      x.extractLsb' 14 5 = g2.code → q x = p) (hc : Continues i p) : Decodes i := by
  refine hc.decodes fun bs => ?_
  rw [hb, f67]
  generalize hx : (g1.code ++ g2.code ++ op ++ l.code ++ first : BitVec 24) = x
  obtain ⟨⟨⟨⟨e1, e2⟩, ho⟩, hl⟩, hf⟩ := f67_fields.mp hx.symm
  rw [hq x hf, row x ho hl e1 e2]

theorem decodes_f8 {op reg : BitVec 3} (hb : i.basic = f8 op l reg g1 g2)
    (row : ∀ x : BitVec 24, x.extractLsb' 10 1 ++ x.extractLsb' 6 2 = op → x.extractLsb' 11 3 = reg →
      x.extractLsb' 8 2 = l.code → x.extractLsb' 19 5 = g1.code → x.extractLsb' 14 5 = g2.code → parseF8 x = p)
    (hc : Continues i p) : Decodes i := by
  refine hc.decodes fun bs => ?_
  rw [hb, f8]
  generalize hx : (g1.code ++ g2.code ++ reg ++ op.extractLsb' 2 1 ++ l.code ++ op.extractLsb' 0 2 ++ 0b101110#6 :
    BitVec 24) = x
  obtain ⟨⟨⟨⟨⟨⟨e1, e2⟩, hr⟩, high⟩, hl⟩, low⟩, hf⟩ := f8_fields.mp hx.symm
  have ho : op = x.extractLsb' 10 1 ++ x.extractLsb' 6 2 :=
    (fields_whole (fields_cons 1 2 Iff.rfl)).mpr ⟨high.symm, low.symm⟩
  rw [← row x ho.symm hr hl e1 e2]
  exact parseInstr_f8 hf bs

theorem decodes_f9 {op : BitVec 3} {k : FLen} {v : BitVec 2} {c1 c2 : BitVec 5} (hb : i.basic = f9 op k v c1 c2)
    (row : ∀ x : BitVec 24, x.extractLsb' 11 3 = op → x.extractLsb' 8 3 = k.code ++ v → x.extractLsb' 10 1 = k.code →
      x.extractLsb' 8 2 = v → x.extractLsb' 19 5 = c1 → x.extractLsb' 14 5 = c2 → parseF9 x = p)
    (hc : Continues i p) : Decodes i := by
  refine hc.decodes fun bs => ?_
  rw [hb, f9]
  generalize hx : (c1 ++ c2 ++ op ++ k.code ++ v ++ 0x3E#8 : BitVec 24) = x
  obtain ⟨⟨⟨⟨⟨e1, e2⟩, ho⟩, hk⟩, hv⟩, hf⟩ := f9_fields.mp hx.symm
  have fi : x.extractLsb' 8 3 = k.code ++ v := (extract_append_iff (m := 1) (n := 2)).mpr ⟨hk, hv⟩
  rw [parseInstr_f9 hf, row x ho fi hk hv e1 e2]

theorem decodes_f11 {op : BitVec 4} {k : FLen} (hb : i.basic = f11 op k g1 g2)
    (row : ∀ x : BitVec 24, x.extractLsb' 10 4 = op → x.extractLsb' 9 1 = 0 → x.extractLsb' 8 1 = k.code →
      x.extractLsb' 19 5 = g1.code → x.extractLsb' 14 5 = g2.code → parseF11 x = p) (hc : Continues i p) :
    Decodes i := by
  refine hc.decodes fun bs => ?_
  rw [hb, f11]
  generalize hx : (g1.code ++ g2.code ++ op ++ 0#1 ++ k.code ++ 0xBE#8 : BitVec 24) = x
  obtain ⟨⟨⟨⟨⟨e1, e2⟩, ho⟩, hz⟩, hk⟩, hf⟩ := f11_fields.mp hx.symm
  rw [parseInstr_f11 hf, row x ho hz hk e1 e2]

theorem decodes_f14 (op : BitVec 2) {short : BitVec 4} {unused : BitVec 1}
    (hb : i.basic = f14 (0b00#2 ++ op) short unused g)
    (row : ∀ x : BitVec 24, x.extractLsb' 13 1 = 0 → x.extractLsb' 12 1 = 0 → x.extractLsb' 10 2 = op →
      x.extractLsb' 8 2 = 0b11 → x.extractLsb' 15 4 = short → x.extractLsb' 14 1 = unused →
        x.extractLsb' 19 5 = g.code →
      parseF14 x = p) (hc : Continues i p) : Decodes i := by
  refine hc.decodes fun bs => ?_
  rw [hb, f14]
  generalize hx : (g.code ++ short ++ unused ++ (0b00#2 ++ op) ++ 0b11#2 ++ 0x1E#8 : BitVec 24) = x
  obtain ⟨⟨⟨⟨⟨e, hs⟩, hu⟩, ho⟩, hl⟩, hf⟩ := f5_fields.mp hx.symm
  obtain ⟨high, ho⟩ := (extract_append_iff (m := 2) (n := 2)).mp ho
  obtain ⟨h13, h12⟩ := (extract_append_iff (m := 1) (n := 1) (x := 0#1) (y := 0#1)).mp high
  rw [parseInstr_f14 hf, row x h13 h12 ho hl hs hu e]

end Formats

theorem decodes_of_wf (i : Instr) (h : i.wf = true) (hraw : Machine.keepsRaw i = false) : Decodes i := by
  cases i
  case beq | bne | bcs | bcc | bhi | bls | bgt | ble | bfs | bfc | blo | bhs | blt | bge | br | bcond1111 | bsr | ret
      | cxp | rxp | rett =>
    exact (continues_disp rfl rfl rfl rfl).decodes fun _ => rfl
  case save | restore | exit =>
    exact (continues_imm rfl rfl rfl rfl).decodes fun _ => rfl
  case enter =>
    exact (continues_imm_disp rfl rfl rfl rfl).decodes fun _ => rfl
  case addqb | addqw | addqd | cmpqb | cmpqw | cmpqd | movqb | movqw | movqd | sprb | sprw | sprd | lprb | lprw | lprd
      | seqb | sneb | scsb | sccb | shib | slsb | sgtb | sleb | sfsb | sfcb | slob | shsb | sltb | sgeb | srb | s1111b
      | seqw | snew | scsw | sccw | shiw | slsw | sgtw | slew | sfsw | sfcw | slow | shsw | sltw | sgew | srw | s1111w
      | seqd | sned | scsd | sccd | shid | slsd | sgtd | sled | sfsd | sfcd | slod | shsd | sltd | sged | srd | s1111d
      =>
    exact decodes_f2 rfl (by decide) (fun w ho hs hl e => by unfold parseF2; rw [ho, hs, hl, e]; rfl)
      (continues_one h rfl rfl rfl rfl (by decide))
  case acbb | acbw | acbd =>
    exact decodes_f2 rfl (by decide) (fun w ho hs hl e => by unfold parseF2; rw [ho, hs, hl, e]; rfl)
      (continues_one_disp h rfl rfl rfl rfl (by decide))
  case cxpd | jump | jsr | bicpsrb | bicpsrw | bispsrb | bispsrw | adjspb | adjspw | adjspd | caseb | casew | cased =>
    exact decodes_f3 rfl (fun w ho hl e => by unfold parseF3; rw [ho, hl, e]; rfl)
      (continues_one h rfl rfl rfl rfl (by decide))
  case addr =>
    exact decodes_f4 rfl (by decide) (fun w ho hl e1 e2 => by unfold parseF4; rw [ho, hl, e1, e2]; rfl)
      (continues_two h (addrOrLxpd_addr h) rfl rfl rfl (by decide) (by decide))
  case lxpd =>
    exact decodes_f4 rfl (by decide) (fun w ho hl e1 e2 => by unfold parseF4; rw [ho, hl, e1, e2]; rfl)
      (continues_two (k := addrOrLxpd) h rfl rfl rfl rfl (by decide) (by decide))
  case addb | addw | addd | cmpb | cmpw | cmpd | bicb | bicw | bicd | addcb | addcw | addcd | movb | movw | movd | orb
      | orw | ord | subb | subw | subd | andb | andw | andd | subcb | subcw | subcd | tbitb | tbitw | tbitd | xorb |
      xorw | xord =>
    exact decodes_f4 rfl (by decide) (fun w ho hl e1 e2 => by unfold parseF4; rw [ho, hl, e1, e2]; rfl)
      (continues_two h rfl rfl rfl rfl (by decide) (by decide))
  case movsb | movsw | movsd | movst =>
    exact decodes_string 0b00 rfl (fun x h13 h12 h10 hl ht hs hu => by
      unfold parseF5; rw [h13, h12, h10, hl, ht, hs, hu]; rfl) (continues_fixed rfl rfl rfl)
  case cmpsb | cmpsw | cmpsd | cmpst =>
    exact decodes_string 0b01 rfl (fun x h13 h12 h10 hl ht hs hu => by
      unfold parseF5; rw [h13, h12, h10, hl, ht, hs, hu]; rfl) (continues_fixed rfl rfl rfl)
  case skpsb | skpsw | skpsd | skpst =>
    exact decodes_string 0b11 rfl (fun x h13 h12 h10 hl ht hs hu => by
      unfold parseF5; rw [h13, h12, h10, hl, ht, hs, hu]; rfl) (continues_fixed rfl rfl rfl)
  case setcfg =>
    exact decodes_f5 0b10 rfl (fun x h13 h12 h10 hl hs hu => by
      unfold parseF5; rw [h13, h12, h10, hl, hs, hu]; rfl) (continues_fixed rfl rfl rfl)
  case rotb | rotw | rotd | ashb | ashw | ashd | cbitb | cbitw | cbitd | cbitib | cbitiw | cbitid | lshb | lshw | lshd
      | sbitb | sbitw | sbitd | sbitib | sbitiw | sbitid | negb | negw | negd | notb | notw | notd | subpb | subpw |
      subpd | absb | absw | absd | comb | comw | comd | ibitb | ibitw | ibitd | addpb | addpw | addpd =>
    exact decodes_f67 rfl (fun _ => parseInstr_f6)
      (fun x ho hl e1 e2 => by unfold parseF6; rw [ho, hl, e1, e2]; rfl)
      (continues_two h rfl rfl rfl rfl (by decide) (by decide))
  case mulb | mulw | muld | meib | meiw | meid | deib | deiw | deid | quob | quow | quod | remb | remw | remd | modb |
      modw | modd | divb | divw | divd | movxbw | movzbw | movzbd | movzwd | movxbd | movxwd =>
    exact decodes_f67 rfl (fun _ => parseInstr_f7)
      (fun x ho hl e1 e2 => by unfold parseF7; rw [ho, hl, e1, e2]; rfl)
      (continues_two h rfl rfl rfl rfl (by decide) (by decide))
  case movmb | movmw | movmd | cmpmb | cmpmw | cmpmd =>
    exact decodes_f67 rfl (fun _ => parseInstr_f7)
      (fun x ho hl e1 e2 => by unfold parseF7; rw [ho, hl, e1, e2]; rfl)
      (continues_two_disp h rfl rfl rfl rfl (by decide) (by decide))
  case inssb | inssw | inssd | extsb | extsw | extsd =>
    exact decodes_f67 rfl (fun _ => parseInstr_f7)
      (fun x ho hl e1 e2 => by unfold parseF7; rw [ho, hl, e1, e2]; rfl)
      (continues_two_imm h rfl rfl rfl rfl (by decide) (by decide))
  case extb | extw | extd | insb | insw | insd =>
    exact decodes_f8 rfl (fun x ho hr hl e1 e2 => by
      unfold parseF8; rw [ho, hr, hl, e1, e2]; dsimp only; rw [regOf_regCode]; rfl)
      (continues_two_disp h rfl rfl rfl rfl (by decide) (by decide))
  case checkb | checkw | checkd | indexb | indexw | indexd | cvtp =>
    exact decodes_f8 rfl (fun x ho hr hl e1 e2 => by
      unfold parseF8; rw [ho, hr, hl, e1, e2]; dsimp only; rw [regOf_regCode]; rfl)
      (continues_two h rfl rfl rfl rfl (by decide) (by decide))
  case ffsb | ffsw | ffsd | movsub | movsuw | movsud | movusb | movusw | movusd =>
    exact decodes_f8 rfl (fun x ho hr hl e1 e2 => by
      unfold parseF8; rw [ho, hr, hl, e1, e2]; rfl) (continues_two h rfl rfl rfl rfl (by decide) (by decide))
  case movbf | movbl | movwf | movwl | movdf | movdl | roundfb | roundfw | roundfd | roundlb | roundlw | roundld |
      truncfb | truncfw | truncfd | trunclb | trunclw | truncld | floorfb | floorfw | floorfd | floorlb | floorlw |
      floorld =>
    exact decodes_f9 rfl (fun x ho hfi hk hl e1 e2 => by unfold parseF9; rw [ho, hk, hl, e1, e2]; rfl)
      (continues_two h rfl rfl rfl rfl (by decide) (by decide))
  case movlf | movfl =>
    exact decodes_f9 rfl (fun x ho hfi hk hl e1 e2 => by unfold parseF9; rw [ho, hfi, e1, e2]; rfl)
      (continues_two h rfl rfl rfl rfl (by decide) (by decide))
  case lfsr | sfsr =>
    exact decodes_f9 rfl (fun x ho hfi hk hl e1 e2 => by unfold parseF9; rw [ho, hfi, e1, e2]; rfl)
      (continues_one h rfl rfl rfl rfl (by decide))
  case addf | addl | movf | movl | cmpf | cmpl | subf | subl | negf | negl | divf | divl | mulf | mull | absf | absl
      =>
    exact decodes_f11 rfl (fun x ho hz hk e1 e2 => by unfold parseF11; rw [ho, hz, hk, e1, e2]; rfl)
      (continues_two h rfl rfl rfl rfl (by decide) (by decide))
  case rdval =>
    exact decodes_f14 0b00 rfl (fun x h13 h12 h10 hl hs hu e => by
      unfold parseF14; rw [h13, h12, h10, hl, hs, hu, e]; rfl)
      (continues_one h (by rw [← unused_fields.mpr ⟨rfl, rfl⟩]) rfl rfl rfl (by decide))
  case wrval =>
    exact decodes_f14 0b01 rfl (fun x h13 h12 h10 hl hs hu e => by
      unfold parseF14; rw [h13, h12, h10, hl, hs, hu, e]; rfl)
      (continues_one h (by rw [← unused_fields.mpr ⟨rfl, rfl⟩]) rfl rfl rfl (by decide))
  case lmr =>
    exact decodes_f14 0b10 rfl (fun x h13 h12 h10 hl hs hu e => by
      unfold parseF14; rw [h13, h12, h10, hl, hs, hu, e]; rfl) (continues_one h rfl rfl rfl rfl (by decide))
  case smr =>
    exact decodes_f14 0b11 rfl (fun x h13 h12 h10 hl hs hu e => by
      unfold parseF14; rw [h13, h12, h10, hl, hs, hu, e]; rfl) (continues_one h rfl rfl rfl rfl (by decide))
  case reti | nop | wait | dia | flag | svc | bpt | custom16 | custom36 | customB6 | und7E | undFE | und9E | und5E |
      undDE | und8E =>
    exact (continues_fixed rfl rfl rfl).decodes fun _ => rfl
  all_goals cases hraw

/-- Settles O1: the decoder finds the row of the Basic Instruction, whose parser reads the rest, by `decodes_of_wf`. -/
theorem encodedInstructionIsDecoded : Obligations.EncodedInstructionIsDecoded :=
  fun i rest h hraw => decodes_of_wf i h hraw rest

end Sys2Proof
end

section
/-! Every encoding of a row that is no instruction is decoded to that row (R139, R190): its mask gives the fields that
the format's parser looks at, and the earlier rows give what they are not. -/

namespace Sys2Proof

variable {i : Instr} {mask matched : Nat} {earlier : List (Nat × Nat)}

/-! ### Masks -/

theorem rawOk_iff {raw : Nat} : rawOk raw mask matched earlier = true ↔
    raw &&& mask = matched ∧ ∀ r ∈ earlier, raw &&& r.1 ≠ r.2 := by
  simp only [rawOk, Bool.and_eq_true, beq_iff_eq, List.all_eq_true, bne_iff_ne]

/-- A field that the mask covers has the value that the row gives it. -/
theorem rawOk_field {n : Nat} {w : BitVec n} (a k : Nat) (h : rawOk w.toNat mask matched earlier = true)
    (cover : mask / 2 ^ a % 2 ^ k = 2 ^ k - 1) : w.extractLsb' a k = BitVec.ofNat k (matched / 2 ^ a) := by
  apply BitVec.eq_of_toNat_eq
  rw [← (rawOk_iff.mp h).1, BitVec.extractLsb'_toNat, BitVec.toNat_ofNat, ← Nat.shiftRight_eq_div_pow,
    Nat.shiftRight_and_distrib, Nat.and_mod_two_pow, Nat.shiftRight_eq_div_pow mask, cover,
    Nat.and_two_pow_sub_one_eq_mod,
    Nat.mod_mod]

/-- The masks of the three-byte rows leave the third byte open. -/
theorem rawOk_low {raw : Nat} (hm : mask < 2 ^ 16) (he : ∀ r ∈ earlier, r.1 < 2 ^ 16) :
    rawOk (raw % 2 ^ 16) mask matched earlier = rawOk raw mask matched earlier := by
  have low {k : Nat} (hk : k < 2 ^ 16) : raw % 2 ^ 16 &&& k = raw &&& k := by
    have e := Nat.and_mod_two_pow (a := raw) (b := k) (n := 16)
    rw [Nat.mod_eq_of_lt hk, Nat.mod_eq_of_lt (Nat.and_lt_two_pow raw hk)] at e
    exact e.symm
  rw [Bool.eq_iff_iff, rawOk_iff, rawOk_iff, low hm]
  exact and_congr_right' (forall₂_congr fun r hr => by rw [low (he r hr)])

/-- A field of the second byte does not have a value that the row admits in no second byte with its first byte. -/
theorem rawOk_ne {x : BitVec 24} (a k : Nat) (v : BitVec k) (h : rawOk x.toNat mask matched earlier = true)
    (side : (mask / 2 ^ 0 % 2 ^ 8 = 2 ^ 8 - 1 ∧ mask < 2 ^ 16 ∧ (∀ r ∈ earlier, r.1 < 2 ^ 16) ∧ a + k ≤ 8) ∧
      ∀ m : Byte, rawOk (m.toNat * 256 + matched % 256) mask matched earlier = true → m.extractLsb' a k ≠ v) :
    x.extractLsb' (8 + a) k ≠ v := by
  obtain ⟨⟨first, hm, he, hk⟩, hv⟩ := side
  rw [← extract_extract x 8 8 a k hk]
  apply hv
  have low : x.toNat % 256 = matched % 256 := by
    have e := congrArg BitVec.toNat (rawOk_field 0 8 h first)
    rwa [BitVec.extractLsb'_toNat, BitVec.toNat_ofNat, Nat.shiftRight_zero, Nat.pow_zero, Nat.div_one] at e
  have word : (x.extractLsb' 8 8).toNat * 256 + matched % 256 = x.toNat % 2 ^ 16 := by
    rw [BitVec.extractLsb'_toNat, Nat.shiftRight_eq_div_pow, ← low]
    omega
  rw [word, rawOk_low hm he, h]

theorem fieldsOk_of_wf (h : i.wf = true) : i.fieldsOk = true := (Bool.and_eq_true_iff.mp h).2

/-! ### First bytes and the two-byte formats -/

theorem decodes_raw8 {b : Byte} (h : rawOk b.toNat 0xF 0x6 [(0xFF, 0x16), (0xFF, 0x36), (0xFF, 0xB6)] = true) :
    Decodes (.undX6Other b) := by
  have fields : ∀ b : Byte, rawOk b.toNat 0xF 0x6 [(0xFF, 0x16), (0xFF, 0x36), (0xFF, 0xB6)] = true →
      b.extractLsb' 0 2 = 0b10 ∧ b.extractLsb' 2 2 = 0b01 ∧ b.extractLsb' 4 4 ≠ 0x1 ∧ b.extractLsb' 4 4 ≠ 0x3 ∧
        b.extractLsb' 4 4 ≠ 0xB := by decide
  obtain ⟨h0, h2, h1, h3, hB⟩ := fields b h
  refine (continues_fixed rfl rfl rfl).decodes fun bs => ?_
  show (if b.extractLsb' 0 2 = 0b10 then _ else _ : Parse Instr) bs = _
  rw [if_pos h0, h2]
  generalize b.extractLsb' 4 4 = u at h1 h3 hB ⊢
  show (match (generalizing := false) u with
    | 0x1 => _
    | 0x3 => _
    | 0xB => _
    | _ => _ : Parse Instr) bs = _
  split
  case h_1 => exact absurd rfl h1
  case h_2 => exact absurd rfl h3
  case h_3 => exact absurd rfl hB
  case h_4 => rfl

theorem decodes_f3_raw {w : Word} {p : Parse Instr} {v : BitVec 2} (hb : i.basic = le16 w)
    (hl : w.extractLsb' 0 2 = v) (hv : v ≠ 0b10) (hm : w.extractLsb' 2 5 = 0b11111) (row : parseF3 w = p)
    (hc : Continues i p) : Decodes i := by
  refine hc.decodes fun bs => ?_
  obtain ⟨high, low⟩ := (extract_append_iff (m := 3) (n := 2) (x := 0b111) (y := 0b11)).mp hm
  rw [hb, parseInstr_le16 (hl.trans_ne hv), if_pos low, if_pos high, row]

theorem decodes_f4_raw {w : Word} {p : Parse Instr} {v : BitVec 2} {op : BitVec 4} (hb : i.basic = le16 w)
    (hl : w.extractLsb' 0 2 = v) (hv : v ≠ 0b10) (ho : w.extractLsb' 2 4 = op) (hop : op.extractLsb' 0 2 ≠ 0b11)
    (row : parseF4 w = p) (hc : Continues i p) : Decodes i := by
  refine hc.decodes fun bs => ?_
  rw [← ho, extract_extract w 2 4 0 2 (by decide)] at hop
  rw [hb, parseInstr_le16 (hl.trans_ne hv), if_neg hop, row]

theorem parseF3_odd {w : Word} (h : w.extractLsb' 7 1 = 1) :
    parseF3 w = pure ((lenOf (w.extractLsb' 0 2)).sel (.undF3OpOddB w) (.undF3OpOddW w) (.undF3OpOddD w)) := by
  rw [← extract_extract w 7 4 0 1 (by decide)] at h
  unfold parseF3
  dsimp only
  generalize w.extractLsb' 7 4 = op at h ⊢
  split
  case h_9 => rfl
  all_goals cases h

/-! ### The three-byte formats -/

theorem decodes_raw24 {x : BitVec 24} {p : Parse Instr} (hp : ∀ bs, parseInstr (le24 x ++ bs) = p bs)
    (hb : i.basic = le24 x) (row : p = pure i) (hc : Continues i (pure i)) : Decodes i :=
  hc.decodes fun bs => by rw [hb, hp, row]

section ThreeBytes

variable {x : BitVec 24}

theorem parseF5_op1xxx (h13 : x.extractLsb' 13 1 = 1) : parseF5 x = .undF5Op1xxx x := by
  unfold parseF5
  exact if_pos h13

theorem parseF5_opX1xx (h13 : x.extractLsb' 13 1 ≠ 1) (h12 : x.extractLsb' 12 1 = 1) : parseF5 x = .undF5OpX1xx x := by
  unfold parseF5
  exact (if_neg h13).trans (if_pos h12)

theorem parseF5_setcfg (h13 : x.extractLsb' 13 1 ≠ 1) (h12 : x.extractLsb' 12 1 ≠ 1) (ho : x.extractLsb' 10 2 = 0b10)
    (hi : x.extractLsb' 8 2 ≠ 0b11) : parseF5 x = .undSETCFGI x := by
  unfold parseF5
  rw [ho]
  exact (if_neg h13).trans <| (if_neg h12).trans (if_neg hi)

theorem parseF5_translate (h13 : x.extractLsb' 13 1 ≠ 1) (h12 : x.extractLsb' 12 1 ≠ 1) (ho : x.extractLsb' 10 2 ≠ 0b10)
    (h15 : x.extractLsb' 15 1 = 1) (hi : x.extractLsb' 8 2 ≠ 0b00) : parseF5 x = .faultF5TI x := by
  unfold parseF5
  dsimp only
  rw [if_neg h13, if_neg h12]
  generalize x.extractLsb' 10 2 = op at ho ⊢
  split
  case h_3 => exact absurd rfl ho
  all_goals rw [if_pos h15, if_neg hi]

theorem parseF5_lengthField (h13 : x.extractLsb' 13 1 ≠ 1) (h12 : x.extractLsb' 12 1 ≠ 1)
    (ho : x.extractLsb' 10 2 ≠ 0b10)
    (h15 : x.extractLsb' 15 1 ≠ 1) (hi : x.extractLsb' 8 2 = 0b10) : parseF5 x = .faultF5I10 x := by
  unfold parseF5
  dsimp only
  rw [if_neg h13, if_neg h12]
  generalize x.extractLsb' 10 2 = op at ho ⊢
  split
  case h_3 => exact absurd rfl ho
  all_goals rw [if_neg h15, if_pos hi]

theorem parseF6_lengthField (hi : x.extractLsb' 8 2 = 0b10) (h4 : x.extractLsb' 10 4 ≠ 0b0100)
    (hA : x.extractLsb' 10 4 ≠ 0b1010) : parseF6 x = pure (.faultF6I10 x) := by
  unfold parseF6
  dsimp only
  generalize x.extractLsb' 10 4 = op at h4 hA ⊢
  split
  case h_5 => exact absurd rfl h4
  case h_11 => exact absurd rfl hA
  all_goals exact if_pos hi

theorem parseF7_lengthField (hi : x.extractLsb' 8 2 = 0b10) (h4 : x.extractLsb' 10 4 ≠ 0b0100)
    (h5 : x.extractLsb' 10 4 ≠ 0b0101) (hA : x.extractLsb' 10 4 ≠ 0b1010) : parseF7 x = pure (.faultF7I10 x) := by
  unfold parseF7
  dsimp only
  generalize x.extractLsb' 10 4 = op at h4 h5 hA ⊢
  split
  case h_5 => exact absurd rfl h4
  case h_6 => exact absurd rfl h5
  case h_7 | h_8 => exact (if_neg (by rw [hi]; decide)).trans (if_pos hi)
  case h_11 => exact absurd rfl hA
  all_goals exact if_pos hi

theorem parseF8_lengthField (hi : x.extractLsb' 8 2 = 0b10)
    (h1 : x.extractLsb' 10 1 ++ x.extractLsb' 6 2 ≠ 0b001#(1 + 2))
    (h7 : x.extractLsb' 10 1 ++ x.extractLsb' 6 2 ≠ 0b111#(1 + 2))
    (h6 : x.extractLsb' 10 1 ++ x.extractLsb' 6 2 = 0b110#(1 + 2) →
      x.extractLsb' 11 3 = 0b001 ∨ x.extractLsb' 11 3 = 0b011) : parseF8 x = pure (.faultF8I10 x) := by
  unfold parseF8
  dsimp only
  generalize x.extractLsb' 10 1 ++ x.extractLsb' 6 2 = op at h1 h7 h6 ⊢
  split
  case h_2 => exact absurd rfl h1
  case h_7 =>
    obtain e | e := h6 rfl
    all_goals
      rw [e]
      exact if_pos hi
  case' h_8 =>
    refine absurd ?_ h7
    clear h6
    revert op
    decide
  all_goals exact if_pos hi

theorem parseF9_lengthField (hi : x.extractLsb' 8 2 = 0b10) (h1 : x.extractLsb' 11 3 ≠ 0b001)
    (h2 : x.extractLsb' 11 3 ≠ 0b010)
    (h3 : x.extractLsb' 11 3 ≠ 0b011) (h6 : x.extractLsb' 11 3 ≠ 0b110) : parseF9 x = pure (.faultF9I10 x) := by
  unfold parseF9
  dsimp only
  generalize x.extractLsb' 11 3 = op at h1 h2 h3 h6 ⊢
  split
  case h_2 => exact absurd rfl h1
  case h_3 => exact absurd rfl h2
  case h_4 => exact absurd rfl h3
  case h_7 => exact absurd rfl h6
  all_goals exact if_pos hi

/-- The last bit of an operation code of which the high bits are known. -/
theorem op_of_high {v : BitVec 3} (h : x.extractLsb' 11 3 = v) :
    x.extractLsb' 10 4 = v ++ 0#1 ∨ x.extractLsb' 10 4 = v ++ 1#1 := by
  have bit : ∀ b : BitVec 1, b = 0#1 ∨ b = 1#1 := by decide
  exact (bit (x.extractLsb' 10 1)).imp (fun e => extract_append_iff.mpr ⟨h, e⟩) fun e => extract_append_iff.mpr ⟨h, e⟩

theorem parseF11_bit9 (h9 : x.extractLsb' 9 1 = 1) (h3 : x.extractLsb' 10 4 ≠ 0b0011) (h' : x.extractLsb' 10 4 ≠ 0b1001)
    (h6 : x.extractLsb' 11 3 ≠ 0b011) (hA : x.extractLsb' 11 3 ≠ 0b101) (hE : x.extractLsb' 11 3 ≠ 0b111) :
    parseF11 x = pure (.undF11Bit9 x) := by
  rw [← extract_extract x 10 4 1 3 (by decide)] at h6 hA hE
  unfold parseF11
  dsimp only
  generalize x.extractLsb' 10 4 = op at h3 h' h6 hA hE ⊢
  split
  case h_4 => exact absurd rfl h3
  case h_8 => exact absurd rfl h'
  case h_11 | h_12 => exact absurd rfl h6
  case h_13 | h_14 => exact absurd rfl hA
  case' h_15 =>
    refine absurd ?_ hE
    clear h6 hA hE
    revert op
    decide
  all_goals exact if_pos h9

theorem parseF14_op1xxx (h13 : x.extractLsb' 13 1 = 1) : parseF14 x = pure (.undF14Op1xxx x) := by
  unfold parseF14
  exact if_pos h13

theorem parseF14_opX1xx (h13 : x.extractLsb' 13 1 ≠ 1) (h12 : x.extractLsb' 12 1 = 1) :
    parseF14 x = pure (.undF14OpX1xx x) := by
  unfold parseF14
  exact (if_neg h13).trans (if_pos h12)

theorem parseF14_lengthField (h13 : x.extractLsb' 13 1 ≠ 1) (h12 : x.extractLsb' 12 1 ≠ 1)
    (hi : x.extractLsb' 8 2 ≠ 0b11) :
    parseF14 x = pure (.undF14I x) := by
  unfold parseF14
  exact (if_neg h13).trans <| (if_neg h12).trans (if_neg hi)

/-- The operation code of a length fault of Format 8, whose first byte is open. -/
theorem faultF8I10_fields (h : (Instr.faultF8I10 x).fieldsOk = true) :
    x.extractLsb' 10 1 ++ x.extractLsb' 6 2 ≠ 0b001#(1 + 2) ∧ x.extractLsb' 10 1 ++ x.extractLsb' 6 2 ≠ 0b111#(1 + 2) ∧
      (x.extractLsb' 10 1 ++ x.extractLsb' 6 2 = 0b110#(1 + 2) →
        x.extractLsb' 11 3 = 0b001 ∨ x.extractLsb' 11 3 = 0b011) := by
  have fields : ∀ (v : BitVec 2) (m : Byte),
      (Instr.faultF8I10 (BitVec.ofNat 24 (m.toNat * 256 + v.toNat * 64 + 0x2E))).fieldsOk = true →
      m.extractLsb' 2 1 ++ v ≠ 0b001#(1 + 2) ∧ m.extractLsb' 2 1 ++ v ≠ 0b111#(1 + 2) ∧
        (m.extractLsb' 2 1 ++ v = 0b110#(1 + 2) → m.extractLsb' 3 3 = 0b001 ∨ m.extractLsb' 3 3 = 0b011) := by
    decide
  have low : x.toNat % 64 = 0x2E := by
    have e := congrArg BitVec.toNat (rawOk_field 0 6 h rfl)
    rwa [BitVec.extractLsb'_toNat, Nat.shiftRight_zero] at e
  have word : (x.extractLsb' 8 8).toNat * 256 + (x.extractLsb' 6 2).toNat * 64 + 0x2E = x.toNat % 2 ^ 16 := by
    rw [BitVec.extractLsb'_toNat, BitVec.extractLsb'_toNat, Nat.shiftRight_eq_div_pow, Nat.shiftRight_eq_div_pow]
    omega
  have small : (BitVec.ofNat 24 (x.toNat % 2 ^ 16)).toNat = x.toNat % 2 ^ 16 := by
    rw [BitVec.toNat_ofNat]
    omega
  have middle := fields (x.extractLsb' 6 2) (x.extractLsb' 8 8)
  rw [word, extract_extract x 8 8 2 1 (by decide), extract_extract x 8 8 3 3 (by decide)] at middle
  apply middle
  show rawOk (BitVec.ofNat 24 (x.toNat % 2 ^ 16)).toNat _ _ _ = true
  rw [small, rawOk_low (by decide) (by decide)]
  exact h

end ThreeBytes

theorem decodes_of_keepsRaw (i : Instr) (h : i.wf = true) (hraw : Machine.keepsRaw i = true) : Decodes i := by
  have ok := fieldsOk_of_wf h
  cases i
  case undX6Other => exact decodes_raw8 ok
  case undF3Op1000B | undCXPDIB | undJUMPIB | undJSRIB | undF3Op1000W | undCXPDIW | undJUMPIW | undJSRIW | undF3Op1000D
      | undBICPSRD | undBISPSRD =>
    exact decodes_f3_raw rfl (rawOk_field 0 2 ok rfl) (by decide) (rawOk_field 2 5 ok rfl)
      (by unfold parseF3; rw [rawOk_field 7 4 ok rfl, rawOk_field 0 2 ok rfl]; rfl) (continues_fixed rfl rfl rfl)
  case undF3OpOddB | undF3OpOddW | undF3OpOddD =>
    exact decodes_f3_raw rfl (rawOk_field 0 2 ok rfl) (by decide) (rawOk_field 2 5 ok rfl)
      ((parseF3_odd (rawOk_field 7 1 ok rfl)).trans (by rw [rawOk_field 0 2 ok rfl]; rfl)) (continues_fixed rfl rfl rfl)
  case undADDRIB | undADDRIW =>
    exact decodes_f4_raw rfl (rawOk_field 0 2 ok rfl) (by decide) (rawOk_field 2 4 ok rfl) (by decide)
      (by unfold parseF4; rw [rawOk_field 2 4 ok rfl, rawOk_field 0 2 ok rfl]; rfl) (continues_fixed rfl rfl rfl)
  case undF5Op1xxx =>
    exact decodes_raw24 (parseInstr_f5 (rawOk_field 0 8 ok rfl)) rfl
      (congrArg pure (parseF5_op1xxx (rawOk_field 13 1 ok rfl))) (continues_fixed rfl rfl rfl)
  case undF5OpX1xx =>
    exact decodes_raw24 (parseInstr_f5 (rawOk_field 0 8 ok rfl)) rfl
      (congrArg pure (parseF5_opX1xx (rawOk_ne 5 1 1 ok (by decide)) (rawOk_field 12 1 ok rfl)))
      (continues_fixed rfl rfl rfl)
  case undSETCFGI =>
    exact decodes_raw24 (parseInstr_f5 (rawOk_field 0 8 ok rfl)) rfl
      (congrArg pure (parseF5_setcfg (rawOk_ne 5 1 1 ok (by decide)) (rawOk_ne 4 1 1 ok (by decide))
        (rawOk_field 10 2 ok rfl) (rawOk_ne 0 2 0b11 ok (by decide)))) (continues_fixed rfl rfl rfl)
  case faultF5TI =>
    exact decodes_raw24 (parseInstr_f5 (rawOk_field 0 8 ok rfl)) rfl
      (congrArg pure (parseF5_translate (rawOk_ne 5 1 1 ok (by decide)) (rawOk_ne 4 1 1 ok (by decide))
        (rawOk_ne 2 2 0b10 ok (by decide)) (rawOk_field 15 1 ok rfl) (rawOk_ne 0 2 0b00 ok (by decide))))
      (continues_fixed rfl rfl rfl)
  case faultF5I10 =>
    exact decodes_raw24 (parseInstr_f5 (rawOk_field 0 8 ok rfl)) rfl
      (congrArg pure (parseF5_lengthField (rawOk_ne 5 1 1 ok (by decide)) (rawOk_ne 4 1 1 ok (by decide))
        (rawOk_ne 2 2 0b10 ok (by decide)) (rawOk_ne 7 1 1 ok (by decide)) (rawOk_field 8 2 ok rfl)))
      (continues_fixed rfl rfl rfl)
  case undF6Op0100 | undF6Op1010 =>
    exact decodes_raw24 (parseInstr_f6 (rawOk_field 0 8 ok rfl)) rfl
      (by unfold parseF6; rw [rawOk_field 10 4 ok rfl]; rfl) (continues_fixed rfl rfl rfl)
  case faultF6I10 =>
    exact decodes_raw24 (parseInstr_f6 (rawOk_field 0 8 ok rfl)) rfl
      (parseF6_lengthField (rawOk_field 8 2 ok rfl) (rawOk_ne 2 4 0b0100 ok (by decide))
        (rawOk_ne 2 4 0b1010 ok (by decide)))
      (continues_fixed rfl rfl rfl)
  case undF7Op1010 =>
    exact decodes_raw24 (parseInstr_f7 (rawOk_field 0 8 ok rfl)) rfl
      (by unfold parseF7; rw [rawOk_field 10 4 ok rfl]; rfl) (continues_fixed rfl rfl rfl)
  case undMOVXBWI | undMOVZBWI =>
    exact decodes_raw24 (parseInstr_f7 (rawOk_field 0 8 ok rfl)) rfl
      (by unfold parseF7; rw [rawOk_field 10 4 ok rfl]; exact if_neg (rawOk_ne 0 2 0b00 ok (by decide)))
      (continues_fixed rfl rfl rfl)
  case undMOVZiDD | undMOVXiDD =>
    exact decodes_raw24 (parseInstr_f7 (rawOk_field 0 8 ok rfl)) rfl
      (by unfold parseF7; rw [rawOk_field 10 4 ok rfl]; exact if_pos (rawOk_field 8 2 ok rfl))
      (continues_fixed rfl rfl rfl)
  case faultF7I10 =>
    exact decodes_raw24 (parseInstr_f7 (rawOk_field 0 8 ok rfl)) rfl
      (parseF7_lengthField (rawOk_field 8 2 ok rfl) (rawOk_ne 2 4 0b0100 ok (by decide))
        (rawOk_ne 2 4 0b0101 ok (by decide))
        (rawOk_ne 2 4 0b1010 ok (by decide))) (continues_fixed rfl rfl rfl)
  case undF8Op111 =>
    exact decodes_raw24 (parseInstr_f8 (rawOk_field 0 6 ok rfl)) rfl
      (by unfold parseF8; rw [rawOk_field 10 1 ok rfl, rawOk_field 6 2 ok rfl]; rfl) (continues_fixed rfl rfl rfl)
  case undCVTPI =>
    exact decodes_raw24 (parseInstr_f8 (rawOk_field 0 6 ok rfl)) rfl
      (by
        unfold parseF8
        rw [rawOk_field 10 1 ok rfl, rawOk_field 6 2 ok rfl]
        exact if_neg (rawOk_ne 0 2 0b11 ok (by decide))) (continues_fixed rfl rfl rfl)
  case undF8Op110Reg000 | undF8Op110Reg010 | undF8Op110Reg100 | undF8Op110Reg101 | undF8Op110Reg110 |
      undF8Op110Reg111 =>
    exact decodes_raw24 (parseInstr_f8 (rawOk_field 0 6 ok rfl)) rfl
      (by unfold parseF8; rw [rawOk_field 10 1 ok rfl, rawOk_field 6 2 ok rfl, rawOk_field 11 3 ok rfl]; rfl)
      (continues_fixed rfl rfl rfl)
  case faultF8I10 =>
    obtain ⟨h1, h7, h6⟩ := faultF8I10_fields ok
    exact decodes_raw24 (parseInstr_f8 (rawOk_field 0 6 ok rfl)) rfl
      (parseF8_lengthField (rawOk_field 8 2 ok rfl) h1 h7 h6)
      (continues_fixed rfl rfl rfl)
  case undLFSRFi | undSFSRFi =>
    exact decodes_raw24 (parseInstr_f9 (rawOk_field 0 8 ok rfl)) rfl
      (by unfold parseF9; rw [rawOk_field 11 3 ok rfl]; exact if_neg (rawOk_ne 0 3 0b111 ok (by decide)))
      (continues_fixed rfl rfl rfl)
  case undMOVLFFi =>
    exact decodes_raw24 (parseInstr_f9 (rawOk_field 0 8 ok rfl)) rfl
      (by unfold parseF9; rw [rawOk_field 11 3 ok rfl]; exact if_neg (rawOk_ne 0 3 0b110 ok (by decide)))
      (continues_fixed rfl rfl rfl)
  case undMOVFLFi =>
    exact decodes_raw24 (parseInstr_f9 (rawOk_field 0 8 ok rfl)) rfl
      (by unfold parseF9; rw [rawOk_field 11 3 ok rfl]; exact if_neg (rawOk_ne 0 3 0b011 ok (by decide)))
      (continues_fixed rfl rfl rfl)
  case faultF9I10 =>
    exact decodes_raw24 (parseInstr_f9 (rawOk_field 0 8 ok rfl)) rfl
      (parseF9_lengthField (rawOk_field 8 2 ok rfl) (rawOk_ne 3 3 0b001 ok (by decide))
        (rawOk_ne 3 3 0b010 ok (by decide))
        (rawOk_ne 3 3 0b011 ok (by decide)) (rawOk_ne 3 3 0b110 ok (by decide))) (continues_fixed rfl rfl rfl)
  case fpuILLEGAL0011 | fpuILLEGAL1001 =>
    exact decodes_raw24 (parseInstr_f11 (rawOk_field 0 8 ok rfl)) rfl
      (by unfold parseF11; rw [rawOk_field 10 4 ok rfl]; rfl) (continues_fixed rfl rfl rfl)
  case undF11Op011x | undF11Op101x | undF11Op111x =>
    refine decodes_raw24 (parseInstr_f11 (rawOk_field 0 8 ok rfl)) rfl ?_ (continues_fixed rfl rfl rfl)
    obtain ho | ho := op_of_high (rawOk_field 11 3 ok rfl)
    all_goals
      unfold parseF11
      rw [ho]
      rfl
  case undF11Bit9 =>
    exact decodes_raw24 (parseInstr_f11 (rawOk_field 0 8 ok rfl)) rfl
      (parseF11_bit9 (rawOk_field 9 1 ok rfl) (rawOk_ne 2 4 0b0011 ok (by decide)) (rawOk_ne 2 4 0b1001 ok (by decide))
        (rawOk_ne 3 3 0b011 ok (by decide)) (rawOk_ne 3 3 0b101 ok (by decide)) (rawOk_ne 3 3 0b111 ok (by decide)))
      (continues_fixed rfl rfl rfl)
  case undF14Op1xxx =>
    exact decodes_raw24 (parseInstr_f14 (rawOk_field 0 8 ok rfl)) rfl (parseF14_op1xxx (rawOk_field 13 1 ok rfl))
      (continues_fixed rfl rfl rfl)
  case undF14OpX1xx =>
    exact decodes_raw24 (parseInstr_f14 (rawOk_field 0 8 ok rfl)) rfl
      (parseF14_opX1xx (rawOk_ne 5 1 1 ok (by decide)) (rawOk_field 12 1 ok rfl)) (continues_fixed rfl rfl rfl)
  case undF14I =>
    exact decodes_raw24 (parseInstr_f14 (rawOk_field 0 8 ok rfl)) rfl
      (parseF14_lengthField (rawOk_ne 5 1 1 ok (by decide)) (rawOk_ne 4 1 1 ok (by decide))
        (rawOk_ne 0 2 0b11 ok (by decide)))
      (continues_fixed rfl rfl rfl)
  all_goals cases hraw

/-- Settles O2: the mask of a row decides the branch of its format's parser, by `decodes_of_keepsRaw`. -/
theorem unassignedEncodingIsDecoded : Obligations.UnassignedEncodingIsDecoded :=
  fun i rest h hraw => decodes_of_keepsRaw i h hraw rest

end Sys2Proof
end

section
/-! The effective address of each addressing mode (R178, R181, R182, R185 to R188), read off its definition where memory
is plain. -/

namespace Sys2Proof.Machine

variable {s t : State} {a b : Int} {d d1 d2 : Disp} {m : Base}

/-! ### Displacements, pointers and the Link Table -/

theorem dispValue_ok (h : d.ok = true) : Gives (dispValue d) s d.value s := by
  simp only [dispValue, gives_bind, gives_ensure, gives_pure]
  exact ⟨(), s, ⟨h, rfl⟩, trivial, rfl⟩

/-- A mode that adds a displacement to a register (R178, R181). -/
theorem viaRegister_ok (b : Int) (h : d.ok = true) : Gives (viaRegister b d) s (b + d.value) s := by
  simp only [viaRegister, gives_bind, gives_pure]
  exact ⟨_, _, dispValue_ok h, rfl, rfl⟩

/-- A double-word of plain memory, as a number. -/
theorem uval_load (mem : List Host.Cell) (a : Nat) : uval 4 (BitVec.ofNat 64 (load mem a 4)) = load mem a 4 := by
  have := load_lt mem a 4
  unfold uval
  rw [BitVec.toNat_ofNat]
  omega

/-- A mode that adds a displacement to a pointer in memory (R182). -/
theorem viaPointer_plain (hs : s.plain) (h1 : d1.ok = true) (h2 : d2.ok = true)
    (ha : inSpace (b + d1.value) 4 = true) :
    Gives (viaPointer b d1 d2) s (load s.mem (b + d1.value).toNat 4 + d2.value) s := by
  simp only [viaPointer, gives_bind, gives_pure]
  exact ⟨_, _, dispValue_ok h1, _, _, dispValue_ok h2, _, _, memRead_plain hs _ 4 (by omega) ha, by rw [uval_load], rfl⟩

theorem moduleAddress_ok {w : Word} (h : w.toNat < 0xFFF1) : Gives (moduleAddress w) s w.toNat s := by
  simp only [moduleAddress, gives_bind, gives_ensure, gives_pure]
  exact ⟨(), s, ⟨decide_eq_true h, rfl⟩, trivial, rfl⟩

/-- An entry of the Link Table (R96): the table's address is the second double-word of the module's entry. -/
theorem linkEntry_plain {x : Int} (hs : s.plain) (hm : s.mod.toNat < 0xFFF1)
    (ha : inSpace (load s.mem (s.mod.toNat + 4) 4 + 4 * x) 4 = true) :
    Gives (linkEntry x) s (BitVec.ofNat 64 (load s.mem (load s.mem (s.mod.toNat + 4) 4 + 4 * x).toNat 4)) s := by
  have table := memRead_plain hs (s.mod.toNat + 4) 4 (by omega) (by rw [inSpace_iff]; omega)
  have entry := memRead_plain hs _ 4 (by omega) ha
  rw [show ((s.mod.toNat : Int) + 4).toNat = s.mod.toNat + 4 by omega] at table
  simp only [linkEntry, gives_bind, gives_get]
  refine ⟨_, _, ⟨rfl, rfl⟩, _, _, moduleAddress_ok hm, _, _, table, ?_⟩
  rw [uval_load]
  exact entry

/-- External (R185): a displacement is added to an entry of the Link Table. -/
theorem external_plain (hs : s.plain) (hm : s.mod.toNat < 0xFFF1) (h1 : d1.ok = true) (h2 : d2.ok = true)
    (ha : inSpace (load s.mem (s.mod.toNat + 4) 4 + 4 * d1.value) 4 = true) :
    Gives (Base.address (.ext d1 d2)) s
      (load s.mem (load s.mem (s.mod.toNat + 4) 4 + 4 * d1.value).toNat 4 + d2.value) s := by
  simp only [Base.address, gives_bind, gives_get, gives_pure]
  exact ⟨_, _, ⟨rfl, rfl⟩, _, _, dispValue_ok h1, _, _, dispValue_ok h2, _, _, linkEntry_plain hs hm ha,
    by rw [uval_load], rfl⟩

/-- A base mode reads the state first, which changes nothing. -/
theorem address_of_get {k : State → Act Int} (hm : Base.address m = get >>= k) (h : Gives (k s) s a s) :
    Gives (exactAddress (.base m)) s a s := by
  rw [exactAddress, hm, gives_bind]
  exact ⟨s, s, (gives_get s s s).mpr ⟨rfl, rfl⟩, h⟩

theorem answers_pure (a : Int) : Gives (pure a : Act Int) s a s := (gives_pure a s a s).mpr ⟨rfl, rfl⟩

/-! ### Scaled Index (R188) -/

theorem scaledBy_ok (sc : Scale) (r : Reg) (a : Int) :
    Gives (scaledBy sc r a) s (a + scaleFactor sc * (s.reg r).toInt) s := by
  simp only [scaledBy, gives_bind, gives_get, gives_pure]
  exact ⟨_, _, ⟨rfl, rfl⟩, rfl, rfl⟩

/-- The index is the register's value from before the base address is computed, which changes no register. -/
theorem scaledBy_after_address (h : Gives (Base.address m) s a t) (sc : Scale) (r : Reg) :
    Gives (scaledBy sc r a) t (a + scaleFactor sc * (s.reg r).toInt) t := by
  rw [← ((address_reads h).keeps {}).regs r (by simp)]
  exact scaledBy_ok sc r a

theorem exactAddress_scaled (h : Gives (Base.address m) s a t) (sc : Scale) (r : Reg) :
    Gives (exactAddress (.scaled sc r m)) s (a + scaleFactor sc * (s.reg r).toInt) t :=
  (gives_bind _ _ _ _ _).mpr ⟨a, t, h, scaledBy_after_address h sc r⟩

/-! ### The range of an address (R82, D2) -/

theorem existing_inside (h : inSpace a 1 = true) : Gives (existing a) s a s :=
  existing_gives.mpr ⟨by rw [inSpace_iff] at h; omega, rfl, rfl⟩

theorem existing_outside (h : inSpace a 1 = false) : Abandons (existing a) s (.fault .outsideSpace) s := by
  simp only [existing, abandons_bind, abandons_ensure]
  exact .inl ⟨h, trivial, trivial⟩

theorem addrOp_base_inside (h : Gives (Base.address m) s a t) (ha : inSpace a 1 = true) :
    Gives (addrOp (.base m)) s a t :=
  (gives_bind _ _ _ _ _).mpr ⟨a, t, h, existing_inside ha⟩

theorem addrOp_base_outside (h : Gives (Base.address m) s a t) (ha : inSpace a 1 = false) :
    Abandons (addrOp (.base m)) s (.fault .outsideSpace) t :=
  (abandons_bind _ _ _ _ _).mpr (.inr ⟨a, t, h, existing_outside ha⟩)

/-- A base address outside the space faults before it is indexed. -/
theorem addrOp_scaled_base_outside (h : Gives (Base.address m) s a t) (ha : inSpace a 1 = false) (sc : Scale)
    (r : Reg) :
    Abandons (addrOp (.scaled sc r m)) s (.fault .outsideSpace) t :=
  (abandons_bind _ _ _ _ _).mpr (.inr ⟨a, t, h, (abandons_bind _ _ _ _ _).mpr (.inl (existing_outside ha))⟩)

/-- Where the base address exists, the indexed one is what is tested next. -/
theorem addrOp_scaled_eq {sc : Scale} {r : Reg} (h : Gives (Base.address m) s a t) (ha : inSpace a 1 = true)
    (hb : Gives (exactAddress (.scaled sc r m)) s b t) :
    (inSpace b 1 = true → Gives (addrOp (.scaled sc r m)) s b t) ∧
      (inSpace b 1 = false → Abandons (addrOp (.scaled sc r m)) s (.fault .outsideSpace) t) := by
  obtain ⟨rfl, -⟩ := hb.unique (exactAddress_scaled h sc r)
  have indexed := scaledBy_after_address h sc r
  simp only [addrOp, gives_bind, abandons_bind]
  exact ⟨fun hi => ⟨_, _, h, _, _, existing_inside ha, _, _, indexed, existing_inside hi⟩,
    fun ho => .inr ⟨_, _, h, .inr ⟨_, _, existing_inside ha, .inr ⟨_, _, indexed, existing_outside ho⟩⟩⟩⟩

/-- Settles O20, mode by mode; a scaled index then adds to whatever its base mode gives. -/
theorem effectiveAddresses : Obligations.EffectiveAddresses := by
  intro s d d2 r hd hd2
  have register {m : Base} {k : State → Act Int} {b : Int} (hm : Base.address m = get >>= k)
      (hk : k s = viaRegister b d) :
      Gives (exactAddress (.base m)) s (b + d.value) s := address_of_get hm (hk ▸ viaRegister_ok b hd)
  have pointer {m : Base} {k : State → Act Int} {b : Int} (hm : Base.address m = get >>= k)
      (hk : k s = viaPointer b d d2) (hs : s.plain) (ha : inSpace (b + d.value) 4 = true) :
      Gives (exactAddress (.base m)) s (load s.mem (b + d.value).toNat 4 + d2.value) s :=
    address_of_get hm (hk ▸ viaPointer_plain hs hd hd2 ha)
  refine ⟨address_of_get (m := .reg r) rfl (answers_pure _), register rfl rfl, register rfl rfl, register rfl rfl,
    register rfl rfl, register rfl rfl, address_of_get (m := .abs d) rfl (dispValue_ok hd),
    address_of_get (m := .tos) rfl (answers_pure _), pointer rfl rfl, pointer rfl rfl, pointer rfl rfl,
    fun hs hm => external_plain hs hm hd hd2, fun m a t h => ?_⟩
  have scaled (sc : Scale) := exactAddress_scaled h sc r
  exact ⟨one_mul (s.reg r).toInt ▸ scaled .b, scaled .w, scaled .d, scaled .q, addrOp_base_inside h,
    fun ha => ⟨addrOp_base_outside h ha, fun sc => addrOp_scaled_base_outside h ha sc r⟩,
    fun sc b hb ha => addrOp_scaled_eq h ha hb⟩

end Sys2Proof.Machine
end

section
/-! Top of Stack as an operand (R187, R93), in plain memory. -/

namespace Sys2Proof.Machine

variable {s : State} {n : Nat}

/-- A store leaves the selected stack pointer alone. -/
theorem State.sp_store (s : State) (a n v : Nat) : (s.store a n v).sp = s.sp := by
  rw [State.store_eq]
  rfl

/-- A push of a whole slot: SP moves down by it, and the item is there (R93). -/
theorem push_plain (hs : s.plain) (v : QWord) (hn : n ≤ s.sp.toNat) :
    ∃ t, Gives (push n v) s () t ∧ t.sp.toNat = s.sp.toNat - n ∧ load t.mem (s.sp.toNat - n) n = uval n v := by
  have hlt := s.sp.isLt
  refine ⟨_, pushSlot_plain hs n n v le_rfl hn, ?_, load_store_uval _ _ _ _⟩
  rw [State.sp_store, State.sp_setSp, BitVec.toNat_ofNat, Nat.mod_eq_of_lt (by omega)]

/-- Top of Stack, read and written, is memory at SP. -/
theorem locateRmw_tos (k : Kind) (n : Nat) (s : State) : Gives (locateRmw k n (.base .tos)) s (.mem s.sp.toNat) s := by
  have top : Gives (exactAddress (.base .tos)) s s.sp.toNat s := address_of_get (m := .tos) rfl (answers_pure _)
  have inside : inSpace (s.sp.toNat : Int) 1 = true := by
    have := s.sp.isLt
    rw [inSpace_iff]
    omega
  exact (gives_bind _ _ _ _ _).mpr ⟨_, s, addrOp_base_inside top inside, (gives_pure _ _ _ _).mpr ⟨rfl, rfl⟩⟩

/-- Settles O19: read, Top of Stack is a pop; written, a push; read and written, memory at SP. -/
theorem topOfStack : Obligations.TopOfStack := by
  intro s n v hs _ hn
  refine ⟨pop_plain hs n hn, fun hsp => ?_, locateRmw_tos .int n s⟩
  obtain ⟨t, pushes, moved, stored⟩ := push_plain hs v hsp
  have keeps := (pushSlot_keeps pushes).1
  exact ⟨t, (gives_pure _ _ _ _).mpr ⟨rfl, rfl⟩, pushes, moved, stored, keeps⟩

end Sys2Proof.Machine
end

section
/-! The exception sequence in plain memory (R520, R540, R541): three pushes on the Interrupt Stack, then the
descriptor's module entered. -/

namespace Sys2Proof.Machine

variable {s t : State}

/-! ### The frame -/

theorem State.flag_store (s : State) (a n v k : Nat) : (s.store a n v).flag k = s.flag k := by
  rw [State.store_eq]
  rfl

theorem State.mod_store (s : State) (a n v : Nat) : (s.store a n v).mod = s.mod := by
  rw [State.store_eq]

theorem State.intbase_store (s : State) (a n v : Nat) : (s.store a n v).intbase = s.intbase := by
  rw [State.store_eq]

/-- A store does not see the Interrupt Stack Pointer. -/
theorem State.store_withSp0 (s : State) (sp0 : Addr) (a n v : Nat) :
    ({ s with sp0 } : State).store a n v = { s.store a n v with sp0 } := by
  induction n generalizing s a v with
  | zero => rfl
  | succ n ih => exact ih (s.storeByte a (BitVec.ofNat 8 v)) (a + 1) (v / 256)

theorem State.setSp_interrupt (hS : s.flag bitS = false) (a : Addr) : s.setSp a = { s with sp0 := a } := by
  simp [State.setSp, hS]

theorem State.sp_interrupt (hS : s.flag bitS = false) : s.sp = s.sp0 := by simp [State.sp, hS]

/-- A push on the Interrupt Stack (R93), which stands at `a`. -/
theorem push_interrupt (hs : s.plain) (hS : s.flag bitS = false) {a : Nat} (ha : s.sp0.toNat = a) {n w : Nat}
    (v : BitVec w) (hw : w ≤ 64) (hn : n ≤ a) :
    Gives (push n (v.setWidth 64)) s () { s.store (a - n) n v.toNat with sp0 := BitVec.ofNat 24 (a - n) } := by
  subst ha
  have pushed := pushSlot_plain hs n n (v.setWidth 64) le_rfl (by rwa [State.sp_interrupt hS])
  rwa [State.setSp_interrupt hS, State.store_withSp0, State.sp_interrupt hS, BitVec.toNat_setWidth_of_le hw] at pushed

/-! ### The service procedure -/

theorem memRead_nat (hs : s.plain) (a n : Nat) (hn : n ≤ 8) (ha : a + n ≤ 2 ^ 24) :
    Gives (memRead a n) s (BitVec.ofNat 64 (load s.mem a n)) s := by
  have inside : inSpace a n = true := by
    rw [inSpace_iff]
    omega
  simpa only [Int.toNat_natCast] using memRead_plain hs a n hn inside

/-- SB is loaded with the low bits of the first double-word of the module's entry (R95). -/
theorem toAddr_load (mem : List Host.Cell) (a n : Nat) : toAddr (BitVec.ofNat 64 (load mem a n)) =
    BitVec.ofNat 24 (load mem a n) := by
  apply BitVec.eq_of_toNat_eq
  simp only [toAddr, BitVec.toNat_setWidth, BitVec.toNat_ofNat]
  omega

/-- A module is entered through a descriptor (R541). -/
theorem enterModule_plain (hs : s.plain) {x : Nat} (hx : x < 2 ^ 32) (hm : x % 2 ^ 16 < 0xFFF1) :
    Gives (enterModule (BitVec.ofNat 64 x)) s (load s.mem (x % 2 ^ 16 + 8) 4 + x / 2 ^ 16 : Nat)
      { s with mod := BitVec.ofNat 16 (x % 2 ^ 16), sb := BitVec.ofNat 24 (load s.mem (x % 2 ^ 16) 4) } := by
  set m := x % 2 ^ 16 with hm'
  have low : (BitVec.ofNat 64 x).setWidth 16 = BitVec.ofNat 16 m := by
    apply BitVec.eq_of_toNat_eq
    simp only [BitVec.toNat_setWidth, BitVec.toNat_ofNat]
    omega
  have lowNat : (BitVec.ofNat 16 m).toNat = m := by
    rw [BitVec.toNat_ofNat]
    omega
  have offset : ((BitVec.ofNat 64 x).extractLsb' 16 16).toNat = x / 2 ^ 16 := by
    rw [BitVec.extractLsb'_toNat, BitVec.toNat_ofNat, Nat.shiftRight_eq_div_pow]
    omega
  let s1 : State := { s with mod := BitVec.ofNat 16 m }
  let s2 : State := { s1 with sb := BitVec.ofNat 24 (load s.mem m 4) }
  have entered (u : State) : Gives (moduleAddress (BitVec.ofNat 16 m)) u m u := by
    simpa only [lowNat] using moduleAddress_ok (s := u) (w := BitVec.ofNat 16 m) (by omega)
  have plain1 : s1.plain := hs.of_eq rfl rfl rfl
  have plain2 : s2.plain := hs.of_eq rfl rfl rfl
  have hlt : m + 8 + 4 ≤ 2 ^ 24 := by omega
  have base : Gives (memRead m 4) s1 (BitVec.ofNat 64 (load s.mem m 4)) s1 :=
    memRead_nat plain1 m 4 (by omega) (by omega)
  have entry : Gives (memRead ((m : Int) + 8) 4) s2 (BitVec.ofNat 64 (load s.mem (m + 8) 4)) s2 :=
    Nat.cast_add (R := Int) m 8 ▸ memRead_nat plain2 (m + 8) 4 (by omega) hlt
  have reloaded : Gives reloadSb s1 () s2 := by
    simp only [reloadSb, gives_bind, gives_get, gives_modify]
    exact ⟨_, _, ⟨rfl, rfl⟩, _, _, entered s1, _, _, base, by rw [toAddr_load]⟩
  simp only [enterModule, gives_bind, gives_modify, gives_pure, low]
  refine ⟨(), s1, rfl, (), s2, reloaded, _, _, entered s2, _, _, entry, ?_, rfl⟩
  rw [uval_load, offset, Nat.cast_add]

/-- The descriptor of a vector is read and its procedure begun (R541). -/
theorem serve_plain (hs : s.plain) {vector : Nat} (hv : s.intbase.toNat + 4 * vector + 4 ≤ 2 ^ 24)
    (hm : s.descriptor vector % 2 ^ 16 < 0xFFF1)
    (ha : load s.mem (s.descriptor vector % 2 ^ 16 + 8) 4 + s.descriptor vector / 2 ^ 16 < 2 ^ 24) :
    Gives (memRead (s.intbase.toNat + 4 * vector) 4 >>= fun desc => enterModule desc >>= jumpTo) s ()
      { s.served vector with activity := s.activity } := by
  have read : Gives (memRead ((s.intbase.toNat : Int) + 4 * vector) 4) s (BitVec.ofNat 64 (s.descriptor vector)) s := by
    have := memRead_nat hs (s.intbase.toNat + 4 * vector) 4 (by omega) hv
    rwa [Nat.cast_add, Nat.cast_mul] at this
  have entered := enterModule_plain hs (load_lt _ _ _) hm
  simp only [gives_bind]
  refine ⟨_, _, read, _, _, entered, ?_⟩
  simp only [jumpTo, gives_bind, gives_ensure, gives_modify]
  refine ⟨(), _, ⟨by rw [inSpace_iff]; omega, rfl⟩, ?_⟩
  rw [BitVec.ofInt_natCast]
  rfl

/-! ### The sequence -/

/-- The three pushes of a sequence (R513), on the Interrupt Stack that the new PSR selects. -/
theorem frame_pushed (hs : s.plain) {psr : Word} (hS : psr.getLsbD bitS = false) (h8 : 8 ≤ s.sp0.toNat) (copy : Word)
    (ra : Addr) : ∃ t u, t.mod = s.mod ∧ Gives (push 2 (copy.setWidth 64)) { s with psr } () t ∧
      Gives (push 2 (s.mod.setWidth 64)) t () u ∧ Gives (push 4 (ra.setWidth 64)) u () (s.pushed copy psr ra) := by
  set a := s.sp0.toNat with ha
  have hlt : a < 2 ^ 24 := s.sp0.isLt
  have below (k : Nat) : (BitVec.ofNat 24 (a - k)).toNat = a - k := by
    rw [BitVec.toNat_ofNat]
    omega
  let p : State := { s with psr }
  let t : State := { p.store (a - 2) 2 copy.toNat with sp0 := BitVec.ofNat 24 (a - 2) }
  let u : State := { t.store (a - 4) 2 s.mod.toNat with sp0 := BitVec.ofNat 24 (a - 4) }
  have plainP : p.plain := hs.of_eq rfl rfl rfl
  have plainT : t.plain := (plainP.store _ _ _).of_eq rfl rfl rfl
  have plainU : u.plain := (plainT.store _ _ _).of_eq rfl rfl rfl
  have flagT : t.flag bitS = false := (State.flag_store p _ _ _ _).trans hS
  have flagU : u.flag bitS = false := (State.flag_store t _ _ _ _).trans flagT
  have first := push_interrupt plainP hS ha.symm copy (by omega) (n := 2) (by omega)
  have second := push_interrupt plainT flagT (below 2) s.mod (by omega) (n := 2) (by omega)
  have third := push_interrupt plainU flagU (below 4) ra (by omega) (n := 4) (by omega)
  refine ⟨t, u, State.mod_store _ _ _ _, first, second, ?_⟩
  simp only [Nat.sub_sub, u, t, State.store_withSp0] at third
  exact third

theorem trapPsr_selects_interrupt (w : Word) : (trapPsr w).getLsbD bitS = false := by simp [trapPsr, bitS]

theorem State.plain.pushed (hs : s.plain) (copy psr : Word) (ra : Addr) : (s.pushed copy psr ra).plain :=
  (((State.plain.of_eq (t := { s with psr }) hs rfl rfl rfl).store _ _ _).store _ _ _ |>.store _ _ _).of_eq rfl rfl rfl

theorem State.pushed_intbase (s : State) (copy psr : Word) (ra : Addr) :
    (s.pushed copy psr ra).intbase = s.intbase := by
  simp only [State.pushed, State.intbase_store]

/-- The Service sequence (R541), its two pushes made. -/
theorem service_pushed {u w : State} {vector : Nat} {ra : Addr} (second : Gives (push 2 (t.mod.setWidth 64)) t () u)
    (third : Gives (push 4 (ra.setWidth 64)) u () w) (hw : w.plain) (hv : w.intbase.toNat + 4 * vector + 4 ≤ 2 ^ 24)
    (hm : w.descriptor vector % 2 ^ 16 < 0xFFF1)
    (ha : load w.mem (w.descriptor vector % 2 ^ 16 + 8) 4 + w.descriptor vector / 2 ^ 16 < 2 ^ 24) :
    Gives (service vector ra) t () { w.served vector with activity := w.activity } := by
  have serve := serve_plain hw hv hm ha
  simp only [service, gives_bind, gives_get] at serve ⊢
  exact ⟨_, _, ⟨rfl, rfl⟩, (), u, second, (), w, third, _, _, ⟨rfl, rfl⟩, serve⟩

/-- The sequence of a trap whose PSR copy keeps its P bit (R540), from the state in which it begins. -/
theorem takeException_trap {vector : Nat} {ra : Addr} (h : s.canServe s.psr (trapPsr s.psr) ra vector) :
    Gives (takeException false false ra (pure vector)) s () ((s.pushed s.psr (trapPsr s.psr) ra).served vector) := by
  obtain ⟨hs, h8, hv, hm, ha⟩ := h
  obtain ⟨t, u, ht, first, second, third⟩ := frame_pushed hs (trapPsr_selects_interrupt s.psr) h8 s.psr ra
  have serviced := service_pushed (ht ▸ second) third (hs.pushed _ _ _) (by rwa [State.pushed_intbase]) hm ha
  simp only [takeException, Bool.false_eq_true, if_false, psrInService_trap, gives_bind, gives_get, gives_modify,
    gives_pure]
  exact ⟨_, _, ⟨rfl, rfl⟩, (), _, rfl, (), t, first, _, _, ⟨rfl, rfl⟩, (), _, serviced, rfl⟩

theorem sequenceOutcome_of_gives {m : Act Unit} (h : Gives m s () t) : sequenceOutcome m s = .next t := by
  unfold sequenceOutcome
  rw [show m.run s = _ from h]

theorem restoreSp_psr (start s : State) : (restoreSp start s).psr = s.psr := by
  unfold restoreSp
  split <;> rfl

/-- A trap other than Abort is taken (R540). -/
theorem takeTrap_trapped {x : Trap} {start : State} (hx : x ≠ .abt) (h : start.canTrap s x) :
    takeTrap x start s = .next (start.trapped s x) := by
  have sequence := takeException_trap (s := restoreSp start s) (ra := start.pc) (vector := x.vector)
    (by rw [restoreSp_psr]; exact h)
  have notAbort : (x == .abt) = false := by simpa using hx
  rw [restoreSp_psr] at sequence
  show sequenceOutcome (takeException (x == .abt) (x == .abt) start.pc (pure x.vector)) _ = _
  rw [notAbort]
  exact sequenceOutcome_of_gives sequence

end Sys2Proof.Machine
end

section
/-! Which encodings are Trap(UND) (R536): each of them performs a body that raises it before it does anything else. -/

namespace Sys2Proof.Machine

variable {s : State} {i : Instr} {body : Act Next} {α β : Type}

/-- An instruction whose body raises a trap before it does anything else is trapped in the state it began in. -/
theorem exec_trapped {n : Nat} {x : Trap} (hx : x ≠ .abt) (he : exec i s = perform n body s)
    (hb : Abandons body s (.trap x) s) (hc : s.canTrap s x) : exec i s = .next (s.trapped s x) := by
  rw [he, perform_of_abandons hb]
  exact takeTrap_trapped hx hc

/-! ### The tests that come first -/

theorem abandons_first {m : Act α} {k : α → Act β} {x : Stop} (h : Abandons m s x s) : Abandons (m >>= k) s x s :=
  (abandons_bind _ _ _ _ _).mpr (.inl h)

theorem raises (x : Trap) : Abandons (raise x : Act α) s (.trap x) s := (abandons_raise _ _ _ _).mpr ⟨rfl, rfl⟩

/-- A test of the state that fails first. -/
theorem test_abandons {c : State → Bool} {f g : State → Act α} {x : Stop} (h : c s = true)
    (hf : Abandons (f s) s x s) : Abandons (get >>= fun s => if c s then f s else g s) s x s := by
  show Abandons (if c s = true then f s else g s) s x s
  rwa [if_pos h]

/-- A test of the state that does not fail. -/
theorem test_passed {c : State → Bool} {f g : State → Act α} {x : Stop} (h : c s = false)
    (hg : Abandons (g s) s x s) : Abandons (get >>= fun s => if c s then f s else g s) s x s := by
  show Abandons (if c s = true then f s else g s) s x s
  rwa [h, if_neg Bool.false_ne_true]

theorem needsFpu_raises (h : s.cfg.getLsbD 1 = false) : Abandons needsFpu s (.trap .und) s :=
  test_abandons (c := fun s => !s.cfg.getLsbD 1) (by rw [h]; rfl) (abandons_first (raises _))

theorem format9Length_raises (h : s.cfg.getLsbD 1 = false) : Abandons format9Length s (.trap .und) s :=
  test_abandons (c := fun s => !s.cfg.getLsbD 1) (by rw [h]; rfl) (abandons_first (raises _))

theorem format9Length_stops (h : s.cfg.getLsbD 1 = true) : Abandons format9Length s (.fault .lengthField) s :=
  test_passed (c := fun s => !s.cfg.getLsbD 1) (by rw [h]; rfl) ((abandons_stop _ _ _ _).mpr ⟨rfl, rfl⟩)

theorem privileged_passed (h : s.flag bitU = false) : Gives privileged s () s := by
  simp only [privileged, gives_bind, gives_get, gives_ite, gives_pure]
  exact ⟨s, s, ⟨rfl, rfl⟩, .inr ⟨by simp [h], trivial, rfl⟩⟩

theorem privileged_raises (h : s.flag bitU = true) : Abandons privileged s (.trap .ill) s :=
  test_abandons (c := fun s => s.flag bitU) h (raises _)

theorem needsMmu_raises (hU : s.flag bitU = false) (h : s.cfg.getLsbD 2 = false) :
    Abandons needsMmu s (.trap .und) s :=
  (abandons_bind _ _ _ _ _).mpr (.inr ⟨(), s, privileged_passed hU,
    test_abandons (c := fun s => !s.cfg.getLsbD 2) (by rw [h]; rfl) (abandons_first (raises _))⟩)

theorem customBody_raises (b : Bool) (h : s.cfg.getLsbD 3 = false) : Abandons (customBody b) s (.trap .und) s :=
  test_abandons (c := fun s => !s.cfg.getLsbD 3) (by rw [h]; rfl) (abandons_first (raises _))

theorem slave_refuses : Abandons (refuse .customSlave : Act Next) s (.refused .customSlave) s :=
  (abandons_refuse _ _ _ _).mpr ⟨rfl, rfl⟩

theorem customBody_refuses (h : s.cfg.getLsbD 3 = true) : Abandons (customBody false) s (.refused .customSlave) s :=
  test_passed (c := fun s => !s.cfg.getLsbD 3) (by rw [h]; rfl) slave_refuses

theorem customBody_privileged {x : Stop} (h : s.cfg.getLsbD 3 = true)
    (hp : Abandons (privileged >>= fun _ => (refuse .customSlave : Act Next)) s x s) :
    Abandons (customBody true) s x s :=
  test_passed (c := fun s => !s.cfg.getLsbD 3) (by rw [h]; rfl) hp

theorem selectProcreg_raises {code : BitVec 4} (h : procregOf code = none) (l : Len) :
    Abandons (selectProcreg code l) s (.trap .und) s := by
  unfold selectProcreg
  rw [h]
  exact (abandons_raise _ _ _ _).mpr ⟨rfl, rfl⟩

/-! ### The rows -/

/-- A row that is no instruction raises Trap(UND) in every state (R190); its length does not matter to that. -/
theorem exec_of_isUnassigned (h : isUnassigned i = true) : ∃ n, ∀ s, exec i s = perform n (raise .und) s := by
  cases i
  case und7E | undFE | und9E | und5E | undDE | und8E | undX6Other | undF3Op1000B | undF3OpOddB | undCXPDIB |
      undJUMPIB | undJSRIB | undF3Op1000W | undF3OpOddW | undCXPDIW | undJUMPIW | undJSRIW | undF3Op1000D |
      undF3OpOddD | undBICPSRD | undBISPSRD | undADDRIB | undADDRIW | undF5Op1xxx | undF5OpX1xx | undSETCFGI |
      undF6Op0100 | undF6Op1010 | undF7Op1010 | undMOVXBWI | undMOVZBWI | undMOVZiDD | undMOVXiDD | undF8Op111 |
      undCVTPI | undF8Op110Reg000 | undF8Op110Reg010 | undF8Op110Reg100 | undF8Op110Reg101 | undF8Op110Reg110 |
      undF8Op110Reg111 | undLFSRFi | undMOVLFFi | undMOVFLFi | undSFSRFi | undF11Op011x | undF11Op101x |
      undF11Op111x | undF11Bit9 | undF14Op1xxx | undF14OpX1xx | undF14I =>
    exact ⟨0, fun _ => rfl⟩
  all_goals exact absurd h Bool.false_ne_true

/-- An instruction that CFG.F enables tests that before anything else (R200). -/
theorem exec_of_usesFpu (h : usesFpu i = true) : ∃ n body,
    (∀ s, s.cfg.getLsbD 1 = false → Abandons body s (.trap .und) s) ∧ ∀ s, exec i s = perform n body s := by
  cases i
  case faultF9I10 => exact ⟨_, _, fun _ => format9Length_raises, fun _ => rfl⟩
  case movbf | movbl | movwf | movwl | movdf | movdl | roundfb | roundfw | roundfd | roundlb | roundlw | roundld |
      truncfb | truncfw | truncfd | trunclb | trunclw | truncld | floorfb | floorfw | floorfd | floorlb |
      floorlw | floorld | movlf | movfl | lfsr | sfsr | addf | addl | movf | movl | cmpf | cmpl | subf | subl |
      negf | negl | divf | divl | mulf | mull | absf | absl | fpuILLEGAL0011 | fpuILLEGAL1001 =>
    exact ⟨_, _, fun _ hF => abandons_first (needsFpu_raises hF), fun _ => rfl⟩
  all_goals exact absurd h Bool.false_ne_true

/-- An instruction that CFG.M enables tests first that it is in Supervisor Mode, then that it is enabled (R436). -/
theorem exec_of_usesMmu (h : usesMmu i = true) : ∃ n k, ∀ s, exec i s = perform n (needsMmu >>= k) s := by
  cases i
  case lmr | smr | rdval | wrval => exact ⟨_, _, fun _ => rfl⟩
  all_goals exact absurd h Bool.false_ne_true

/-- An instruction that CFG.C enables is one of the custom instructions (R441). -/
theorem exec_of_usesCustom (h : usesCustom i = true) : ∃ n b, ∀ s, exec i s = perform n (customBody b) s := by
  cases i
  case custom16 | custom36 | customB6 => exact ⟨_, _, fun _ => rfl⟩
  all_goals exact absurd h Bool.false_ne_true

/-- The unassigned codes of R175 are those that select no register. -/
theorem procregOf_eq_none {code : BitVec 4} :
    ((0b0001#4 ≤ code && code ≤ 0b0111#4) || code = 0b1011 || code = 0b1100) = true → procregOf code = none := by
  revert code
  decide

/-- LPRi and SPRi select their register before anything else (R400, R401). -/
theorem exec_of_namesNoRegister (h : namesNoRegister i = true) :
    ∃ n code l k, procregOf code = none ∧ ∀ s, exec i s = perform n (selectProcreg code l >>= k) s := by
  cases i
  case lprb | lprw | lprd | sprb | sprw | sprd => exact ⟨_, _, _, _, procregOf_eq_none h, fun _ => rfl⟩
  all_goals exact absurd h Bool.false_ne_true

/-- The instructions of `Obligations.UndefinedEncodings` perform a body that raises Trap(UND) first. -/
theorem exec_raises (h : isUnassigned i = true ∨ namesNoRegister i = true ∨
      (usesFpu i = true ∧ s.cfg.getLsbD 1 = false) ∨
      (usesMmu i = true ∧ s.flag bitU = false ∧ s.cfg.getLsbD 2 = false) ∨
      (usesCustom i = true ∧ s.cfg.getLsbD 3 = false)) :
    ∃ n body, exec i s = perform n body s ∧ Abandons body s (.trap .und) s := by
  rcases h with hi | hi | ⟨hi, hF⟩ | ⟨hi, hU, hM⟩ | ⟨hi, hC⟩
  · obtain ⟨n, he⟩ := exec_of_isUnassigned hi
    exact ⟨n, _, he s, raises _⟩
  · obtain ⟨n, code, l, k, hc, he⟩ := exec_of_namesNoRegister hi
    exact ⟨n, _, he s, abandons_first (selectProcreg_raises hc l)⟩
  · obtain ⟨n, body, hb, he⟩ := exec_of_usesFpu hi
    exact ⟨n, body, he s, hb s hF⟩
  · obtain ⟨n, k, he⟩ := exec_of_usesMmu hi
    exact ⟨n, _, he s, abandons_first (needsMmu_raises hU hM)⟩
  · obtain ⟨n, b, he⟩ := exec_of_usesCustom hi
    exact ⟨n, _, he s, customBody_raises b hC⟩

/-- Where CFG.C is set, a custom instruction is refused, the privileged one after its test (R442). -/
theorem exec_custom (hC : s.cfg.getLsbD 3 = true) :
    exec .custom36 s = .refused .customSlave ∧ exec .customB6 s = .refused .customSlave ∧
      (s.flag bitU = false → exec .custom16 s = .refused .customSlave) ∧
      (s.flag bitU = true → s.canTrap s .ill → exec .custom16 s = .next (s.trapped s .ill)) := by
  refine ⟨?_, ?_, fun hU => ?_, fun hU => ?_⟩
  · rw [exec_custom36, perform_of_abandons (customBody_refuses hC)]
    rfl
  · rw [exec_customB6, perform_of_abandons (customBody_refuses hC)]
    rfl
  · have refused : Abandons (privileged >>= fun _ => (refuse .customSlave : Act Next)) s _ s :=
      (abandons_bind _ _ _ _ _).mpr (.inr ⟨(), s, privileged_passed hU, slave_refuses⟩)
    rw [exec_custom16, perform_of_abandons (customBody_privileged hC refused)]
    rfl
  · exact exec_trapped (by decide) (exec_custom16 s) (customBody_privileged hC (abandons_first (privileged_raises hU)))

/-- Settles O16: what is performed raises the trap first; the rows whose length field has no meaning stop. -/
theorem undefinedEncodings : Obligations.UndefinedEncodings := by
  refine ⟨fun i s hi hc => ?_, fun raw s => ⟨rfl, rfl, rfl, rfl, rfl, fun hF => ?_, exec_custom⟩⟩
  · obtain ⟨n, body, he, hb⟩ := exec_raises hi
    exact exec_trapped (by decide) he hb hc
  · rw [exec_faultF9I10, perform_of_abandons (format9Length_stops hF)]
    rfl

end Sys2Proof.Machine
end

section
/-! Steps one after the other, how an instruction ends from what its steps do, and the frame of a step that loads one
register. -/

namespace Sys2Proof.Machine

variable {α β : Type} {s t u : State}

theorem gives_after {m : Act α} {k : α → Act β} {a : α} {v : β} (h : Gives m s a u) (hk : Gives (k a) u v t) :
    Gives (m >>= k) s v t := (gives_bind ..).mpr ⟨a, u, h, hk⟩

theorem abandons_after {m : Act α} {k : α → Act β} {a : α} {x : Stop} (h : Gives m s a u) (hk : Abandons (k a) u x t) :
    Abandons (m >>= k) s x t := (abandons_bind ..).mpr (.inr ⟨a, u, h, hk⟩)

theorem abandons_at {m : Act α} {k : α → Act β} {x : Stop} (h : Abandons m s x t) : Abandons (m >>= k) s x t :=
  (abandons_bind ..).mpr (.inl h)

theorem gives_return (a : α) (s : State) : Gives (pure a : Act α) s a s := (gives_pure ..).mpr ⟨rfl, rfl⟩

theorem gives_change (f : State → State) (s : State) : Gives (modify f : Act PUnit) s () (f s) :=
  (gives_modify ..).mpr rfl

theorem gives_state (s : State) : Gives (get : Act State) s s s := (gives_get ..).mpr ⟨rfl, rfl⟩

/-- An action that gives a result is not abandoned. -/
theorem Gives.not_abandons {m : Act α} {v : α} {x : Stop} (h : Gives m s v t) : ¬Abandons m s x u := fun k => by
  have e : (EStateM.Result.ok v t : EStateM.Result Stop State α) = .error x u := h.symm.trans k
  cases e

/-- An instruction abandoned with a trap other than Abort, in whatever state, is trapped (R540). -/
theorem exec_trapped_in {i : Instr} {n : Nat} {body : Act Next} {x : Trap} (hx : x ≠ .abt)
    (he : exec i s = perform n body s) (hb : Abandons body s (.trap x) u) (hc : s.canTrap u x) :
    exec i s = .next (s.trapped u x) := by
  rw [he, perform_of_abandons hb]
  exact takeTrap_trapped hx hc

/-- The end of an instruction that goes on in sequence, the instruction queue flushed (R103). -/
theorem finish_seqFlush {n : Nat} (h : s.pc.toNat + n < 2 ^ 24) :
    finish n .seqFlush s = .next (s.jumped (s.pc.toNat + n)) := by
  rw [← finish_jump (len := n) h]
  show continueAt s (s.pc.toNat + (n : Int)) true = continueAt s ((s.pc.toNat + n : Nat) : Int) true
  rw [Nat.cast_add]

theorem ensure_passed {b : Bool} (h : b = true) (f : Fault) (s : State) : Gives (ensure b f) s () s :=
  (gives_ensure ..).mpr ⟨h, rfl⟩

theorem mustBeZero_passed (n : Nat) (s : State) : Gives (mustBeZero (0 : BitVec n)) s () s :=
  ensure_passed (beq_self_eq_true _) _ s

/-- A test of the state that does not fail, before what is done then. -/
theorem test_holds {c : State → Bool} {f g : State → Act α} {v : α} (h : c s = false) (hg : Gives (g s) s v t) :
    Gives (get >>= fun s => if c s then f s else g s) s v t := by
  show Gives (if c s = true then f s else g s) s v t
  rwa [h, if_neg Bool.false_ne_true]

/-! ### Registers loaded -/

theorem setFsr_keeps (s : State) (w : Word) : Keeps { special := [.fsr] } s { s with fsr := w } :=
  { Keeps.refl _ s with fsr := fun h => (h (.head _)).elim }

theorem setMmu_keeps (s : State) (m : MmuRegs) : Keeps { special := [.mmu] } s { s with mmu := m } :=
  { Keeps.refl _ s with mmu := fun h => (h (.head _)).elim, bcnt := fun h => (h (.head _)).elim }

theorem setBuffer_keeps (s : State) (b : Nat) : Keeps {} s { s with buffer := b } := { Keeps.refl _ s with }

end Sys2Proof.Machine
end

section
/-! LFSR and LMR (R252, R430). -/

namespace Sys2Proof.Machine

variable {s s1 : State} {src : Gen} {v : QWord} {p q : BitVec 4 × (MmuRegs → DWord)}

theorem needsFpu_passed (h : s.fpuReady) : Gives needsFpu s () s :=
  test_holds (c := fun s => !s.cfg.getLsbD 1) (by rw [h.1]; rfl) (by rw [h.2]; exact gives_return () s)

theorem needsMmu_passed (h : s.mmuReady) : Gives needsMmu s () s := by
  obtain ⟨supervisor, enabled, present⟩ := h
  exact gives_after (privileged_passed supervisor) <|
    test_holds (c := fun s => !s.cfg.getLsbD 2) (by rw [enabled]; rfl) (by rw [present]; exact gives_return () s)

theorem lfsr_completes (hs : s.fpuReady) (hv : Gives (readInt .d src) s v s1) (hf : s.fits (.lfsr src 0)) :
    Completes (.lfsr src 0) s { s1 with fsr := v.setWidth 16 } { special := movesSp src ++ [.fsr] } := by
  obtain ⟨keeps, pc⟩ := readOp_keeps hv
  refine completes_of (exec_lfsr ..) ?_ pc hf (keeps.trans (setFsr_keeps s1 _) (by simp))
  exact gives_after (needsFpu_passed hs) <| gives_after (mustBeZero_passed 5 s) <| gives_after hv <|
    gives_after (gives_change _ _) (gives_return _ _)

/-! ### The memory-management registers by their codes (R176) -/

theorem mmuTable_assigned (h : p ∈ mmuTable) : mmuregOk p.1 = true := by
  simp only [mmuTable, List.mem_cons, List.not_mem_nil, or_false] at h
  rcases h with rfl | rfl | rfl | rfl | rfl | rfl | rfl | rfl | rfl | rfl <;> rfl

/-- A load of a register other than EIA is read back from it. -/
theorem put_loads (h : p ∈ mmuTable) (hp : p.1 ≠ 0b1111) (m : MmuRegs) (x : DWord) : p.2 (MmuRegs.put m p.1 x) = x := by
  simp only [mmuTable, List.mem_cons, List.not_mem_nil, or_false] at h
  rcases h with rfl | rfl | rfl | rfl | rfl | rfl | rfl | rfl | rfl | rfl
  case inr.inr.inr.inr.inr.inr.inr.inr.inr => exact absurd rfl hp
  all_goals rfl

/-- A load leaves each register of another code alone. -/
theorem put_others (h : p ∈ mmuTable) (hq : q ∈ mmuTable) (hne : q.1 ≠ p.1) (m : MmuRegs) (x : DWord) :
    q.2 (MmuRegs.put m p.1 x) = q.2 m := by
  simp only [mmuTable, List.mem_cons, List.not_mem_nil, or_false] at h hq
  rcases h with rfl | rfl | rfl | rfl | rfl | rfl | rfl | rfl | rfl | rfl <;>
    rcases hq with rfl | rfl | rfl | rfl | rfl | rfl | rfl | rfl | rfl | rfl <;>
    simp [MmuRegs.put] at hne ⊢

/-- LMR loads its register, flushes the queue and goes on in sequence (R430, R602). -/
theorem exec_lmr_loaded (hp : p ∈ mmuTable) (hs : s.mmuReady) (hv : Gives (readInt .d src) s v s1)
    (hf : s.fits (.lmr p.1 src 0)) :
    exec (.lmr p.1 src 0) s = .next ((s1.loadMmu p.1 (v.setWidth 32)).jumped (s.nextPc (.lmr p.1 src 0))) := by
  have pc : (s1.loadMmu p.1 (v.setWidth 32)).pc = s.pc := by
    rw [← (readOp_keeps hv).2, State.loadMmu]
    split <;> rfl
  have body : Gives (lmrBody p.1 src 0) s .seqFlush (s1.loadMmu p.1 (v.setWidth 32)) :=
    gives_after (needsMmu_passed hs) <| gives_after (mustBeZero_passed 1 s) <|
      gives_after (ensure_passed (mmuTable_assigned hp) _ s) <| gives_after hv <|
      gives_after (gives_change _ _) (gives_return _ _)
  rw [exec_lmr, perform_of_gives body, finish_seqFlush (by rw [pc]; exact hf), pc]
  rfl

/-- Settles O51: LFSR by its body, LMR by what a load makes of each register of the table. -/
theorem loadedUnitRegisters : Obligations.LoadedUnitRegisters := by
  refine ⟨fun src s s1 v => lfsr_completes, fun p hp src s s1 v hs hv hf => ?_⟩
  have keeps := (readOp_keeps hv).1
  have loaded := exec_lmr_loaded hp hs hv hf
  refine ⟨fun hne => ⟨MmuRegs.put s1.mmu p.1 (v.setWidth 32), ?_, put_loads hp hne _ _,
      fun q hq h => put_others hp hq h _ _, ?_⟩,
    fun heia => ⟨Config.bufferAfterRemoval s1.mmu s1.buffer (v.setWidth 32), ?_, ?_⟩⟩
  · rwa [State.loadMmu, if_neg hne] at loaded
  · exact (keeps.trans (setMmu_keeps s1 _) (by simp)).mono (by simp) (by simp) (by simp) (by simp) (by simp; tauto)
  · rwa [State.loadMmu, if_pos heia] at loaded
  · exact (keeps.trans (setBuffer_keeps s1 _) (by simp)).mono (by simp) (by simp) (by simp) (by simp) (by simp)

end Sys2Proof.Machine
end

section
/-! The numbers that exact values and floating-point patterns stand for (R201 to R207, R230 to R233). -/

namespace Sys2Proof.Machine

/-! ### Exact values -/

variable {x y : Exact} {neg : Bool} {m : Nat} {k : Int}

/-- The factor that a sign stands for. -/
def signFactor (neg : Bool) : Rat := if neg then -1 else 1

theorem signFactor_mul_self (neg : Bool) : signFactor neg * signFactor neg = 1 := by cases neg <;> norm_num [signFactor]

theorem abs_signFactor (neg : Bool) : |signFactor neg| = 1 := by cases neg <;> norm_num [signFactor]

theorem signFactor_bne (a b : Bool) : signFactor (a != b) = signFactor a * signFactor b := by
  cases a <;> cases b <;> norm_num [signFactor]

theorem Exact.signed_eq (x : Exact) : (x.signed : Rat) = signFactor x.neg * x.num := by
  unfold Exact.signed signFactor
  split <;> simp

theorem Exact.value_eq (x : Exact) : x.value = signFactor x.neg * (x.num / x.den) := by
  rw [Exact.value, Exact.signed_eq, mul_div_assoc]

theorem Exact.abs_value (x : Exact) : |x.value| = x.num / x.den := by
  rw [Exact.value_eq, abs_mul, abs_signFactor, one_mul, abs_of_nonneg (by positivity)]

theorem Exact.value_eq_abs (x : Exact) : x.value = signFactor x.neg * |x.value| := by
  rw [Exact.abs_value, Exact.value_eq]

theorem Exact.signed_ofSigned (n : Int) (d : Nat) : (Exact.ofSigned n d).signed = n := by
  simp only [Exact.signed, Exact.ofSigned, decide_eq_true_eq]
  split <;> omega

theorem Exact.value_ofSigned (n : Int) (d : Nat) : (Exact.ofSigned n d).value = n / d := by
  rw [Exact.value, Exact.signed_ofSigned]
  rfl

theorem Exact.value_add (hx : x.den ≠ 0) (hy : y.den ≠ 0) : (x.add y).value = x.value + y.value := by
  have hx : (x.den : Rat) ≠ 0 := Nat.cast_ne_zero.mpr hx
  have hy : (y.den : Rat) ≠ 0 := Nat.cast_ne_zero.mpr hy
  rw [Exact.add, Exact.value_ofSigned, Exact.value, Exact.value, div_add_div _ _ hx hy]
  push_cast
  ring

theorem Exact.value_sub (hx : x.den ≠ 0) (hy : y.den ≠ 0) : (x.sub y).value = x.value - y.value := by
  have hx : (x.den : Rat) ≠ 0 := Nat.cast_ne_zero.mpr hx
  have hy : (y.den : Rat) ≠ 0 := Nat.cast_ne_zero.mpr hy
  rw [Exact.sub, Exact.value_ofSigned, Exact.value, Exact.value, div_sub_div _ _ hx hy]
  push_cast
  ring

theorem Exact.value_mul (x y : Exact) : (x.mul y).value = x.value * y.value := by
  rw [Exact.value_eq, Exact.value_eq, Exact.value_eq, Exact.mul, signFactor_bne, mul_mul_mul_comm, div_mul_div_comm,
    Nat.cast_mul, Nat.cast_mul]

/-- The sign of a quotient is the product of the signs, each of which is its own inverse. -/
theorem Exact.value_div (x y : Exact) : (x.div y).value = x.value / y.value := by
  rw [Exact.value_eq, Exact.value_eq, Exact.value_eq, Exact.div, signFactor_bne, mul_div_mul_comm, div_div_div_eq,
    Nat.cast_mul, Nat.cast_mul, eq_div_of_mul_eq (left_ne_zero_of_mul_eq_one (signFactor_mul_self y.neg))
      (by rw [mul_assoc, signFactor_mul_self, mul_one] : signFactor x.neg * signFactor y.neg * signFactor y.neg = _)]

/-! ### `m * 2^k` -/

theorem scaled_neg (neg : Bool) (m : Nat) (k : Int) : (scaled neg m k).neg = neg := by
  unfold scaled
  split <;> rfl

theorem scaled_den_ne_zero (neg : Bool) (m : Nat) (k : Int) : (scaled neg m k).den ≠ 0 := by
  unfold scaled
  split <;> simp

theorem scaled_num_ne_zero (hm : m ≠ 0) : (scaled neg m k).num ≠ 0 := by
  unfold scaled
  split <;> simp [hm]

/-- A power of two with an exponent of either sign, as a fraction. -/
theorem two_zpow_of_nonneg (hk : 0 ≤ k) : (2 : Rat) ^ k = 2 ^ k.toNat := by
  rw [← zpow_natCast, Int.toNat_of_nonneg hk]

theorem two_zpow_of_neg (hk : k < 0) : (2 : Rat) ^ k = (2 ^ k.natAbs)⁻¹ := by
  rw [← zpow_natCast, ← zpow_neg, show -(k.natAbs : Int) = k by omega]

theorem scaled_value (neg : Bool) (m : Nat) (k : Int) : (scaled neg m k).value = signFactor neg * (m * 2 ^ k) := by
  rw [Exact.value_eq, scaled_neg, scaled]
  split
  · rename_i hk
    simp [two_zpow_of_nonneg hk]
  · rename_i hk
    simp [two_zpow_of_neg (not_le.mp hk), div_eq_mul_inv]

end Sys2Proof.Machine
end

section
/-! The fields of a floating-point pattern and its classification (R201, R205 to R207). -/

namespace Sys2Proof.Machine

variable {y : FLen} {neg : Bool} {e f : Nat} {v : QWord} {x : Exact} {q : Rat}

theorem signOf_pattern (he : e < 2 ^ FLen.expBits y) (hf : f < 2 ^ FLen.fracBits y) :
    signOf y (pattern y neg e f) = neg := by
  rw [signOf, pattern, BitVec.getLsbD_ofNat, Nat.testBit_eq_decide_div_mod_eq]
  cases y <;> cases neg <;> simp [FLen.expBits, FLen.fracBits] at he hf ⊢ <;> omega

theorem expOf_pattern (he : e < 2 ^ FLen.expBits y) (hf : f < 2 ^ FLen.fracBits y) :
    expOf y (pattern y neg e f) = e := by
  have hn : neg.toNat ≤ 1 := Bool.toNat_le neg
  rw [expOf, pattern, BitVec.toNat_ofNat]
  cases y <;> simp only [FLen.expBits, FLen.fracBits] at he hf ⊢ <;> omega

theorem fracOf_pattern (hf : f < 2 ^ FLen.fracBits y) : fracOf y (pattern y neg e f) = f := by
  rw [fracOf, pattern, BitVec.toNat_ofNat]
  cases y <;> simp only [FLen.expBits, FLen.fracBits] at hf ⊢ <;> omega

/-- The least significant bit of a pattern is that of its F field. -/
theorem pattern_getLsbD_zero : (pattern y neg e f).getLsbD 0 = decide (f % 2 = 1) := by
  rw [pattern, BitVec.getLsbD_ofNat, Nat.testBit_eq_decide_div_mod_eq]
  cases y <;> simp [FLen.expBits, FLen.fracBits] <;> omega

theorem classify_zero_pattern (y : FLen) (neg : Bool) :
    classify y (pattern y neg 0 0) = some { neg, num := 0, den := 1 } := by
  rw [classify, signOf_pattern (by positivity) (by positivity), expOf_pattern (by positivity) (by positivity),
    fracOf_pattern (by positivity)]
  cases y <;> rfl

theorem classify_normal_pattern (h0 : e ≠ 0) (he : e < 2 ^ FLen.expBits y - 1) (hf : f < 2 ^ FLen.fracBits y) :
    classify y (pattern y neg e f) =
      some (scaled neg (2 ^ FLen.fracBits y + f) (e - FLen.bias y - FLen.fracBits y)) := by
  have hlt : e < 2 ^ FLen.expBits y := by omega
  rw [classify, signOf_pattern hlt hf, expOf_pattern hlt hf, fracOf_pattern hf]
  simp only [h0, he.ne, if_false]

/-! ### What a pattern stands for -/

theorem classify_of_reserved (h : expOf y v = 2 ^ FLen.expBits y - 1 ∨ (expOf y v = 0 ∧ fracOf y v ≠ 0)) :
    classify y v = none := by
  obtain h | ⟨h, hf⟩ := h
  · simp [classify, h]
  · cases y <;> simp [classify, h, hf, FLen.expBits]

theorem classify_of_zero (he : expOf y v = 0) (hf : fracOf y v = 0) :
    classify y v = some { neg := signOf y v, num := 0, den := 1 } := by
  cases y <;> simp [classify, he, hf, FLen.expBits]

theorem classify_of_normal (h0 : expOf y v ≠ 0) (he : expOf y v ≠ 2 ^ FLen.expBits y - 1) :
    classify y v =
      some (scaled (signOf y v) (2 ^ FLen.fracBits y + fracOf y v) (expOf y v - FLen.bias y - FLen.fracBits y)) := by
  simp only [classify, h0, he, if_false]

/-- A pattern that stands for a number is a zero or a normalized number (R205, R206). -/
theorem classify_cases (h : classify y v = some x) :
    (expOf y v = 0 ∧ fracOf y v = 0 ∧ x = { neg := signOf y v, num := 0, den := 1 }) ∨
      (expOf y v ≠ 0 ∧ expOf y v ≠ 2 ^ FLen.expBits y - 1 ∧
        x = scaled (signOf y v) (2 ^ FLen.fracBits y + fracOf y v) (expOf y v - FLen.bias y - FLen.fracBits y)) := by
  by_cases he : expOf y v = 2 ^ FLen.expBits y - 1
  · simp [classify_of_reserved (.inl he)] at h
  · by_cases h0 : expOf y v = 0
    · by_cases hf : fracOf y v = 0
      · rw [classify_of_zero h0 hf, Option.some_inj] at h
        exact .inl ⟨h0, hf, h.symm⟩
      · simp [classify_of_reserved (.inr ⟨h0, hf⟩)] at h
    · rw [classify_of_normal h0 he, Option.some_inj] at h
      exact .inr ⟨h0, he, h.symm⟩

theorem classify_den_ne_zero (h : classify y v = some x) : x.den ≠ 0 := by
  obtain ⟨-, -, rfl⟩ | ⟨-, -, rfl⟩ := classify_cases h
  · exact one_ne_zero
  · exact scaled_den_ne_zero _ _ _

/-- The value of a normalized number, with its significand written as a fraction (R205). -/
theorem normal_value (neg : Bool) (p f : Nat) (a b : Int) :
    (scaled neg (2 ^ p + f) (a - b - p)).value = signFactor neg * 2 ^ (a - b) * (1 + (f : Rat) / 2 ^ p) := by
  have hp : (2 : Rat) ^ p ≠ 0 := by positivity
  rw [scaled_value, zpow_sub₀ two_ne_zero (a - b), zpow_natCast]
  push_cast
  field_simp

/-! ### The numbers of a format -/

/-- A number is zero, or has a significand of a format's precision, with no bound on its exponent. Every number that the
format represents is so (`Represents.fitsPrecision`). -/
def FitsPrecision (y : FLen) (q : Rat) : Prop :=
  q = 0 ∨ ∃ (m : Nat) (k : Int), m < 2 ^ (FLen.fracBits y + 1) ∧ |q| = m * 2 ^ k

theorem Represents.fitsPrecision (h : Represents y v q) : FitsPrecision y q := by
  obtain ⟨x, hx, rfl⟩ := h
  obtain ⟨-, -, rfl⟩ | ⟨-, -, rfl⟩ := classify_cases hx
  · exact .inl (by simp [Exact.value, Exact.signed])
  · refine .inr ⟨_, _, ?_, by rw [scaled_value, abs_mul, abs_signFactor, one_mul, abs_of_nonneg (by positivity)]⟩
    have : fracOf y v < 2 ^ FLen.fracBits y := Nat.mod_lt _ (by positivity)
    omega

theorem FitsPrecision.mul_sign (h : FitsPrecision y q) (neg : Bool) : FitsPrecision y (signFactor neg * q) := by
  obtain rfl | ⟨m, k, hm, hq⟩ := h
  · exact .inl (mul_zero _)
  · exact .inr ⟨m, k, hm, by rw [abs_mul, abs_signFactor, one_mul, hq]⟩

theorem FitsPrecision.abs (h : FitsPrecision y q) : FitsPrecision y |q| := by
  obtain rfl | ⟨m, k, hm, hq⟩ := h
  · exact .inl abs_zero
  · exact .inr ⟨m, k, hm, by rw [abs_abs, hq]⟩

/-- From 2^e on the numbers of a precision are multiples of the unit in the last place there. -/
theorem FitsPrecision.multiple (h : FitsPrecision y q) {e : Int} (he : 2 ^ e ≤ q) :
    ∃ c : Nat, q = c * 2 ^ (e - FLen.fracBits y) := by
  have hpos : 0 < q := lt_of_lt_of_le (by positivity) he
  obtain rfl | ⟨m, k, hm, hq⟩ := h
  · exact absurd hpos (lt_irrefl _)
  · rw [abs_of_pos hpos] at hq
    have hlt : (2 : Rat) ^ e < 2 ^ ((FLen.fracBits y + 1 : Nat) + k) := by
      rw [zpow_add₀ two_ne_zero, zpow_natCast]
      refine lt_of_le_of_lt (he.trans hq.le) (mul_lt_mul_of_pos_right ?_ (by positivity))
      exact_mod_cast hm
    have hk : e - FLen.fracBits y ≤ k := by
      have := (zpow_lt_zpow_iff_right₀ one_lt_two).mp hlt
      push_cast at this
      omega
    refine ⟨m * 2 ^ (k - (e - FLen.fracBits y)).toNat, ?_⟩
    rw [hq, Nat.cast_mul, Nat.cast_pow, Nat.cast_ofNat, ← two_zpow_of_nonneg (by omega), mul_assoc,
      ← zpow_add₀ two_ne_zero, sub_add_cancel]

end Sys2Proof.Machine
end

section
/-! Rounding of a fraction to an integer (R210, R241), and what is nearest to it of the numbers of a precision. -/

namespace Sys2Proof.Machine

variable {num den : Nat} {rm : BitVec 2} {neg : Bool} {α τ : Rat} {m p : Nat}

/-! ### Quotient and remainder -/

/-- A fraction is its integer part and what the remainder adds to it. -/
theorem fraction_eq (hd : den ≠ 0) : (num : Rat) / den = (num / den : Nat) + (num % den : Nat) / den := by
  have hd : (den : Rat) ≠ 0 := Nat.cast_ne_zero.mpr hd
  rw [div_eq_iff hd, add_mul, div_mul_cancel₀ _ hd]
  exact_mod_cast (Nat.div_add_mod' num den).symm

theorem fraction_ceil (hd : den ≠ 0) :
    ⌈(num : Rat) / den⌉₊ = if num % den = 0 then num / den else num / den + 1 := by
  have pos : (0 : Rat) < den := Nat.cast_pos.mpr (Nat.pos_of_ne_zero hd)
  rw [fraction_eq hd]
  split
  · rename_i h
    simp [h]
  · rename_i h
    have low : (0 : Rat) < (num % den : Nat) / den := div_pos (Nat.cast_pos.mpr (Nat.pos_of_ne_zero h)) pos
    have high : ((num % den : Nat) : Rat) / den ≤ 1 :=
      (div_le_one pos).mpr (Nat.cast_le.mpr (Nat.mod_lt _ (Nat.pos_of_ne_zero hd)).le)
    rw [Nat.ceil_eq_iff (Nat.succ_ne_zero _), Nat.succ_sub_one, Nat.cast_succ]
    constructor <;> linarith

/-- How far a fraction is from the integers around it, by the double of its remainder. -/
theorem fraction_distance (hd : den ≠ 0) :
    (2 * (num % den) < den → |(num : Rat) / den - (num / den : Nat)| < 1 / 2) ∧
    (den < 2 * (num % den) → |(num : Rat) / den - (num / den + 1 : Nat)| < 1 / 2) ∧
    (2 * (num % den) = den → |(num : Rat) / den - (num / den : Nat)| = 1 / 2 ∧
      |(num : Rat) / den - (num / den + 1 : Nat)| = 1 / 2) := by
  have pos : (0 : Rat) < den := Nat.cast_pos.mpr (Nat.pos_of_ne_zero hd)
  have lt : (num % den : Nat) < (den : Rat) := Nat.cast_lt.mpr (Nat.mod_lt _ (Nat.pos_of_ne_zero hd))
  have nonneg : (0 : Rat) ≤ (num % den : Nat) := Nat.cast_nonneg _
  rw [fraction_eq hd]
  generalize num % den = r at *
  push_cast
  rw [add_sub_cancel_left, add_sub_add_left_eq_sub, abs_of_nonneg (div_nonneg nonneg pos.le),
    abs_of_nonpos (by rw [sub_nonpos, div_le_one pos]; exact lt.le)]
  refine ⟨fun h => ?_, fun h => ?_, fun h => ?_⟩
  · have h : (2 : Rat) * r < den := by exact_mod_cast h
    rw [div_lt_div_iff₀ pos two_pos]
    linarith
  · have h : (den : Rat) < 2 * r := by exact_mod_cast h
    have : 1 / 2 < (r : Rat) / den := by
      rw [div_lt_div_iff₀ two_pos pos]
      linarith
    linarith
  · have h : (2 : Rat) * r = den := by exact_mod_cast h
    have : (r : Rat) / den = 1 / 2 := by
      rw [div_eq_div_iff pos.ne' two_ne_zero]
      linarith
    constructor <;> linarith

/-! ### Rounding in a mode -/

/-- An integer that a magnitude is rounded to in a mode (R210): `neg` is the sign of the number. -/
def IsRounding (rm : BitVec 2) (neg : Bool) (α : Rat) (m : Nat) : Prop :=
  match rm with
  | 0b00 => |α - m| ≤ 1 / 2 ∧ (|α - m| = 1 / 2 → Even m)
  | 0b01 => m = ⌊α⌋₊
  | 0b10 => m = if neg then ⌊α⌋₊ else ⌈α⌉₊
  | _ => m = if neg then ⌈α⌉₊ else ⌊α⌋₊

theorem roundingMode_cases (rm : BitVec 2) : rm = 0b00 ∨ rm = 0b01 ∨ rm = 0b10 ∨ rm = 0b11 := by
  revert rm
  decide

theorem roundSig_nearest (num den : Nat) (neg : Bool) : roundSig num den 0b00 neg =
    if 2 * (num % den) < den then num / den
    else if den < 2 * (num % den) then num / den + 1
    else if num / den % 2 = 0 then num / den else num / den + 1 := rfl

theorem roundSig_isRounding (hd : den ≠ 0) (rm : BitVec 2) (neg : Bool) :
    IsRounding rm neg (num / den) (roundSig num den rm neg) := by
  have floor : ⌊(num : Rat) / den⌋₊ = num / den := Nat.floor_div_eq_div num den
  obtain rfl | rfl | rfl | rfl := roundingMode_cases rm
  · obtain ⟨below, above, half⟩ := fraction_distance (num := num) hd
    show |_| ≤ _ ∧ _
    rw [roundSig_nearest]
    split
    · rename_i h
      exact ⟨(below h).le, fun e => absurd e (below h).ne⟩
    · split
      · rename_i h
        exact ⟨(above h).le, fun e => absurd e (above h).ne⟩
      · obtain ⟨low, high⟩ := half (by omega)
        split
        · rename_i h
          exact ⟨low.le, fun _ => Nat.even_iff.mpr h⟩
        · exact ⟨high.le, fun _ => Nat.even_iff.mpr (by omega)⟩
  · exact floor.symm
  · show (if neg then num / den else _) = if neg then _ else _
    rw [floor, fraction_ceil hd]
  · show (if neg then _ else num / den) = if neg then _ else _
    rw [floor, fraction_ceil hd]

theorem IsRounding.mode_cases (h : IsRounding rm neg α m) :
    (|α - m| ≤ 1 / 2) ∨ m = ⌊α⌋₊ ∨ m = ⌈α⌉₊ := by
  obtain rfl | rfl | rfl | rfl := roundingMode_cases rm
  · exact .inl h.1
  · exact .inr (.inl h)
  · have h : m = if neg then ⌊α⌋₊ else ⌈α⌉₊ := h
    split at h
    · exact .inr (.inl h)
    · exact .inr (.inr h)
  · have h : m = if neg then ⌈α⌉₊ else ⌊α⌋₊ := h
    split at h
    · exact .inr (.inr h)
    · exact .inr (.inl h)

/-- Rounding does not pass an integer. -/
theorem IsRounding.le (h : IsRounding rm neg α m) {n : Nat} (hn : n ≤ α) : n ≤ m := by
  obtain h | rfl | rfl := h.mode_cases
  · have : (n : Rat) < (m + 1 : Nat) := by
      push_cast
      linarith [(abs_le.mp h).2]
    have := Nat.cast_lt.mp this
    omega
  · exact Nat.le_floor hn
  · exact Nat.cast_le.mp (hn.trans (Nat.le_ceil α))

theorem IsRounding.ge (h : IsRounding rm neg α m) (h0 : 0 ≤ α) {n : Nat} (hn : α ≤ n) : m ≤ n := by
  obtain h | rfl | rfl := h.mode_cases
  · have : (m : Rat) < (n + 1 : Nat) := by
      push_cast
      linarith [(abs_le.mp h).1]
    have := Nat.cast_lt.mp this
    omega
  · exact Nat.cast_le.mp ((Nat.floor_le h0).trans hn)
  · exact Nat.ceil_le.mpr hn

/-- Rounding is exact for integers only. -/
theorem IsRounding.exact_iff (hd : den ≠ 0) (h : IsRounding rm neg (num / den) m) :
    (m : Rat) = num / den ↔ num % den = 0 := by
  have pos : (0 : Rat) < den := Nat.cast_pos.mpr (Nat.pos_of_ne_zero hd)
  constructor
  · intro e
    rw [eq_div_iff pos.ne'] at e
    exact Nat.mod_eq_zero_of_dvd ⟨m, by rw [mul_comm]; exact_mod_cast e.symm⟩
  · intro e
    have hq : (num : Rat) / den = (num / den : Nat) := by rw [fraction_eq hd, e]; simp
    rw [hq, le_antisymm (h.ge (by positivity) hq.le) (h.le hq.ge)]

/-! ### What is nearest among the numbers of a precision -/

/-- In units of the last place, a number of a precision is an integer or below the binade of what is rounded
(`FitsPrecision.units`). -/
def OnGrid (p : Nat) (τ : Rat) : Prop := τ < 2 ^ p ∨ ∃ c : Nat, τ = c

theorem OnGrid.le_floor (h : OnGrid p τ) (hα : 2 ^ p ≤ α) (hτ : τ ≤ α) : τ ≤ ⌊α⌋₊ := by
  obtain h | ⟨c, rfl⟩ := h
  · refine h.le.trans ?_
    have : 2 ^ p ≤ ⌊α⌋₊ := Nat.le_floor (by exact_mod_cast hα)
    exact_mod_cast this
  · exact Nat.cast_le.mpr (Nat.le_floor hτ)

theorem OnGrid.ceil_le (h : OnGrid p τ) (hα : 2 ^ p ≤ α) (hτ : α ≤ τ) : ⌈α⌉₊ ≤ τ := by
  obtain h | ⟨c, rfl⟩ := h
  · exact absurd (hα.trans hτ) (not_le.mpr h)
  · exact Nat.cast_le.mpr (Nat.ceil_le.mpr hτ)

/-- An integer within a half is nearest among all integers, and another one that is as near shows a tie. -/
theorem nearest_of_half (h : |α - m| ≤ 1 / 2) (c : Nat) :
    |α - m| ≤ |α - c| ∧ (|α - m| = |α - c| → c ≠ m → |α - m| = 1 / 2) := by
  by_cases hc : c = m
  · exact ⟨by rw [hc], fun _ hne => absurd hc hne⟩
  · have apart : (1 : Rat) ≤ |(m : Rat) - c| := by
      have : (1 : Int) ≤ |(m : Int) - c| := Int.one_le_abs (by omega)
      exact_mod_cast this
    have triangle : |(m : Rat) - c| ≤ |α - m| + |α - c| := by
      have := abs_sub_le (m : Rat) α c
      rwa [abs_sub_comm (m : Rat) α] at this
    exact ⟨by linarith, fun e _ => by linarith⟩

/-- Rounding to nearest, ties to even, among the numbers of a precision (R210). -/
theorem IsRounding.nearest (h : IsRounding 0b00 neg α m) (hα : 2 ^ p ≤ α) (hτ : OnGrid p τ) :
    |α - m| ≤ |α - τ| ∧ (|α - m| = |α - τ| → τ ≠ m → Even m) := by
  have h : |α - m| ≤ 1 / 2 ∧ (|α - m| = 1 / 2 → Even m) := h
  obtain below | ⟨c, rfl⟩ := hτ
  · have farther : |α - (2 ^ p : Nat)| < |α - τ| := by
      push_cast
      rw [abs_of_nonneg (sub_nonneg.mpr hα), abs_of_nonneg (by linarith)]
      linarith
    have closer := lt_of_le_of_lt (nearest_of_half h.1 (2 ^ p)).1 farther
    exact ⟨closer.le, fun e => absurd e closer.ne⟩
  · obtain ⟨le, tie⟩ := nearest_of_half h.1 c
    exact ⟨le, fun e hne => h.2 (tie e fun hc => hne (by rw [hc]))⟩

/-- A magnitude below an even number `n` that a mode rounds up to it. -/
def RoundsUpTo (rm : BitVec 2) (neg : Bool) (n α : Rat) : Prop :=
  match rm with
  | 0b00 => n - 1 / 2 ≤ α
  | 0b01 => False
  | 0b10 => neg = false ∧ n - 1 < α
  | _ => neg = true ∧ n - 1 < α

theorem IsRounding.eq_iff {n : Nat} (h : IsRounding rm neg α m) (hn : Even n) (h0 : 0 ≤ α) (hα : α < n) :
    m = n ↔ RoundsUpTo rm neg n α := by
  have floor : ⌊α⌋₊ < n := (Nat.floor_lt h0).mpr hα
  have npos : n ≠ 0 := by omega
  have hle : m ≤ n := h.ge h0 hα.le
  have ceil : ⌈α⌉₊ = n ↔ n - 1 < α := by
    rw [Nat.ceil_eq_iff npos, Nat.cast_pred (Nat.pos_of_ne_zero npos)]
    exact and_iff_left hα.le
  obtain rfl | rfl | rfl | rfl := roundingMode_cases rm
  · obtain ⟨near, tie⟩ : |α - m| ≤ 1 / 2 ∧ (|α - m| = 1 / 2 → Even m) := h
    have near := abs_le.mp near
    show m = n ↔ (n : Rat) - 1 / 2 ≤ α
    refine ⟨fun e => by rw [e] at near; linarith, fun e => ?_⟩
    by_contra hne
    have hm : (m : Rat) ≤ n - 1 := by
      have : m + 1 ≤ n := by omega
      have : ((m + 1 : Nat) : Rat) ≤ n := Nat.cast_le.mpr this
      push_cast at this
      linarith
    have half : α - m = 1 / 2 := by linarith
    have hmn : m + 1 = n := by
      have : (n : Rat) = (m + 1 : Nat) := by
        push_cast
        linarith
      exact (Nat.cast_injective this).symm
    have even : Even m := tie (by rw [half]; norm_num)
    exact absurd hn (by rw [← hmn]; exact Nat.not_even_iff_odd.mpr even.add_one)
  · have h : m = ⌊α⌋₊ := h
    exact iff_false_intro (by omega)
  · have h : m = if neg then ⌊α⌋₊ else ⌈α⌉₊ := h
    show m = n ↔ neg = false ∧ (n : Rat) - 1 < α
    cases neg
    · rw [h, if_neg Bool.false_ne_true, ceil, and_iff_right rfl]
    · rw [h, if_pos rfl]
      simp [floor.ne]
  · have h : m = if neg then ⌈α⌉₊ else ⌊α⌋₊ := h
    show m = n ↔ neg = true ∧ (n : Rat) - 1 < α
    cases neg
    · rw [h, if_neg Bool.false_ne_true]
      simp [floor.ne]
    · rw [h, if_pos rfl, ceil, and_iff_right rfl]

end Sys2Proof.Machine
end

section
/-! A number rounded to the precision of a format (R210), and its size (R212, R213). -/

namespace Sys2Proof.Machine

variable {y : FLen} {x : Exact} {rm : BitVec 2} {num den : Nat} {e : Int}

/-! ### The binade of a number -/

theorem fraction_lt_two_zpow_of_nonneg (num : Nat) (hd : den ≠ 0) (he : 0 ≤ e) :
    num < den * 2 ^ e.toNat ↔ (num : Rat) / den < 2 ^ e := by
  rw [div_lt_iff₀ (Nat.cast_pos.mpr (Nat.pos_of_ne_zero hd)), two_zpow_of_nonneg he, mul_comm]
  exact_mod_cast Iff.rfl

theorem fraction_lt_two_zpow_of_neg (num : Nat) (hd : den ≠ 0) (he : e < 0) :
    num * 2 ^ e.natAbs < den ↔ (num : Rat) / den < 2 ^ e := by
  rw [div_lt_iff₀ (Nat.cast_pos.mpr (Nat.pos_of_ne_zero hd)), two_zpow_of_neg he, inv_mul_eq_div,
    lt_div_iff₀ (by positivity)]
  exact_mod_cast Iff.rfl

/-- `floorLog2` begins with an exponent that may be one too great, and tests that. -/
theorem floorLog2_eq (num : Nat) (hd : den ≠ 0) : floorLog2 num den =
    if (num : Rat) / den < 2 ^ ((num.log2 : Int) - den.log2) then (num.log2 : Int) - den.log2 - 1
    else (num.log2 : Int) - den.log2 := by
  rw [floorLog2]
  split
  · rename_i h
    exact if_congr (fraction_lt_two_zpow_of_nonneg num hd h) rfl rfl
  · rename_i h
    exact if_congr (fraction_lt_two_zpow_of_neg num hd (not_le.mp h)) rfl rfl

theorem two_zpow_log2 (hn : num ≠ 0) :
    (2 : Rat) ^ (num.log2 : Int) ≤ num ∧ (num : Rat) < 2 ^ ((num.log2 : Int) + 1) := by
  rw [← Nat.cast_succ, zpow_natCast, zpow_natCast]
  exact ⟨by exact_mod_cast Nat.log2_self_le hn, by exact_mod_cast Nat.lt_log2_self⟩

theorem fraction_between (hn : num ≠ 0) (hd : den ≠ 0) :
    (2 : Rat) ^ ((num.log2 : Int) - den.log2 - 1) ≤ num / den ∧
      (num : Rat) / den < 2 ^ ((num.log2 : Int) - den.log2 + 1) := by
  have pos : (0 : Rat) < den := Nat.cast_pos.mpr (Nat.pos_of_ne_zero hd)
  obtain ⟨n1, n2⟩ := two_zpow_log2 hn
  obtain ⟨d1, d2⟩ := two_zpow_log2 hd
  set e : Int := (num.log2 : Int) - den.log2 with he
  constructor
  · rw [le_div_iff₀ pos]
    refine le_trans ?_ n1
    rw [show (num.log2 : Int) = (e - 1) + (den.log2 + 1) by omega, zpow_add₀ two_ne_zero (e - 1)]
    exact mul_le_mul_of_nonneg_left d2.le (by positivity)
  · rw [div_lt_iff₀ pos]
    refine n2.trans_le ?_
    rw [show (num.log2 : Int) + 1 = (e + 1) + den.log2 by omega, zpow_add₀ two_ne_zero]
    exact mul_le_mul_of_nonneg_left d1 (by positivity)

/-- The exponent that `floorLog2` answers bounds the fraction from both sides. -/
theorem floorLog2_spec (hn : num ≠ 0) (hd : den ≠ 0) :
    (2 : Rat) ^ floorLog2 num den ≤ num / den ∧ (num : Rat) / den < 2 ^ (floorLog2 num den + 1) := by
  obtain ⟨below, above⟩ := fraction_between hn hd
  rw [floorLog2_eq num hd]
  split
  · rename_i h
    exact ⟨below, by rwa [sub_add_cancel]⟩
  · rename_i h
    exact ⟨not_lt.mp h, above⟩

/-- The exponent of a number before it is rounded. -/
def Exact.exponent (x : Exact) : Int := floorLog2 x.num x.den

/-- The unit in the last place of a format, in the binade of a number. -/
def Exact.unit (x : Exact) (y : FLen) : Rat := 2 ^ (x.exponent - FLen.fracBits y)

/-- The magnitude of a number in units of the last place. -/
def Exact.mantissa (x : Exact) (y : FLen) : Rat := |x.value| / x.unit y

theorem Exact.unit_pos (x : Exact) (y : FLen) : 0 < x.unit y := by
  unfold Exact.unit
  positivity

theorem Exact.mantissa_nonneg (x : Exact) (y : FLen) : 0 ≤ x.mantissa y := div_nonneg (abs_nonneg _) (x.unit_pos y).le

theorem Exact.mantissa_mul_unit (x : Exact) (y : FLen) : x.mantissa y * x.unit y = |x.value| :=
  div_mul_cancel₀ _ (x.unit_pos y).ne'

theorem Exact.value_eq_mantissa (x : Exact) (y : FLen) : x.value = signFactor x.neg * (x.mantissa y * x.unit y) := by
  rw [Exact.mantissa_mul_unit, ← Exact.value_eq_abs]

/-- The binade of a number, in units of the last place. -/
theorem Exact.two_zpow_exponent (x : Exact) (y : FLen) : (2 : Rat) ^ x.exponent = 2 ^ FLen.fracBits y * x.unit y := by
  rw [Exact.unit, ← zpow_natCast, ← zpow_add₀ two_ne_zero, add_sub_cancel]

theorem Exact.two_zpow_exponent_succ (x : Exact) (y : FLen) :
    (2 : Rat) ^ (x.exponent + 1) = 2 ^ (FLen.fracBits y + 1) * x.unit y := by
  rw [zpow_add_one₀ two_ne_zero, x.two_zpow_exponent y, pow_succ]
  ring

theorem Exact.abs_value_bounds (hn : x.num ≠ 0) (hd : x.den ≠ 0) :
    (2 : Rat) ^ x.exponent ≤ |x.value| ∧ |x.value| < 2 ^ (x.exponent + 1) := by
  rw [Exact.abs_value]
  exact floorLog2_spec hn hd

theorem Exact.mantissa_bounds (hn : x.num ≠ 0) (hd : x.den ≠ 0) (y : FLen) :
    2 ^ FLen.fracBits y ≤ x.mantissa y ∧ x.mantissa y < 2 ^ (FLen.fracBits y + 1) := by
  obtain ⟨low, high⟩ := Exact.abs_value_bounds hn hd
  rw [Exact.mantissa, le_div_iff₀ (x.unit_pos y), div_lt_iff₀ (x.unit_pos y), ← x.two_zpow_exponent y,
    ← x.two_zpow_exponent_succ y]
  exact ⟨low, high⟩

/-- A number of a precision is an integer in units of the last place, or below the binade. -/
theorem FitsPrecision.units {q : Rat} (h : FitsPrecision y q) (x : Exact) :
    OnGrid (FLen.fracBits y) (q / x.unit y) := by
  by_cases he : 2 ^ x.exponent ≤ q
  · obtain ⟨c, hc⟩ := h.multiple he
    exact .inr ⟨c, by rw [div_eq_iff (x.unit_pos y).ne']; exact hc⟩
  · exact .inl (by rw [div_lt_iff₀ (x.unit_pos y), ← x.two_zpow_exponent y]; exact not_le.mp he)

/-! ### The rounded number -/

/-- What is known of a rounding of a number (R210): `m` is the integer that its magnitude in units of the last place is
rounded to; at a power of two it carries into the exponent. -/
structure RoundsAs (y : FLen) (x : Exact) (rm : BitVec 2) (r : Rounded) (m : Nat) : Prop where
  mantissa : IsRounding rm x.neg (x.mantissa y) m
  exact : r.exact = x.exponent
  inexact : r.inexact = true ↔ (m : Rat) ≠ x.mantissa y
  carry : (m = 2 ^ (FLen.fracBits y + 1) ∧ r.exp = x.exponent + 1 ∧ r.sig = 2 ^ FLen.fracBits y) ∨
    (m ≠ 2 ^ (FLen.fracBits y + 1) ∧ r.exp = x.exponent ∧ r.sig = m)

/-- The magnitude in units of the last place as the fraction that `fpRound` forms. -/
theorem Exact.mantissa_eq (hd : x.den ≠ 0) (y : FLen) : ∃ num den : Nat, den ≠ 0 ∧
    x.mantissa y = (num : Rat) / den ∧ ∀ rm, fpRound y x rm =
      let m := roundSig num den rm x.neg
      if m = 2 ^ (FLen.fracBits y + 1) then
        ⟨x.exponent, x.exponent + 1, 2 ^ FLen.fracBits y, num % den != 0⟩
      else ⟨x.exponent, x.exponent, m, num % den != 0⟩ := by
  set k : Int := FLen.fracBits y - x.exponent with hk
  refine ⟨if 0 ≤ k then x.num * 2 ^ k.toNat else x.num, if 0 ≤ k then x.den else x.den * 2 ^ k.natAbs, ?_, ?_,
    fun rm => rfl⟩
  · split <;> simp [hd]
  · rw [Exact.mantissa, Exact.unit, Exact.abs_value, ← neg_sub, ← hk, zpow_neg, div_inv_eq_mul]
    split
    · rename_i h
      rw [two_zpow_of_nonneg h]
      push_cast
      ring
    · rename_i h
      rw [two_zpow_of_neg (not_le.mp h), ← div_eq_mul_inv, div_div]
      push_cast
      ring

theorem fpRound_roundsAs (hd : x.den ≠ 0) (y : FLen) (rm : BitVec 2) : ∃ m, RoundsAs y x rm (fpRound y x rm) m := by
  obtain ⟨num, den, hden, hα, hr⟩ := Exact.mantissa_eq hd y
  have rounding := roundSig_isRounding (num := num) hden rm x.neg
  have inexact : (num % den != 0) = true ↔ (roundSig num den rm x.neg : Rat) ≠ x.mantissa y := by
    rw [bne_iff_ne, hα, Ne, Ne, rounding.exact_iff hden]
  rw [← hα] at rounding
  refine ⟨roundSig num den rm x.neg, ?_⟩
  rw [hr]
  dsimp only
  split
  · rename_i h
    exact ⟨rounding, rfl, inexact, .inl ⟨h, rfl, rfl⟩⟩
  · rename_i h
    exact ⟨rounding, rfl, inexact, .inr ⟨h, rfl, rfl⟩⟩

variable {r : Rounded} {m : Nat}

theorem RoundsAs.bounds (h : RoundsAs y x rm r m) (hn : x.num ≠ 0) (hd : x.den ≠ 0) :
    2 ^ FLen.fracBits y ≤ m ∧ m ≤ 2 ^ (FLen.fracBits y + 1) := by
  obtain ⟨low, high⟩ := Exact.mantissa_bounds hn hd y
  exact ⟨h.mantissa.le (by exact_mod_cast low), h.mantissa.ge (x.mantissa_nonneg y) (by exact_mod_cast high.le)⟩

/-- The rounded significand is that of a normalized number. -/
theorem RoundsAs.sig_bounds (h : RoundsAs y x rm r m) (hn : x.num ≠ 0) (hd : x.den ≠ 0) :
    2 ^ FLen.fracBits y ≤ r.sig ∧ r.sig < 2 ^ (FLen.fracBits y + 1) := by
  obtain ⟨low, high⟩ := h.bounds hn hd
  obtain ⟨-, -, hs⟩ | ⟨hm, -, hs⟩ := h.carry
  · rw [hs]
    exact ⟨le_rfl, Nat.pow_lt_pow_right (by norm_num) (Nat.lt_succ_self _)⟩
  · rw [hs]
    exact ⟨low, lt_of_le_of_ne high hm⟩

/-- The rounded magnitude. -/
theorem RoundsAs.magnitude (h : RoundsAs y x rm r m) :
    (r.sig : Rat) * 2 ^ (r.exp - FLen.fracBits y) = m * x.unit y := by
  obtain ⟨hm, he, hs⟩ | ⟨-, he, hs⟩ := h.carry
  · rw [hm, he, hs, Exact.unit, add_sub_right_comm, zpow_add₀ two_ne_zero]
    push_cast
    ring
  · rw [he, hs, Exact.unit]

theorem RoundsAs.even_sig (h : RoundsAs y x rm r m) (hm : Even m) : Even r.sig := by
  obtain ⟨-, -, hs⟩ | ⟨-, -, hs⟩ := h.carry
  · rw [hs]
    cases y <;> decide
  · rwa [hs]

/-! ### The size of the rounded number -/

theorem byFLen_fracBits (y : FLen) : (byFLen 23 52 y : Int) = FLen.fracBits y := by cases y <;> rfl

theorem roundsTo_of_le (hn : x.num ≠ 0) (hd : x.den ≠ 0) (y : FLen) (rm : BitVec 2) (he : e ≤ x.exponent) :
    RoundsTo y rm x.value e :=
  .inl ((zpow_le_zpow_right₀ one_le_two he).trans (Exact.abs_value_bounds hn hd).1)

/-- One binade above a number, `RoundsTo` says that it is rounded up to there. -/
theorem roundsTo_succ (hn : x.num ≠ 0) (hd : x.den ≠ 0) (h : RoundsAs y x rm r m) :
    RoundsTo y rm x.value (x.exponent + 1) ↔ m = 2 ^ (FLen.fracBits y + 1) := by
  obtain ⟨low, high⟩ := Exact.mantissa_bounds hn hd y
  have nonneg := x.mantissa_nonneg y
  have pos := x.unit_pos y
  have step : (2 : Rat) ^ (x.exponent + 1 - 1 - byFLen 23 52 y) = x.unit y := by
    rw [byFLen_fracBits, add_sub_cancel_right]
    rfl
  have rounds := h.mantissa.eq_iff (n := 2 ^ (FLen.fracBits y + 1)) (by simp [Nat.even_pow]) nonneg
    (by exact_mod_cast high)
  rw [rounds]
  unfold RoundsTo
  simp only [step]
  rw [or_iff_right (not_le.mpr (Exact.abs_value_bounds hn hd).2), x.two_zpow_exponent_succ y, ← x.mantissa_mul_unit y,
    x.value_eq_mantissa y]
  push_cast
  have one : (1 : Rat) ≤ 2 ^ (FLen.fracBits y + 1) := one_le_pow₀ one_le_two
  generalize (2 : Rat) ^ (FLen.fracBits y + 1) = n at *
  generalize x.mantissa y = α at *
  generalize x.unit y = u at *
  have up : n * u - u < α * u ↔ n - 1 < α := by
    rw [← sub_one_mul, mul_lt_mul_iff_left₀ pos]
  have positive : 0 ≤ n * u - u := by nlinarith
  have magnitude : 0 ≤ α * u := by positivity
  obtain rfl | rfl | rfl | rfl := roundingMode_cases rm
  · show n * u - u / 2 ≤ α * u ↔ n - 1 / 2 ≤ α
    rw [show n * u - u / 2 = (n - 1 / 2) * u by ring, mul_le_mul_iff_left₀ pos]
  · exact Iff.rfl
  · show n * u - u < signFactor x.neg * (α * u) ↔ x.neg = false ∧ n - 1 < α
    cases x.neg
    · rw [signFactor, if_neg Bool.false_ne_true, one_mul, up, and_iff_right rfl]
    · exact iff_of_false (by rw [signFactor, if_pos rfl]; linarith) (by simp)
  · show signFactor x.neg * (α * u) < -(n * u - u) ↔ x.neg = true ∧ n - 1 < α
    cases x.neg
    · exact iff_of_false (by rw [signFactor, if_neg Bool.false_ne_true]; linarith) (by simp)
    · rw [signFactor, if_pos rfl, neg_one_mul, neg_lt_neg_iff, up, and_iff_right rfl]

theorem not_roundsTo (hn : x.num ≠ 0) (hd : x.den ≠ 0) (y : FLen) (rm : BitVec 2) (he : x.exponent + 1 < e) :
    ¬RoundsTo y rm x.value e := by
  have high := (Exact.abs_value_bounds hn hd).2
  have least : (2 : Rat) ^ (x.exponent + 1) ≤ 2 ^ (e - 1) := zpow_le_zpow_right₀ one_le_two (by omega)
  have double : (2 : Rat) ^ e = 2 ^ (e - 1) * 2 := by rw [← zpow_add_one₀ two_ne_zero, sub_add_cancel]
  have step : (2 : Rat) ^ (e - 1 - byFLen 23 52 y) ≤ 2 ^ (e - 1) := by
    rw [byFLen_fracBits]
    exact zpow_le_zpow_right₀ one_le_two (by omega)
  have stepPos : (0 : Rat) < 2 ^ (e - 1 - byFLen 23 52 y) := by positivity
  have sign := neg_abs_le x.value
  have value := le_abs_self x.value
  rintro (h | h)
  · linarith
  · obtain rfl | rfl | rfl | rfl := roundingMode_cases rm
    · have h : (2 : Rat) ^ e - 2 ^ (e - 1 - byFLen 23 52 y) / 2 ≤ |x.value| := h
      linarith
    · exact h
    · have h : (2 : Rat) ^ e - 2 ^ (e - 1 - byFLen 23 52 y) < x.value := h
      linarith
    · have h : x.value < -((2 : Rat) ^ e - 2 ^ (e - 1 - byFLen 23 52 y)) := h
      linarith

/-- Rounded, a number reaches the magnitude of 2^e where its rounded exponent is at least `e`. -/
theorem RoundsAs.roundsTo_iff (h : RoundsAs y x rm r m) (hn : x.num ≠ 0) (hd : x.den ≠ 0) :
    RoundsTo y rm x.value e ↔ e ≤ r.exp := by
  have next := roundsTo_succ hn hd h
  have carry : r.exp = if m = 2 ^ (FLen.fracBits y + 1) then x.exponent + 1 else x.exponent := by
    obtain ⟨hm, he, -⟩ | ⟨hm, he, -⟩ := h.carry <;> simp [hm, he]
  rw [carry]
  obtain hlt | rfl | hgt := lt_trichotomy e (x.exponent + 1)
  · refine iff_of_true (roundsTo_of_le hn hd y rm (by omega)) ?_
    split <;> omega
  · rw [next]
    split <;> simp_all
  · refine iff_of_false (not_roundsTo hn hd y rm hgt) ?_
    split <;> omega

theorem RoundsAs.tooGreat_iff (h : RoundsAs y x rm r m) (hn : x.num ≠ 0) (hd : x.den ≠ 0) :
    TooGreat y rm x.value ↔ FLen.emax y < r.exp := by
  have emax : (byFLen 128 1024 y : Int) = FLen.emax y + 1 := by cases y <;> rfl
  rw [TooGreat, emax, h.roundsTo_iff hn hd, Int.add_one_le_iff]

theorem RoundsAs.tooSmall_iff (h : RoundsAs y x rm r m) (hn : x.num ≠ 0) (hd : x.den ≠ 0) :
    TooSmall y rm x.value ↔ tiny y r = true := by
  obtain ⟨low, high⟩ := Exact.abs_value_bounds hn hd
  have emin : (byFLen (-126) (-1022) y : Int) = FLen.emin y := by cases y <;> rfl
  have below : |x.value| < 2 ^ FLen.emin y ↔ x.exponent < FLen.emin y := by
    constructor
    · exact fun k => (zpow_lt_zpow_iff_right₀ one_lt_two).mp (low.trans_lt k)
    · exact fun k => high.trans_le (zpow_le_zpow_right₀ one_le_two (by omega))
  rw [TooSmall, emin, h.roundsTo_iff hn hd, below, tiny, h.exact]
  simp [and_comm]

end Sys2Proof.Machine
end

section
/-! What the delivery of an exact result does (R211 to R213, R217, R218): one lemma for each way in which it ends. -/

namespace Sys2Proof.Machine

variable {α : Type} {y : FLen} {x : Exact} {zeroNeg : Bool} {s t : State} {v : QWord} {r : Rounded}

theorem fpuTrap_abandons (e : TrapType) (s : State) :
    Abandons (fpuTrap e : Act α) s (.trap .fpu) { s with fsr := putTT s.fsr e.code } :=
  abandons_after (gives_change _ _) ((abandons_raise ..).mpr ⟨rfl, rfl⟩)

theorem setFsrBit_getLsbD (s : State) {j k : Nat} (hk : k < 16) (h : j ≠ k) :
    (s.setFsrBit k).fsr.getLsbD j = s.fsr.getLsbD j := by
  rw [State.setFsrBit_fsr, putBit_getLsbD _ _ _ _ hk, if_neg h]

/-! ### An inexact result (R217) -/

theorem inexactResult_exact (s : State) : Gives (inexactResult false) s () s := gives_return () s

theorem inexactResult_recorded (h : s.fsr.getLsbD bitIEN = false) :
    Gives (inexactResult true) s () (s.setFsrBit bitIF) := by
  have disabled := (setFsrBit_getLsbD s (j := bitIEN) (k := bitIF) (by decide) (by decide)).trans h
  refine gives_after (gives_change _ _) (gives_after (gives_state _) ?_)
  rw [disabled]
  exact gives_return _ _

theorem inexactResult_traps (h : s.fsr.getLsbD bitIEN = true) :
    Abandons (inexactResult true) s (.trap .fpu)
      { s.setFsrBit bitIF with fsr := putTT (s.setFsrBit bitIF).fsr 0b110 } := by
  have enabled := (setFsrBit_getLsbD s (j := bitIEN) (k := bitIF) (by decide) (by decide)).trans h
  refine abandons_after (gives_change _ _) (abandons_after (gives_state _) ?_)
  rw [enabled]
  exact fpuTrap_abandons _ _

/-- An inexact result is recorded or traps, by IEN. -/
theorem inexactResult_ends (b : Bool) (s : State) : (∃ t, Gives (inexactResult b) s () t) ∨
    ∃ t, Abandons (inexactResult b) s (.trap .fpu) t := by
  cases b
  · exact .inl ⟨_, inexactResult_exact s⟩
  · cases enabled : s.fsr.getLsbD bitIEN
    · exact .inl ⟨_, inexactResult_recorded enabled⟩
    · exact .inr ⟨_, inexactResult_traps enabled⟩

/-- Where an inexact result does not trap, it sets IF. -/
theorem inexactResult_gives {b : Bool} (h : Gives (inexactResult b) s () t) :
    t = if b then s.setFsrBit bitIF else s := by
  cases b
  · exact (h.unique (inexactResult_exact s)).2
  · cases enabled : s.fsr.getLsbD bitIEN
    · exact (h.unique (inexactResult_recorded enabled)).2
    · exact absurd (inexactResult_traps enabled) h.not_abandons

/-! ### A result delivered (R218) -/

/-- The pattern of a rounded number. -/
def roundedPattern (y : FLen) (neg : Bool) (r : Rounded) : QWord :=
  pattern y neg (r.exp + FLen.bias y).toNat (r.sig - 2 ^ FLen.fracBits y)

theorem fpDeliver_zero (hx : x.num = 0) (y : FLen) (zeroNeg : Bool) (s : State) :
    Gives (fpDeliver y x zeroNeg) s (pattern y zeroNeg 0 0) s := by
  unfold fpDeliver
  rw [if_pos hx]
  exact gives_return _ _

theorem fpDeliver_overflows (hx : x.num ≠ 0) (great : FLen.emax y < (fpRound y x (rounding s.fsr)).exp) :
    Abandons (fpDeliver y x zeroNeg) s (.trap .fpu) { s with fsr := putTT s.fsr 0b010 } := by
  unfold fpDeliver
  rw [if_neg hx]
  refine abandons_after (gives_state s) ?_
  dsimp only
  rw [if_pos great]
  exact abandons_at (fpuTrap_abandons _ _)

/-- A result that is too small sets UF, and traps if that is enabled (R212). -/
theorem fpDeliver_underflows (hx : x.num ≠ 0) (notGreat : ¬FLen.emax y < (fpRound y x (rounding s.fsr)).exp)
    (small : tiny y (fpRound y x (rounding s.fsr)) = true) :
    (s.fsr.getLsbD bitUEN = false → Gives (fpDeliver y x zeroNeg) s 0 (s.setFsrBit bitUF)) ∧
    (s.fsr.getLsbD bitUEN = true → Abandons (fpDeliver y x zeroNeg) s (.trap .fpu)
      { s.setFsrBit bitUF with fsr := putTT (s.setFsrBit bitUF).fsr 0b001 }) := by
  have same := setFsrBit_getLsbD s (j := bitUEN) (k := bitUF) (by decide) (by decide)
  unfold fpDeliver
  rw [if_neg hx]
  refine ⟨fun h => gives_after (gives_state s) ?_, fun h => abandons_after (gives_state s) ?_⟩
  · dsimp only
    rw [if_neg notGreat, if_pos small]
    refine gives_after (gives_change _ _) (gives_after (gives_state _) ?_)
    rw [same, h]
    exact gives_return _ _
  · dsimp only
    rw [if_neg notGreat, if_pos small]
    refine abandons_after (gives_change _ _) (abandons_after (gives_state _) ?_)
    rw [same, h]
    exact abandons_at (fpuTrap_abandons _ _)

/-- A result of a size that the format has is delivered unless it is an inexact one that traps (R217). -/
theorem fpDeliver_sized (hx : x.num ≠ 0) (notGreat : ¬FLen.emax y < (fpRound y x (rounding s.fsr)).exp)
    (notSmall : tiny y (fpRound y x (rounding s.fsr)) = false) :
    (∀ t, Gives (inexactResult (fpRound y x (rounding s.fsr)).inexact) s () t →
      Gives (fpDeliver y x zeroNeg) s (roundedPattern y x.neg (fpRound y x (rounding s.fsr))) t) ∧
    (∀ t, Abandons (inexactResult (fpRound y x (rounding s.fsr)).inexact) s (.trap .fpu) t →
      Abandons (fpDeliver y x zeroNeg) s (.trap .fpu) t) := by
  unfold fpDeliver
  rw [if_neg hx]
  refine ⟨fun t h => gives_after (gives_state s) ?_, fun t h => abandons_after (gives_state s) ?_⟩
  · dsimp only
    rw [if_neg notGreat, notSmall]
    exact gives_after h (gives_return _ _)
  · dsimp only
    rw [if_neg notGreat, notSmall]
    exact abandons_at h

/-- All that a delivery can give of a number other than zero. -/
theorem fpDeliver_gives (hx : x.num ≠ 0) (hr : fpRound y x (rounding s.fsr) = r)
    (h : Gives (fpDeliver y x zeroNeg) s v t) :
    r.exp ≤ FLen.emax y ∧
      ((tiny y r = true ∧ v = 0 ∧ t = s.setFsrBit bitUF) ∨
        (tiny y r = false ∧ v = roundedPattern y x.neg r ∧ t = if r.inexact then s.setFsrBit bitIF else s)) := by
  subst hr
  by_cases great : FLen.emax y < (fpRound y x (rounding s.fsr)).exp
  · exact absurd (fpDeliver_overflows hx great) h.not_abandons
  · refine ⟨not_lt.mp great, ?_⟩
    cases small : tiny y (fpRound y x (rounding s.fsr))
    · obtain ⟨gives, abandons⟩ := fpDeliver_sized (zeroNeg := zeroNeg) hx great small
      obtain ⟨u, ended⟩ | ⟨u, ended⟩ := inexactResult_ends (fpRound y x (rounding s.fsr)).inexact s
      · obtain ⟨rfl, rfl⟩ := h.unique (gives u ended)
        exact .inr ⟨rfl, rfl, inexactResult_gives ended⟩
      · exact absurd (abandons u ended) h.not_abandons
    · obtain ⟨gives, abandons⟩ := fpDeliver_underflows (zeroNeg := zeroNeg) hx great small
      cases enabled : s.fsr.getLsbD bitUEN
      · obtain ⟨rfl, rfl⟩ := h.unique (gives enabled)
        exact .inl ⟨rfl, rfl, rfl⟩
      · exact absurd (abandons enabled) h.not_abandons

end Sys2Proof.Machine
end

section
/-! The number that is delivered (R210, R218): its pattern, and how near it is in each rounding mode. -/

namespace Sys2Proof.Machine

variable {y : FLen} {x : Exact} {rm : BitVec 2} {r : Rounded} {m : Nat} {q : Rat} {v : QWord}

/-! ### The pattern of a rounded number -/

/-- The number that a magnitude of `m` units of the last place stands for, with the sign of `x`. -/
def Exact.roundedTo (x : Exact) (y : FLen) (m : Nat) : Rat := signFactor x.neg * (m * x.unit y)

/-- A rounded number whose exponent the format has is what its pattern stands for. -/
theorem RoundsAs.classify_pattern (h : RoundsAs y x rm r m) (hn : x.num ≠ 0) (hd : x.den ≠ 0)
    (notSmall : tiny y r = false) (notGreat : r.exp ≤ FLen.emax y) :
    ∃ d, classify y (roundedPattern y x.neg r) = some d ∧ d.value = x.roundedTo y m := by
  obtain ⟨low, high⟩ := h.sig_bounds hn hd
  have least : FLen.emin y ≤ r.exp := by
    simp only [tiny, Bool.or_eq_false_iff, decide_eq_false_iff_not, not_lt] at notSmall
    exact notSmall.1
  have biased : ((r.exp + FLen.bias y).toNat : Int) = r.exp + FLen.bias y := by
    rw [FLen.emin] at least
    omega
  have nonzero : (r.exp + FLen.bias y).toNat ≠ 0 := by
    rw [FLen.emin] at least
    omega
  have below : (r.exp + FLen.bias y).toNat < 2 ^ FLen.expBits y - 1 := by
    cases y <;> simp only [FLen.emin, FLen.emax, FLen.bias, FLen.expBits] at least notGreat ⊢ <;> omega
  refine ⟨_, classify_normal_pattern nonzero below (by rw [pow_succ] at high; omega), ?_⟩
  rw [scaled_value, biased, Nat.add_sub_cancel' low, add_sub_cancel_right, h.magnitude, Exact.roundedTo]

/-- The least significant bit of the pattern of an even significand. -/
theorem RoundsAs.pattern_even (h : RoundsAs y x rm r m) (hm : Even m) (neg : Bool) :
    (roundedPattern y neg r).getLsbD 0 = false := by
  have power : 2 ^ FLen.fracBits y % 2 = 0 := by cases y <;> rfl
  have even := Nat.even_iff.mp (h.even_sig hm)
  rw [roundedPattern, pattern_getLsbD_zero, decide_eq_false_iff_not]
  omega

/-! ### Distances and order in units of the last place -/

theorem Exact.abs_roundedTo (x : Exact) (y : FLen) (m : Nat) : |x.roundedTo y m| = m * x.unit y := by
  rw [Exact.roundedTo, abs_mul, abs_signFactor, one_mul, abs_of_nonneg (mul_nonneg m.cast_nonneg (x.unit_pos y).le)]

/-- The rounded number is exact where its magnitude is. -/
theorem Exact.roundedTo_eq_iff (x : Exact) (y : FLen) (m : Nat) :
    x.roundedTo y m = x.value ↔ (m : Rat) = x.mantissa y := by
  rw [x.value_eq_mantissa y, Exact.roundedTo,
    mul_right_inj' (left_ne_zero_of_mul_eq_one (signFactor_mul_self x.neg)), mul_left_inj' (x.unit_pos y).ne']

/-- A number other than `x`, with the sign of `x` taken from it, in units of the last place. -/
theorem FitsPrecision.relative (h : FitsPrecision y q) (x : Exact) : ∃ τ, OnGrid (FLen.fracBits y) τ ∧
    q = signFactor x.neg * (τ * x.unit y) := by
  refine ⟨signFactor x.neg * q / x.unit y, (h.mul_sign x.neg).units x, ?_⟩
  rw [div_mul_cancel₀ _ (x.unit_pos y).ne', ← mul_assoc, signFactor_mul_self, one_mul]

theorem abs_sub_relative (neg : Bool) (a b u : Rat) (hu : 0 < u) :
    |signFactor neg * (a * u) - signFactor neg * (b * u)| = |a - b| * u := by
  rw [← mul_sub, ← sub_mul, abs_mul, abs_signFactor, one_mul, abs_mul, abs_of_pos hu]

/-! ### The modes -/

section Modes

variable (hn : x.num ≠ 0) (hd : x.den ≠ 0)

include hn hd

/-- To nearest, ties to even. -/
theorem IsRounding.nearest_value (h : IsRounding 0b00 x.neg (x.mantissa y) m) (hq : FitsPrecision y q) :
    |x.value - x.roundedTo y m| ≤ |x.value - q| ∧
      (|x.value - x.roundedTo y m| = |x.value - q| → q ≠ x.roundedTo y m → Even m) := by
  have pos := x.unit_pos y
  obtain ⟨τ, grid, rfl⟩ := hq.relative x
  obtain ⟨le, tie⟩ := h.nearest (Exact.mantissa_bounds hn hd y).1 grid
  rw [x.value_eq_mantissa y, Exact.roundedTo, abs_sub_relative _ _ _ _ pos, abs_sub_relative _ _ _ _ pos,
    mul_le_mul_iff_left₀ pos, mul_left_inj' pos.ne']
  exact ⟨le, fun e hne => tie e fun hτ => hne (by rw [hτ])⟩

/-- With the magnitude rounded down, no number of the precision lies between. -/
theorem floor_mantissa_greatest (hq : FitsPrecision y q) (le : signFactor x.neg * q ≤ |x.value|) :
    signFactor x.neg * q ≤ ⌊x.mantissa y⌋₊ * x.unit y := by
  have pos := x.unit_pos y
  obtain ⟨τ, grid, rfl⟩ := hq.relative x
  rw [← mul_assoc, signFactor_mul_self, one_mul] at le ⊢
  rw [← x.mantissa_mul_unit y, mul_le_mul_iff_left₀ pos] at le
  exact mul_le_mul_of_nonneg_right (grid.le_floor (Exact.mantissa_bounds hn hd y).1 le) pos.le

/-- With the magnitude rounded up, no number of the precision lies between. -/
theorem ceil_mantissa_least (hq : FitsPrecision y q) (le : |x.value| ≤ signFactor x.neg * q) :
    ⌈x.mantissa y⌉₊ * x.unit y ≤ signFactor x.neg * q := by
  have pos := x.unit_pos y
  obtain ⟨τ, grid, rfl⟩ := hq.relative x
  rw [← mul_assoc, signFactor_mul_self, one_mul] at le ⊢
  rw [← x.mantissa_mul_unit y, mul_le_mul_iff_left₀ pos] at le
  exact mul_le_mul_of_nonneg_right (grid.ceil_le (Exact.mantissa_bounds hn hd y).1 le) pos.le

omit hn hd in
theorem floor_mantissa_le (x : Exact) (y : FLen) : ⌊x.mantissa y⌋₊ * x.unit y ≤ |x.value| := by
  rw [← x.mantissa_mul_unit y]
  exact mul_le_mul_of_nonneg_right (Nat.floor_le (x.mantissa_nonneg y)) (x.unit_pos y).le

omit hn hd in
theorem le_ceil_mantissa (x : Exact) (y : FLen) : |x.value| ≤ ⌈x.mantissa y⌉₊ * x.unit y := by
  rw [← x.mantissa_mul_unit y]
  exact mul_le_mul_of_nonneg_right (Nat.le_ceil _) (x.unit_pos y).le

/-- Toward zero. -/
theorem IsRounding.truncated_value (h : IsRounding 0b01 x.neg (x.mantissa y) m) :
    0 ≤ x.roundedTo y m * x.value ∧ |x.roundedTo y m| ≤ |x.value| ∧
      ∀ q, FitsPrecision y q → |q| ≤ |x.value| → |q| ≤ |x.roundedTo y m| := by
  obtain rfl : m = ⌊x.mantissa y⌋₊ := h
  rw [Exact.abs_roundedTo]
  refine ⟨?_, floor_mantissa_le x y, fun q hq le => ?_⟩
  · rw [x.value_eq_mantissa y, Exact.roundedTo, mul_mul_mul_comm, signFactor_mul_self, one_mul]
    have := x.mantissa_nonneg y
    have := (x.unit_pos y).le
    positivity
  · have := floor_mantissa_greatest hn hd (hq.abs.mul_sign x.neg)
    rw [← mul_assoc, signFactor_mul_self, one_mul] at this
    exact this le

/-- Toward positive infinity. -/
theorem IsRounding.up_value (h : IsRounding 0b10 x.neg (x.mantissa y) m) :
    x.value ≤ x.roundedTo y m ∧ ∀ q, FitsPrecision y q → x.value ≤ q → x.roundedTo y m ≤ q := by
  have h : m = if x.neg then ⌊x.mantissa y⌋₊ else ⌈x.mantissa y⌉₊ := h
  rw [x.value_eq_abs, Exact.roundedTo, h]
  cases hx : x.neg
  · have least {q} := ceil_mantissa_least (q := q) (y := y) hn hd
    simp only [hx, signFactor, Bool.false_eq_true, if_false, one_mul] at least ⊢
    exact ⟨le_ceil_mantissa x y, fun q => least⟩
  · have greatest {q} := floor_mantissa_greatest (q := q) (y := y) hn hd
    simp only [hx, signFactor, if_true, neg_one_mul] at greatest ⊢
    exact ⟨neg_le_neg (floor_mantissa_le x y), fun q hq le => neg_le.mp (greatest hq (neg_le.mp le))⟩

/-- Toward negative infinity. -/
theorem IsRounding.down_value (h : IsRounding 0b11 x.neg (x.mantissa y) m) :
    x.roundedTo y m ≤ x.value ∧ ∀ q, FitsPrecision y q → q ≤ x.value → q ≤ x.roundedTo y m := by
  have h : m = if x.neg then ⌈x.mantissa y⌉₊ else ⌊x.mantissa y⌋₊ := h
  rw [x.value_eq_abs, Exact.roundedTo, h]
  cases hx : x.neg
  · have greatest {q} := floor_mantissa_greatest (q := q) (y := y) hn hd
    simp only [hx, signFactor, Bool.false_eq_true, if_false, one_mul] at greatest ⊢
    exact ⟨floor_mantissa_le x y, fun q => greatest⟩
  · have least {q} := ceil_mantissa_least (q := q) (y := y) hn hd
    simp only [hx, signFactor, if_true, neg_one_mul] at least ⊢
    exact ⟨neg_le_neg (le_ceil_mantissa x y), fun q hq le => le_neg.mp (least hq (le_neg.mp le))⟩

end Modes

end Sys2Proof.Machine
end

section
/-! The numbers of the patterns (R201 to R207), and the delivery of an exact result in every rounding mode. -/

namespace Sys2Proof.Machine

variable {y : FLen} {x : Exact} {zeroNeg : Bool} {s t : State} {v : QWord}

/-- The number a pattern stands for (R201 to R207). -/
theorem classify_spec (y : FLen) (v : QWord) :
    (expOf y v = 2 ^ FLen.expBits y - 1 ∨ (expOf y v = 0 ∧ fracOf y v ≠ 0) → classify y v = none) ∧
    (expOf y v = 0 → fracOf y v = 0 →
      ∃ x, classify y v = some x ∧ x.num = 0 ∧ x.den ≠ 0 ∧ x.neg = signOf y v) ∧
    (expOf y v ≠ 0 → expOf y v ≠ 2 ^ FLen.expBits y - 1 → ∃ x, classify y v = some x ∧ x.num ≠ 0 ∧ x.den ≠ 0 ∧
      x.neg = signOf y v ∧
      x.value = signFactor (signOf y v) * 2 ^ ((expOf y v : Int) - FLen.bias y) *
        (1 + (fracOf y v : Rat) / 2 ^ FLen.fracBits y)) :=
  ⟨classify_of_reserved, fun h0 hf => ⟨_, classify_of_zero h0 hf, rfl, one_ne_zero, rfl⟩,
    fun h0 he => ⟨_, classify_of_normal h0 he, scaled_num_ne_zero (by positivity), scaled_den_ne_zero _ _ _,
      scaled_neg _ _ _, normal_value _ _ _ _ _⟩⟩

/-- A zero is delivered with the sign it is given, and nothing else happens. -/
theorem fpDeliver_zero_pattern (hx : x.num = 0) (y : FLen) (zeroNeg : Bool) (s : State) :
    Gives (fpDeliver y x zeroNeg) s (BitVec.ofNat 64 (if zeroNeg then 2 ^ byFLen 31 63 y else 0)) s := by
  have zero : pattern y zeroNeg 0 0 = BitVec.ofNat 64 (if zeroNeg then 2 ^ byFLen 31 63 y else 0) := by
    cases y <;> cases zeroNeg <;> rfl
  exact zero ▸ fpDeliver_zero hx y zeroNeg s

/-- Without the traps of Underflow and Inexact Result, what is not too great is delivered. -/
theorem fpDeliver_delivers (hn : x.num ≠ 0) (hd : x.den ≠ 0) (great : ¬TooGreat y (rounding s.fsr) x.value)
    (hU : s.fsr.getLsbD bitUEN = false) (hI : s.fsr.getLsbD bitIEN = false) :
    ∃ v t, Gives (fpDeliver y x zeroNeg) s v t := by
  obtain ⟨m, h⟩ := fpRound_roundsAs hd y (rounding s.fsr)
  rw [h.tooGreat_iff hn hd] at great
  cases small : tiny y (fpRound y x (rounding s.fsr))
  · have delivered := (fpDeliver_sized (zeroNeg := zeroNeg) hn great small).1
    cases inexact : (fpRound y x (rounding s.fsr)).inexact
    · exact ⟨_, _, delivered s (by rw [inexact]; exact inexactResult_exact s)⟩
    · exact ⟨_, _, delivered _ (by rw [inexact]; exact inexactResult_recorded hI)⟩
  · exact ⟨_, _, (fpDeliver_underflows hn great small).1 hU⟩

/-- What is delivered of a number other than zero. -/
theorem fpDeliver_number (hn : x.num ≠ 0) (hd : x.den ≠ 0) (h : Gives (fpDeliver y x zeroNeg) s v t) :
    (TooSmall y (rounding s.fsr) x.value → v = 0 ∧ t = s.setFsrBit bitUF) ∧
    (¬TooSmall y (rounding s.fsr) x.value → ∃ d m, classify y v = some d ∧ d.value = x.roundedTo y m ∧
      IsRounding (rounding s.fsr) x.neg (x.mantissa y) m ∧ (Even m → v.getLsbD 0 = false) ∧
      (d.value = x.value → t = s) ∧ (d.value ≠ x.value → t = s.setFsrBit bitIF)) := by
  obtain ⟨m, rounds⟩ := fpRound_roundsAs hd y (rounding s.fsr)
  obtain ⟨notGreat, ⟨small, rfl, rfl⟩ | ⟨notSmall, rfl, rfl⟩⟩ := fpDeliver_gives hn rfl h
  · exact ⟨fun _ => ⟨rfl, rfl⟩, fun k => absurd ((rounds.tooSmall_iff hn hd).mpr small) k⟩
  · refine ⟨fun k => absurd ((rounds.tooSmall_iff hn hd).mp k) (by simp [notSmall]), fun _ => ?_⟩
    obtain ⟨d, hc, hv⟩ := rounds.classify_pattern hn hd notSmall notGreat
    have inexact : (fpRound y x (rounding s.fsr)).inexact = true ↔ d.value ≠ x.value := by
      rw [rounds.inexact, hv, Ne, Ne, x.roundedTo_eq_iff]
    refine ⟨d, m, hc, hv, rounds.mantissa, fun hm => rounds.pattern_even hm x.neg, fun e => ?_, fun e => ?_⟩
    · rw [if_neg (fun k => inexact.mp k e)]
    · rw [if_pos (inexact.mpr e)]

/-- Settles O55: the number of a pattern by its fields, what is delivered by the size of the result, and how near it is
by the rounding mode. -/
theorem deliveredNumbers : Obligations.DeliveredNumbers := by
  refine ⟨fun y v => ?_, fun y x zeroNeg s hx => fpDeliver_zero_pattern hx y zeroNeg s,
    fun y x zeroNeg s hn hd => ⟨fpDeliver_delivers hn hd, fun t v h => ?_⟩⟩
  · cases y
    · exact classify_spec .f v
    · exact classify_spec .l v
  · obtain ⟨small, sized⟩ := fpDeliver_number hn hd h
    refine ⟨small, fun notSmall => ?_⟩
    obtain ⟨d, m, hc, hv, hm, even, exact, inexact⟩ := sized notSmall
    refine ⟨d, hc, exact, inexact, ?_⟩
    rw [hv]
    obtain mode | mode | mode | mode := roundingMode_cases (rounding s.fsr)
    · rw [mode] at hm ⊢
      refine fun u q hq => ?_
      obtain ⟨le, tie⟩ := hm.nearest_value hn hd hq.fitsPrecision
      exact ⟨le, fun e hne => even (tie e hne)⟩
    · rw [mode] at hm ⊢
      obtain ⟨sign, le, greatest⟩ := hm.truncated_value hn hd
      exact ⟨sign, le, fun u q hq => greatest q hq.fitsPrecision⟩
    · rw [mode] at hm ⊢
      obtain ⟨le, least⟩ := hm.up_value hn hd
      exact ⟨le, fun u q hq => least q hq.fitsPrecision⟩
    · rw [mode] at hm ⊢
      obtain ⟨le, greatest⟩ := hm.down_value hn hd
      exact ⟨le, fun u q hq => greatest q hq.fitsPrecision⟩

end Sys2Proof.Machine
end

section
/-! The floating-point instructions: what each of them performs, what its body gives or is abandoned with, and what it
leaves unchanged. -/

namespace Sys2Proof.Machine

variable {s s1 s2 s3 t u w : State} {src dest : Gen} {y : FLen} {a r v : QWord} {x : Loc} {e : Exact} {zeroNeg : Bool}

/-! ### What is performed -/

/-- An instruction with two general operands performs a body with its own length. -/
def Performs (instr : Gen → Gen → Instr) (body : Gen → Gen → Act Next) : Prop :=
  ∀ src dest s, exec (instr src dest) s = perform (instr src dest).length (body src dest) s

/-- The arithmetic instructions (R230 to R233). -/
noncomputable def arithInstr : ArithOp → FLen → Gen → Gen → Instr
  | .add => byFLen Instr.addf Instr.addl
  | .sub => byFLen Instr.subf Instr.subl
  | .mul => byFLen Instr.mulf Instr.mull
  | .div => byFLen Instr.divf Instr.divl

/-- The exact result of the values of operands B and A. -/
def exactResult : ArithOp → Exact → Exact → Exact
  | .add => Exact.add
  | .sub => Exact.sub
  | .mul => Exact.mul
  | .div => Exact.div

theorem arith_performs : ∀ (op : ArithOp) (y : FLen), Performs (arithInstr op y) (fpArith op y)
  | .add, .f => exec_addf
  | .add, .l => exec_addl
  | .sub, .f => exec_subf
  | .sub, .l => exec_subl
  | .mul, .f => exec_mulf
  | .mul, .l => exec_mull
  | .div, .f => exec_divf
  | .div, .l => exec_divl

theorem compare_performs : ∀ y : FLen, Performs (byFLen Instr.cmpf Instr.cmpl y) (fpCompare y)
  | .f => exec_cmpf
  | .l => exec_cmpl

theorem negate_performs : ∀ y : FLen, Performs (byFLen Instr.negf Instr.negl y) (fpSign not y)
  | .f => exec_negf
  | .l => exec_negl

theorem absolute_performs : ∀ y : FLen, Performs (byFLen Instr.absf Instr.absl y) (fpSign (fun _ => false) y)
  | .f => exec_absf
  | .l => exec_absl

/-- MOVif (R240). -/
noncomputable def fromIntInstr (l : Len) (y : FLen) (src dest : Gen) : Instr :=
  byFLen (byLen Instr.movbf Instr.movwf Instr.movdf l src dest) (byLen Instr.movbl Instr.movwl Instr.movdl l src dest) y

theorem fromInt_performs : ∀ (l : Len) (y : FLen), Performs (fromIntInstr l y) (fpFromInt l y)
  | .b, .f => exec_movbf
  | .b, .l => exec_movbl
  | .w, .f => exec_movwf
  | .w, .l => exec_movwl
  | .d, .f => exec_movdf
  | .d, .l => exec_movdl

/-- ROUNDfi (R241). -/
noncomputable def roundInstr : FLen → Len → Gen → Gen → Instr :=
  byFLen (byLen Instr.roundfb Instr.roundfw Instr.roundfd) (byLen Instr.roundlb Instr.roundlw Instr.roundld)

/-- TRUNCfi (R242). -/
noncomputable def truncInstr : FLen → Len → Gen → Gen → Instr :=
  byFLen (byLen Instr.truncfb Instr.truncfw Instr.truncfd) (byLen Instr.trunclb Instr.trunclw Instr.truncld)

/-- FLOORfi (R243). -/
noncomputable def floorInstr : FLen → Len → Gen → Gen → Instr :=
  byFLen (byLen Instr.floorfb Instr.floorfw Instr.floorfd) (byLen Instr.floorlb Instr.floorlw Instr.floorld)

theorem round_performs : ∀ (y : FLen) (l : Len), Performs (roundInstr y l) (fpToInt roundInt y l)
  | .f, .b => exec_roundfb
  | .f, .w => exec_roundfw
  | .f, .d => exec_roundfd
  | .l, .b => exec_roundlb
  | .l, .w => exec_roundlw
  | .l, .d => exec_roundld

theorem trunc_performs : ∀ (y : FLen) (l : Len), Performs (truncInstr y l) (fpToInt truncInt y l)
  | .f, .b => exec_truncfb
  | .f, .w => exec_truncfw
  | .f, .d => exec_truncfd
  | .l, .b => exec_trunclb
  | .l, .w => exec_trunclw
  | .l, .d => exec_truncld

theorem floor_performs : ∀ (y : FLen) (l : Len), Performs (floorInstr y l) (fpToInt floorInt y l)
  | .f, .b => exec_floorfb
  | .f, .w => exec_floorfw
  | .f, .d => exec_floorfd
  | .l, .b => exec_floorlb
  | .l, .w => exec_floorlw
  | .l, .d => exec_floorld

/-- An instruction whose body raises a trap other than Abort is trapped. -/
theorem Performs.trapped {instr : Gen → Gen → Instr} {body : Gen → Gen → Act Next} {z : Trap}
    (h : Performs instr body) (hz : z ≠ .abt) (hb : Abandons (body src dest) s (.trap z) u) (hc : s.canTrap u z) :
    exec (instr src dest) s = .next (s.trapped u z) := exec_trapped_in hz (h src dest s) hb hc

/-! ### The value of an operand (R216) -/

theorem fpValue_gives (h : classify y v = some e) (s : State) : Gives (fpValue y v) s e s := by
  rw [fpValue, h]
  exact gives_return e s

theorem fpValue_traps (h : classify y v = none) (s : State) :
    Abandons (fpValue y v) s (.trap .fpu) { s with fsr := putTT s.fsr 0b101 } := by
  rw [fpValue, h]
  exact fpuTrap_abandons _ s

/-! ### The frame -/

theorem Loc.regs_float (x : Loc) : x.regs .float = [] := by cases x <;> rfl

theorem setFsrBit_keeps (s : State) (k : Nat) : Keeps { special := [.fsr] } s (s.setFsrBit k) := setFsr_keeps s _

theorem inexactResult_keeps {c : Bool} (h : Gives (inexactResult c) s () t) :
    Keeps { special := [.fsr] } s t ∧ t.pc = s.pc := by
  rw [inexactResult_gives h]
  split
  · exact ⟨setFsrBit_keeps s _, rfl⟩
  · exact ⟨Keeps.refl _ s, rfl⟩

theorem fpDeliver_keeps (h : Gives (fpDeliver y e zeroNeg) s v t) : Keeps { special := [.fsr] } s t ∧ t.pc = s.pc := by
  by_cases hn : e.num = 0
  · rw [(h.unique (fpDeliver_zero hn y zeroNeg s)).2]
    exact ⟨Keeps.refl _ s, rfl⟩
  · obtain ⟨-, ⟨-, -, rfl⟩ | ⟨-, -, rfl⟩⟩ := fpDeliver_gives hn rfl h
    · exact ⟨setFsrBit_keeps s _, rfl⟩
    · split
      · exact ⟨setFsrBit_keeps s _, rfl⟩
      · exact ⟨Keeps.refl _ s, rfl⟩

/-- Operand A read, operand B located, the FSR changed, then B written; `pushed` says that the location may be a slot to
push. -/
theorem read_fsr_write_keeps {k z : Kind} {n g : Nat} {pushed : List Special} {q : PUnit}
    (h1 : Gives (readOp k n src) s a s1) (h2 : Reads s1 s2)
    (h3 : Keeps { special := [.fsr] } s2 s3 ∧ s3.pc = s2.pc)
    (h4 : Gives (writeLoc z g x r) s3 q w)
    (hx : x = .push → .sp ∈ pushed) :
    Keeps { regs := x.regs z, fregs := if z = .float then x.fregs g else [], cells := x.cells g s3,
            special := .fsr :: movesSp src ++ pushed } s w ∧ w.pc = s.pc := by
  have r1 := readOp_keeps h1
  have r4 := writeLoc_keeps h4
  refine ⟨(((r1.1.trans (h2.keeps {}) (by simp)).trans h3.1 (by simp)).trans r4.1 (by simp)).mono ?_ ?_ ?_ ?_ ?_,
    by rw [r4.2, h3.2, h2.pc, r1.2]⟩
  case refine_5 =>
    have slot : ∀ k ∈ (if x = .push then [Special.sp] else []), k ∈ pushed := by
      split
      · rename_i hp
        simpa using hx hp
      · simp
    intro k hk
    have := slot k
    simp only [List.mem_append, List.mem_cons, List.not_mem_nil, or_false] at hk ⊢
    tauto
  all_goals simp

theorem pushed_moves {k : Kind} {n : Nat} (h : Gives (locateWrite k n dest) s x t) (hx : x = .push) :
    .sp ∈ movesSp dest := by
  rw [(locateWrite_reads h).2 hx]
  exact .head _

end Sys2Proof.Machine
end

section
/-! ADDf, SUBf, MULf and DIVf (R230 to R233): what gives their result, and what abandons them. -/

namespace Sys2Proof.Machine

variable {s s1 s2 s3 u w : State} {src dest : Gen} {y : FLen} {a b r : QWord} {x : Loc} {va vb : Exact} {op : ArithOp}
  {stop : Stop}

theorem fpArith_gives (hs : s.fpuReady) (ha : Gives (readFloat y src) s a s1)
    (hb : ReadsRmw .float y.bytes dest s1 x b s2) (hva : classify y a = some va) (hvb : classify y b = some vb)
    (hz : op = .div → va.num ≠ 0)
    (hd : Gives (fpDeliver y (exactResult op vb va) (Config.fpZeroSign op y a b (rounding s2.fsr))) s2 r s3)
    (hw : Gives (writeFloat y x r) s3 () w) : Gives (fpArith op y src dest) s .seq w := by
  obtain ⟨u, located, read⟩ := hb
  refine gives_after (needsFpu_passed hs) <| gives_after ha <| gives_after located <| gives_after read <|
    gives_after (fpValue_gives hva s2) <| gives_after (fpValue_gives hvb s2) ?_
  rw [if_neg fun h => hz h.1 h.2]
  refine gives_after (gives_state s2) <| gives_after ?_ <| gives_after hw (gives_return _ _)
  cases op <;> exact hd

/-- Both operands are read before either is classified (R219). -/
theorem fpArith_reserved (hs : s.fpuReady) (ha : Gives (readFloat y src) s a s1)
    (hb : ReadsRmw .float y.bytes dest s1 x b s2) (h : classify y a = none ∨ classify y b = none) :
    Abandons (fpArith op y src dest) s (.trap .fpu) { s2 with fsr := putTT s2.fsr 0b101 } := by
  obtain ⟨_, located, read⟩ := hb
  refine abandons_after (needsFpu_passed hs) <| abandons_after ha <| abandons_after located <| abandons_after read ?_
  cases hva : classify y a with
  | none => exact abandons_at (fpValue_traps hva s2)
  | some va =>
    have hvb := h.resolve_left (by simp [hva])
    exact abandons_after (fpValue_gives hva s2) (abandons_at (fpValue_traps hvb s2))

/-- A divisor of zero: an Invalid Operation if the dividend is zero too (R214, R216). -/
theorem fpArith_divisor_zero (hs : s.fpuReady) (ha : Gives (readFloat y src) s a s1)
    (hb : ReadsRmw .float y.bytes dest s1 x b s2) (hva : classify y a = some va) (hvb : classify y b = some vb)
    (hz : va.num = 0) : Abandons (fpArith .div y src dest) s (.trap .fpu)
      { s2 with fsr := putTT s2.fsr (if vb.num = 0 then 0b101 else 0b011) } := by
  obtain ⟨_, located, read⟩ := hb
  refine abandons_after (needsFpu_passed hs) <| abandons_after ha <| abandons_after located <| abandons_after read <|
    abandons_after (fpValue_gives hva s2) <| abandons_after (fpValue_gives hvb s2) ?_
  rw [if_pos ⟨rfl, hz⟩]
  split
  · exact abandons_at (fpuTrap_abandons _ s2)
  · exact abandons_at (fpuTrap_abandons _ s2)

theorem fpArith_abandons (hs : s.fpuReady) (ha : Gives (readFloat y src) s a s1)
    (hb : ReadsRmw .float y.bytes dest s1 x b s2) (hva : classify y a = some va) (hvb : classify y b = some vb)
    (hz : op = .div → va.num ≠ 0)
    (hd : Abandons (fpDeliver y (exactResult op vb va) (Config.fpZeroSign op y a b (rounding s2.fsr))) s2 stop u) :
    Abandons (fpArith op y src dest) s stop u := by
  obtain ⟨_, located, read⟩ := hb
  refine abandons_after (needsFpu_passed hs) <| abandons_after ha <| abandons_after located <| abandons_after read <|
    abandons_after (fpValue_gives hva s2) <| abandons_after (fpValue_gives hvb s2) ?_
  rw [if_neg fun h => hz h.1 h.2]
  refine abandons_after (gives_state s2) <| abandons_at ?_
  cases op <;> exact hd

/-- Reading the operands does not change the FSR. -/
theorem fsr_of_operands (ha : Gives (readFloat y src) s a s1) (hb : ReadsRmw .float y.bytes dest s1 x b s2) :
    s2.fsr = s.fsr := by
  have moved : Special.fsr ∉ movesSp src := by
    unfold movesSp
    split <;> simp
  rw [((readsRmw_reads hb).1.keeps {}).fsr (by simp), (readOp_keeps ha).1.fsr moved]

theorem arith_computes (op : ArithOp) : Computes op (arithInstr op) (exactResult op) := by
  intro y src dest s s1 s2 s3 w a b r va vb x hs ha hb hva hvb hz hd hw hf
  have reads := readsRmw_reads hb
  obtain ⟨keeps, pc⟩ := read_fsr_write_keeps (pushed := []) ha reads.1 (fpDeliver_keeps hd) hw fun h => absurd h reads.2
  rw [Loc.regs_float, if_pos rfl, List.append_nil] at keeps
  rw [← fsr_of_operands ha hb] at hd
  exact completes_of (arith_performs op y src dest s) (fpArith_gives hs ha hb hva hvb hz hd hw) pc hf keeps

/-- Settles O54: exact arithmetic is that of the rationals, and each instruction delivers it. -/
theorem floatingArithmetic : Obligations.FloatingArithmetic :=
  ⟨fun x y hx hy => ⟨Exact.value_add hx hy, Exact.value_sub hx hy, Exact.value_mul x y, fun _ => Exact.value_div x y⟩,
    arith_computes .add, arith_computes .sub, arith_computes .mul, arith_computes .div⟩

end Sys2Proof.Machine
end

section
/-! NEGf, ABSf, MOVf, MOVFL and CMPf (R234 to R237, R239). -/

namespace Sys2Proof.Machine

variable {s s1 s2 w : State} {src dest src1 src2 : Gen} {y : FLen} {a b v : QWord} {x : Loc} {va vb e : Exact}

/-! ### The bodies -/

theorem fpMove_gives (hs : s.fpuReady) (ha : Gives (readFloat y src) s a s1)
    (hx : Gives (locateWrite .float y.bytes dest) s1 x s2) (hw : Gives (writeFloat y x a) s2 () w) :
    Gives (fpMove y src dest) s .seq w :=
  gives_after (needsFpu_passed hs) <| gives_after ha <| gives_after hx <| gives_after hw (gives_return _ _)

theorem fpSign_gives {sign : Bool → Bool} (hs : s.fpuReady) (ha : Gives (readFloat y src) s a s1)
    (hx : Gives (locateWrite .float y.bytes dest) s1 x s2) (hv : classify y a = some e)
    (hw : Gives (writeFloat y x (pattern y (sign (signOf y a)) (expOf y a) (fracOf y a))) s2 () w) :
    Gives (fpSign sign y src dest) s .seq w :=
  gives_after (needsFpu_passed hs) <| gives_after ha <| gives_after hx <| gives_after (fpValue_gives hv s2) <|
    gives_after hw (gives_return _ _)

theorem movflBody_gives (hs : s.fpuReady) (ha : Gives (readFloat .f src) s a s1)
    (hx : Gives (locateWrite .float 8 dest) s1 x s2) (hv : classify .f a = some e)
    (hw : Gives (writeFloat .l x (widen a)) s2 () w) : Gives (movflBody src dest) s .seq w :=
  gives_after (needsFpu_passed hs) <| gives_after ha <| gives_after hx <| gives_after (fpValue_gives hv s2) <|
    gives_after hw (gives_return _ _)

/-- An instruction that writes a function of the pattern it reads. -/
theorem convertsFloat_of {y z : FLen} {may : QWord → Prop} {instr : Gen → Gen → Instr} {body : Gen → Gen → Act Next}
    {f : QWord → QWord} (hp : Performs instr body)
    (hb : ∀ {src dest s s1 s2 w a x}, s.fpuReady → Gives (readFloat y src) s a s1 →
      Gives (locateWrite .float z.bytes dest) s1 x s2 → may a → Gives (writeFloat z x (f a)) s2 () w →
      Gives (body src dest) s .seq w) : ConvertsFloat y z may instr f := by
  intro src dest s s1 s2 w a x hs ha hx hm hw hf
  obtain ⟨keeps, pc⟩ := write_keeps ha hx hw
  rw [Loc.regs_float, if_pos rfl] at keeps
  exact completes_of (hp src dest s) (hb hs ha hx hm hw) pc hf keeps

theorem sign_convertsFloat {instr : Gen → Gen → Instr} {sign : Bool → Bool} {f : QWord → QWord}
    (hp : Performs instr (fpSign sign y))
    (hf : ∀ a, pattern y (sign (signOf y a)) (expOf y a) (fracOf y a) = f a) :
    ConvertsFloat y y (fun a => classify y a ≠ none) instr f :=
  convertsFloat_of hp fun hs ha hx hm hw => by
    obtain ⟨e, he⟩ := Option.ne_none_iff_exists'.mp hm
    exact fpSign_gives hs ha hx he (by rwa [hf])

/-! ### The patterns they write -/

/-- A pattern whose S field alone was replaced, by its bits. -/
theorem pattern_fields_eq {neg : Bool} {w : QWord}
    (low : ∀ j < FLen.expBits y + FLen.fracBits y, w.getLsbD j = v.getLsbD j)
    (sign : w.getLsbD (FLen.expBits y + FLen.fracBits y) = neg)
    (high : ∀ j, FLen.expBits y + FLen.fracBits y < j → w.getLsbD j = false) :
    pattern y neg (expOf y v) (fracOf y v) = w := by
  have fields : expOf y v * 2 ^ FLen.fracBits y + fracOf y v = v.toNat % 2 ^ (FLen.expBits y + FLen.fracBits y) := by
    rw [expOf, fracOf, Nat.add_comm (FLen.expBits y), Nat.pow_add, Nat.mod_mul]
    ring
  apply BitVec.eq_of_getLsbD_eq
  intro j hj
  rw [pattern, add_assoc, fields, mul_comm neg.toNat, BitVec.getLsbD_ofNat,
    Nat.testBit_two_pow_mul_add _ (Nat.mod_lt _ (by positivity)), decide_eq_true hj, Bool.true_and]
  obtain h | rfl | h := lt_trichotomy j (FLen.expBits y + FLen.fracBits y)
  · rw [if_pos h, Nat.testBit_mod_two_pow, decide_eq_true h, Bool.true_and, low j h]
    rfl
  · rw [if_neg (lt_irrefl _), Nat.sub_self, sign]
    cases neg <;> rfl
  · rw [if_neg h.not_gt, high j h]
    exact Nat.testBit_lt_two_pow ((Bool.toNat_lt neg).trans_le (Nat.pow_le_pow_right two_pos (by omega : 1 ≤ _)))

theorem negf_pattern (a : QWord) : pattern .f (!signOf .f a) (expOf .f a) (fracOf .f a) =
    (a.setWidth 32 ^^^ 0x80000000#32).setWidth 64 := by
  rw [show 0x80000000#32 = BitVec.twoPow 32 31 from rfl]
  refine pattern_fields_eq (fun j hj => ?_) ?_ fun j hj => ?_
  · have hj : j < 31 := hj
    simp [show j < 64 by omega, show j < 32 by omega, hj.ne]
  · simp [signOf, FLen.expBits, FLen.fracBits]
  · have hj : 31 < j := hj
    simp [show ¬j < 32 by omega, hj.ne]

theorem negl_pattern (a : QWord) : pattern .l (!signOf .l a) (expOf .l a) (fracOf .l a) =
    a ^^^ 0x8000000000000000#64 := by
  rw [show 0x8000000000000000#64 = BitVec.twoPow 64 63 from rfl]
  refine pattern_fields_eq (fun j hj => ?_) ?_ fun j hj => ?_
  · have hj : j < 63 := hj
    simp [hj.ne']
  · simp [signOf, FLen.expBits, FLen.fracBits]
  · exact BitVec.getLsbD_of_ge _ j hj

theorem absf_pattern (a : QWord) : pattern .f false (expOf .f a) (fracOf .f a) =
    (a.setWidth 32 &&& 0x7FFFFFFF#32).setWidth 64 := by
  rw [show 0x7FFFFFFF#32 = ~~~BitVec.twoPow 32 31 from rfl]
  refine pattern_fields_eq (fun j hj => ?_) ?_ fun j hj => ?_
  · have hj : j < 31 := hj
    simp [show j < 64 by omega, show j < 32 by omega, hj.ne]
  · simp [FLen.expBits, FLen.fracBits]
  · have hj : 31 < j := hj
    simp [show ¬j < 32 by omega]

theorem absl_pattern (a : QWord) : pattern .l false (expOf .l a) (fracOf .l a) = a &&& 0x7FFFFFFFFFFFFFFF#64 := by
  rw [show 0x7FFFFFFFFFFFFFFF#64 = ~~~BitVec.twoPow 64 63 from rfl]
  refine pattern_fields_eq (fun j hj => ?_) ?_ fun j hj => ?_
  · have hj : j < 63 := hj
    simp [show j < 64 by omega, hj.ne]
  · simp [FLen.expBits, FLen.fracBits]
  · exact BitVec.getLsbD_of_ge _ j hj

/-- MOVFL's pattern stands for the same number with the same sign (R239). -/
theorem widen_classify (h : classify .f a = some e) :
    ∃ d, classify .l (widen a) = some d ∧ d.value = e.value ∧ d.neg = e.neg := by
  obtain ⟨h0, -, rfl⟩ | ⟨h0, he, rfl⟩ := classify_cases h
  · refine ⟨_, by rw [widen, if_pos h0]; exact classify_zero_pattern .l _, ?_, rfl⟩
    simp [Exact.value, Exact.signed]
  · have exp : expOf .f a < 2 ^ 8 := Nat.mod_lt _ (by positivity)
    have frac : fracOf .f a < 2 ^ 23 := Nat.mod_lt _ (by positivity)
    have he : expOf .f a ≠ 2 ^ 8 - 1 := he
    refine ⟨_, by
      rw [widen, if_neg h0]
      exact classify_normal_pattern (y := .l) (by omega) (by show _ < 2 ^ 11 - 1; omega) (by show _ < 2 ^ 52; omega),
      ?_, by rw [scaled_neg, scaled_neg]⟩
    rw [normal_value, normal_value]
    simp only [FLen.bias, FLen.fracBits]
    push_cast
    rw [show ((expOf .f a : Int) + 896 - 1023) = expOf .f a - 127 by omega]
    ring

/-! ### The comparison -/

/-- Fractions compared by cross-multiplication. -/
theorem Exact.value_eq_iff (hx : va.den ≠ 0) (hy : vb.den ≠ 0) :
    va.value = vb.value ↔ va.signed * vb.den = vb.signed * va.den := by
  rw [Exact.value, Exact.value, div_eq_div_iff (Nat.cast_ne_zero.mpr hx) (Nat.cast_ne_zero.mpr hy)]
  exact_mod_cast Iff.rfl

theorem Exact.value_lt_iff (hx : va.den ≠ 0) (hy : vb.den ≠ 0) :
    va.value < vb.value ↔ va.signed * vb.den < vb.signed * va.den := by
  rw [Exact.value, Exact.value, div_lt_div_iff₀ (Nat.cast_pos.mpr (Nat.pos_of_ne_zero hx))
    (Nat.cast_pos.mpr (Nat.pos_of_ne_zero hy))]
  exact_mod_cast Iff.rfl

theorem fpCompare_gives (hs : s.fpuReady) (ha : Gives (readFloat y src1) s a s1) (hb : Gives (readFloat y src2) s1 b s2)
    (hva : classify y a = some va) (hvb : classify y b = some vb) :
    Gives (fpCompare y src1 src2) s .seq
      (s2.setZNL (decide (va.value = vb.value)) (decide (vb.value < va.value)) false) := by
  have da := classify_den_ne_zero hva
  have db := classify_den_ne_zero hvb
  refine gives_after (needsFpu_passed hs) <| gives_after ha <| gives_after hb <| gives_after (fpValue_gives hva s2) <|
    gives_after (fpValue_gives hvb s2) <| gives_after (gives_change _ _) ?_
  rw [decide_eq_decide.mpr (Exact.value_eq_iff da db), decide_eq_decide.mpr (Exact.value_lt_iff db da)]
  exact gives_return _ _

theorem compare_completes (hs : s.fpuReady) (ha : Gives (readFloat y src1) s a s1)
    (hb : Gives (readFloat y src2) s1 b s2) (hva : classify y a = some va) (hvb : classify y b = some vb)
    (hf : s.fits (byFLen Instr.cmpf Instr.cmpl y src1 src2)) :
    Completes (byFLen Instr.cmpf Instr.cmpl y src1 src2) s
      (s2.setZNL (decide (va.value = vb.value)) (decide (vb.value < va.value)) false)
      { flags := [bitZ, bitN, bitL], special := movesSp src1 ++ movesSp src2 } := by
  obtain ⟨keeps1, pc1⟩ := readOp_keeps ha
  obtain ⟨keeps2, pc2⟩ := readOp_keeps hb
  refine completes_of (compare_performs y src1 src2 s) (fpCompare_gives hs ha hb hva hvb) (pc2.trans pc1) hf ?_
  exact ((keeps1.trans keeps2 (by simp)).trans (setZNL_keeps s2 _ _ _) (by simp)).mono (by simp) (by simp) (by simp)
    (by simp) (by simp)

/-- Settles O56: the comparison by cross-multiplication, the rest by the pattern that each instruction writes. -/
theorem floatingMovesAndComparison : Obligations.FloatingMovesAndComparison :=
  ⟨fun _ _ _ _ _ _ _ _ _ _ => compare_completes,
    sign_convertsFloat (negate_performs .f) negf_pattern, sign_convertsFloat (negate_performs .l) negl_pattern,
    sign_convertsFloat (absolute_performs .f) absf_pattern, sign_convertsFloat (absolute_performs .l) absl_pattern,
    convertsFloat_of exec_movf fun hs ha hx _ hw => fpMove_gives hs ha hx hw,
    convertsFloat_of exec_movl fun hs ha hx _ hw => fpMove_gives hs ha hx hw,
    convertsFloat_of exec_movfl fun hs ha hx hm hw =>
      have ⟨_, he⟩ := Option.ne_none_iff_exists'.mp hm
      movflBody_gives hs ha hx he hw,
    fun _ _ => widen_classify⟩

end Sys2Proof.Machine
end

section
/-! Conversions between floating-point numbers and integers (R238, R240 to R243). -/

namespace Sys2Proof.Machine

variable {s s1 s2 s3 t u w : State} {src dest : Gen} {y : FLen} {l : Len} {a b r : QWord} {x : Loc} {v e : Exact}
  {stop : Stop} {f : Exact → Int}

/-! ### To floating point -/

theorem fpFromInt_gives (hs : s.fpuReady) (ha : Gives (readInt l src) s a s1)
    (hx : Gives (locateWrite .float y.bytes dest) s1 x s2)
    (hd : Gives (fpDeliver y (Exact.ofSigned (sval l.bytes a) 1) false) s2 r s3)
    (hw : Gives (writeFloat y x r) s3 () w) : Gives (fpFromInt l y src dest) s .seq w :=
  gives_after (needsFpu_passed hs) <| gives_after ha <| gives_after hx <| gives_after hd <|
    gives_after hw (gives_return _ _)

theorem fpFromInt_abandons (hs : s.fpuReady) (ha : Gives (readInt l src) s a s1)
    (hx : Gives (locateWrite .float y.bytes dest) s1 x s2)
    (hd : Abandons (fpDeliver y (Exact.ofSigned (sval l.bytes a) 1) false) s2 stop u) :
    Abandons (fpFromInt l y src dest) s stop u :=
  abandons_after (needsFpu_passed hs) <| abandons_after ha <| abandons_after hx (abandons_at hd)

theorem movlfBody_gives (hs : s.fpuReady) (ha : Gives (readFloat .l src) s a s1)
    (hx : Gives (locateWrite .float 4 dest) s1 x s2) (hv : classify .l a = some e)
    (hd : Gives (fpDeliver .f e e.neg) s2 r s3) (hw : Gives (writeFloat .f x r) s3 () w) :
    Gives (movlfBody src dest) s .seq w :=
  gives_after (needsFpu_passed hs) <| gives_after ha <| gives_after hx <| gives_after (fpValue_gives hv s2) <|
    gives_after hd <| gives_after hw (gives_return _ _)

theorem movlfBody_abandons (hs : s.fpuReady) (ha : Gives (readFloat .l src) s a s1)
    (hx : Gives (locateWrite .float 4 dest) s1 x s2) (hv : classify .l a = some e)
    (hd : Abandons (fpDeliver .f e e.neg) s2 stop u) : Abandons (movlfBody src dest) s stop u :=
  abandons_after (needsFpu_passed hs) <| abandons_after ha <| abandons_after hx <|
    abandons_after (fpValue_gives hv s2) (abandons_at hd)

/-- The frame of an instruction that delivers to a floating-point operand of class write. -/
theorem deliver_write_keeps {k : Kind} {n g : Nat} {zeroNeg : Bool} {q : PUnit} (ha : Gives (readOp k n src) s a s1)
    (hx : Gives (locateWrite .float g dest) s1 x s2) (hd : Gives (fpDeliver y e zeroNeg) s2 r s3)
    (hw : Gives (writeLoc .float g x r) s3 q w) :
    Keeps { fregs := x.fregs g, cells := x.cells g s3, special := .fsr :: movesSp src ++ movesSp dest } s w ∧
      w.pc = s.pc := by
  have kept := read_fsr_write_keeps ha (locateWrite_reads hx).1 (fpDeliver_keeps hd) hw (pushed_moves hx)
  rwa [Loc.regs_float, if_pos rfl] at kept

/-- Settles O57: an integer is the exact value of its own sign and magnitude; both instructions deliver and write. -/
theorem conversionsToFloating : Obligations.ConversionsToFloating := by
  refine ⟨?_, ?_⟩
  · rintro l y src dest s s1 s2 s3 w a r x _ i hs ha hx rfl hd hw hf
    obtain ⟨keeps, pc⟩ := deliver_write_keeps ha hx hd hw
    exact completes_of (fromInt_performs l y src dest s) (fpFromInt_gives hs ha hx hd hw) pc hf keeps
  · intro src dest s s1 s2 s3 w a r x e hs ha hx hv hd hw hf
    obtain ⟨keeps, pc⟩ := deliver_write_keeps ha hx hd hw
    exact completes_of (exec_movlf src dest s) (movlfBody_gives hs ha hx hv hd hw) pc hf keeps

/-! ### To integers: the integer -/

/-- A magnitude rounded to the nearest integer; an exact half goes to the even one or away from zero (R241, D13). -/
theorem roundNearest_spec (hd : v.den ≠ 0) :
    |(v.num : Rat) / v.den - roundNearest v| < 1 / 2 ∨ (|(v.num : Rat) / v.den - roundNearest v| = 1 / 2 ∧
      (Even (roundNearest v) ∨ (v.num : Rat) / v.den < roundNearest v)) := by
  obtain ⟨below, above, half⟩ := fraction_distance (num := v.num) hd
  unfold roundNearest
  dsimp only
  split
  · rename_i h
    exact .inl (below h)
  · split
    · rename_i h
      exact .inl (above h)
    · obtain ⟨low, high⟩ := half (by omega)
      split
      · rename_i h
        simp only [Bool.and_eq_true, decide_eq_true_eq] at h
        exact .inr ⟨low, .inl (Nat.even_iff.mpr h.1)⟩
      · have up := Nat.lt_floor_add_one ((v.num : Rat) / v.den)
        rw [Nat.floor_div_eq_div, ← Nat.cast_succ] at up
        exact .inr ⟨high, .inr up⟩

/-- An integer with the sign of a number. -/
theorem cast_signed (neg : Bool) (n : Nat) : ((if neg then -(n : Int) else n : Int) : Rat) = signFactor neg * n := by
  cases neg <;> simp [signFactor]

theorem roundInt_near (hd : v.den ≠ 0) : |v.value - roundInt v| < 1 / 2 ∨
    (|v.value - roundInt v| = 1 / 2 ∧ (Even (roundInt v) ∨ |v.value| < |(roundInt v : Rat)|)) := by
  have distance : |v.value - roundInt v| = |(v.num : Rat) / v.den - roundNearest v| := by
    rw [v.value_eq, roundInt, cast_signed, ← mul_sub, abs_mul, abs_signFactor, one_mul]
  have magnitude : |(roundInt v : Rat)| = roundNearest v := by
    rw [roundInt, cast_signed, abs_mul, abs_signFactor, one_mul, Nat.abs_cast]
  have even : Even (roundInt v) ↔ Even (roundNearest v) := by
    rw [roundInt]
    split <;> simp
  rw [distance, magnitude, even, v.abs_value]
  exact roundNearest_spec hd

theorem truncInt_eq (hd : v.den ≠ 0) : truncInt v = if v.value < 0 then ⌈v.value⌉ else ⌊v.value⌋ := by
  have nonneg : (0 : Rat) ≤ v.num / v.den := by positivity
  have floor : ⌊(v.num : Rat) / v.den⌋ = (v.num / v.den : Nat) := by
    rw [← Nat.floor_div_eq_div (K := Rat), Int.natCast_floor_eq_floor nonneg]
  rw [truncInt, v.value_eq, signFactor]
  cases v.neg
  · simp only [Bool.false_eq_true, if_false, one_mul]
    rw [if_neg (not_lt.mpr nonneg), floor]
  · simp only [if_true, neg_one_mul]
    rw [Int.ceil_neg, floor]
    split
    · rfl
    · rename_i h
      have zero : (v.num : Rat) / v.den = 0 := le_antisymm (by linarith) nonneg
      rw [zero] at floor ⊢
      rw [← floor]
      simp

theorem floorInt_eq (v : Exact) : floorInt v = ⌊v.value⌋ := by
  rw [floorInt, Int.fdiv_eq_ediv_of_nonneg _ (Int.natCast_nonneg _), Exact.value, Rat.floor_intCast_div_natCast]

/-! ### To integers: the instruction -/

theorem inRange_iff (l : Len) (n : Int) :
    inRange l n = true ↔ ¬(n < -(2 ^ (l.bits - 1)) ∨ 2 ^ (l.bits - 1) ≤ n) := by
  rw [inRange, Bool.and_eq_true, decide_eq_true_eq, decide_eq_true_eq, not_or, not_lt, not_le]

/-- Whether the integer is the number itself. -/
theorem inexact_eq (hd : v.den ≠ 0) (n : Int) : (n * v.den != v.signed) = decide ((n : Rat) ≠ v.value) := by
  have iff : (n : Rat) = v.value ↔ n * v.den = v.signed := by
    rw [Exact.value, eq_div_iff (Nat.cast_ne_zero.mpr hd)]
    exact_mod_cast Iff.rfl
  rw [decide_not, decide_eq_decide.mpr iff]
  rfl

/-- What ROUNDfi, TRUNCfi and FLOORfi do once the operand's value is known. -/
theorem fpToInt_gives (hs : s.fpuReady) (ha : Gives (readFloat y src) s a s1)
    (hx : Gives (locateWrite .int l.bytes dest) s1 x s2) (hv : classify y a = some v) (hr : inRange l (f v) = true)
    (hi : Gives (inexactResult (decide ((f v : Rat) ≠ v.value))) s2 () s3)
    (hw : Gives (writeInt l x (BitVec.ofInt 64 (f v % 2 ^ l.bits))) s3 () w) :
    Gives (fpToInt f y l src dest) s .seq w := by
  refine gives_after (needsFpu_passed hs) <| gives_after ha <| gives_after hx <| gives_after (fpValue_gives hv s2) ?_
  dsimp only
  rw [if_neg ((inRange_iff l (f v)).mp hr), inexact_eq (classify_den_ne_zero hv), narrow_eq, pow_bits]
  exact gives_after hi <| gives_after hw (gives_return _ _)

theorem fpToInt_overflows (hs : s.fpuReady) (ha : Gives (readFloat y src) s a s1)
    (hx : Gives (locateWrite .int l.bytes dest) s1 x s2) (hv : classify y a = some v) (hr : inRange l (f v) = false) :
    Abandons (fpToInt f y l src dest) s (.trap .fpu) { s2 with fsr := putTT s2.fsr 0b010 } := by
  refine abandons_after (needsFpu_passed hs) <| abandons_after ha <| abandons_after hx <|
    abandons_after (fpValue_gives hv s2) ?_
  dsimp only
  rw [if_pos (by rw [← not_not (a := _ ∨ _), ← inRange_iff, hr]; exact Bool.false_ne_true)]
  exact abandons_at (fpuTrap_abandons _ s2)

theorem fpToInt_inexact (hs : s.fpuReady) (ha : Gives (readFloat y src) s a s1)
    (hx : Gives (locateWrite .int l.bytes dest) s1 x s2) (hv : classify y a = some v) (hr : inRange l (f v) = true)
    (hne : (f v : Rat) ≠ v.value) (hI : s2.fsr.getLsbD bitIEN = true) :
    Abandons (fpToInt f y l src dest) s (.trap .fpu)
      { s2.setFsrBit bitIF with fsr := putTT (s2.setFsrBit bitIF).fsr 0b110 } := by
  refine abandons_after (needsFpu_passed hs) <| abandons_after ha <| abandons_after hx <|
    abandons_after (fpValue_gives hv s2) ?_
  dsimp only
  rw [if_neg ((inRange_iff l (f v)).mp hr), inexact_eq (classify_den_ne_zero hv), decide_eq_true hne]
  exact abandons_at (inexactResult_traps hI)

theorem toInteger_of {instr : FLen → Len → Gen → Gen → Instr} {near : Rat → Int → Prop}
    (hp : ∀ y l, Performs (instr y l) (fpToInt f y l)) (hn : ∀ v : Exact, v.den ≠ 0 → near v.value (f v)) :
    ToInteger instr near := by
  intro y l src dest s s1 s2 a v x hs ha hx hv
  refine ⟨f v, hn v (classify_den_ne_zero hv), fun hr s3 w hi hw hf => ?_, fun hr => ?_, fun hr hne hI => ?_⟩
  · obtain ⟨keeps, pc⟩ := read_fsr_write_keeps ha (locateWrite_reads hx).1 (inexactResult_keeps hi) hw (pushed_moves hx)
    exact completes_of (hp y l src dest s) (fpToInt_gives hs ha hx hv hr hi hw) pc hf keeps
  · exact (hp y l).trapped (by decide) (fpToInt_overflows hs ha hx hv hr)
  · exact (hp y l).trapped (by decide) (fpToInt_inexact hs ha hx hv hr hne hI)

/-- Settles O58: the three instructions differ in the integer they take. -/
theorem conversionsToInteger : Obligations.ConversionsToInteger :=
  ⟨toInteger_of round_performs fun _ => roundInt_near, toInteger_of trunc_performs fun _ => truncInt_eq,
    toInteger_of floor_performs fun v _ => floorInt_eq v⟩

end Sys2Proof.Machine
end

section
/-! When Trap(FPU) is taken, with its reason in TT (R211 to R217). -/

namespace Sys2Proof.Machine

variable {s s1 s2 t u : State} {src dest : Gen} {y : FLen} {l : Len} {a b : QWord} {x : Loc} {e : Exact}

/-! ### The traps of a delivery -/

/-- What is delivered without being inexact is a number of the format. -/
theorem represents_of_exact {m : Nat} {rm : BitVec 2} {r : Rounded} (h : RoundsAs y e rm r m)
    (hn : e.num ≠ 0) (hd : e.den ≠ 0) (notSmall : tiny y r = false)
    (notGreat : r.exp ≤ FLen.emax y) (exact : r.inexact = false) :
    ∃ v, Represents y v e.value := by
  obtain ⟨d, hc, hv⟩ := h.classify_pattern hn hd notSmall notGreat
  refine ⟨_, d, hc, ?_⟩
  rw [hv, e.roundedTo_eq_iff]
  by_contra hne
  exact absurd (h.inexact.mpr hne) (by simp [exact])

theorem fpDeliver_traps (y : FLen) (e : Exact) (zeroNeg : Bool) (s : State) (hn : e.num ≠ 0) (hd : e.den ≠ 0) :
    let great := TooGreat y (rounding s.fsr) e.value
    let small := TooSmall y (rounding s.fsr) e.value
    let traps (tt : BitVec 3) (u : State) : Prop :=
      Abandons (fpDeliver y e zeroNeg) s (.trap .fpu) { u with fsr := putTT u.fsr tt }
    (great → traps 0b010 s) ∧
    (¬great → small → s.fsr.getLsbD bitUEN = true → traps 0b001 (s.setFsrBit bitUF)) ∧
    (¬great → ¬small → (∀ v, ¬Represents y v e.value) → s.fsr.getLsbD bitIEN = true →
      traps 0b110 (s.setFsrBit bitIF)) := by
  obtain ⟨m, h⟩ := fpRound_roundsAs hd y (rounding s.fsr)
  dsimp only
  rw [h.tooGreat_iff hn hd, h.tooSmall_iff hn hd]
  refine ⟨fpDeliver_overflows hn, fun great small => (fpDeliver_underflows hn great small).2,
    fun great small hr hI => ?_⟩
  have notSmall := Bool.eq_false_iff.mpr small
  have inexact : (fpRound y e (rounding s.fsr)).inexact = true := by
    by_contra exact
    obtain ⟨v, hv⟩ := represents_of_exact h hn hd notSmall (not_lt.mp great) (Bool.eq_false_iff.mpr exact)
    exact hr v hv
  refine (fpDeliver_sized hn great notSmall).2 _ ?_
  rw [inexact]
  exact inexactResult_traps hI

/-! ### A Reserved operand (R216) -/

/-- An instruction that reads one operand, locates another and then takes the value of the first. -/
theorem trapsOnReserved_of {k : Kind} {n : Nat} {instr : Gen → Gen → Instr} {body : Gen → Gen → Act Next}
    (hp : Performs instr body) (rest : Gen → Gen → QWord → Loc → Exact → Act Next)
    (hb : ∀ src dest, body src dest = do
      needsFpu
      let a ← readFloat y src
      let x ← locateWrite k n dest
      let v ← fpValue y a
      rest src dest a x v) : TrapsOnReserved y k n instr := by
  intro src dest s s1 s2 a x hs ha hx hv
  refine hp.trapped (by decide) ?_
  rw [hb]
  exact abandons_after (needsFpu_passed hs) <| abandons_after ha <| abandons_after hx <|
    abandons_at (fpValue_traps hv s2)

theorem sign_trapsOnReserved {instr : Gen → Gen → Instr} {sign : Bool → Bool} (h : Performs instr (fpSign sign y)) :
    TrapsOnReserved y .float y.bytes instr := trapsOnReserved_of h _ fun _ _ => rfl

theorem toInt_trapsOnReserved {instr : Gen → Gen → Instr} {f : Exact → Int} (h : Performs instr (fpToInt f y l)) :
    TrapsOnReserved y .int l.bytes instr := trapsOnReserved_of h _ fun _ _ => rfl

theorem compare_traps {src1 src2 : Gen} (hs : s.fpuReady) (ha : Gives (readFloat y src1) s a s1)
    (hb : Gives (readFloat y src2) s1 b s2) (h : classify y a = none ∨ classify y b = none) :
    Abandons (fpCompare y src1 src2) s (.trap .fpu) { s2 with fsr := putTT s2.fsr 0b101 } := by
  refine abandons_after (needsFpu_passed hs) <| abandons_after ha <| abandons_after hb ?_
  cases hva : classify y a with
  | none => exact abandons_at (fpValue_traps hva s2)
  | some va =>
    have hvb := h.resolve_left (by simp [hva])
    exact abandons_after (fpValue_gives hva s2) (abandons_at (fpValue_traps hvb s2))

/-! ### An Illegal Instruction (R215) -/

theorem fpIllegal_traps (hs : s.fpuReady) :
    Abandons fpIllegal s (.trap .fpu) { s with fsr := putTT s.fsr 0b100 } :=
  abandons_after (needsFpu_passed hs) (fpuTrap_abandons _ s)

/-- The traps of the arithmetic instructions, by their operands' values and by the delivery. -/
theorem arith_traps (op : ArithOp) (hs : s.fpuReady) (ha : Gives (readFloat y src) s a s1)
    (hb : ReadsRmw .float y.bytes dest s1 x b s2) :
    let i := arithInstr op y src dest
    let reason (tt : BitVec 3) : State := { s2 with fsr := putTT s2.fsr tt }
    (classify y a = none ∨ classify y b = none → s.canTrap (reason 0b101) .fpu →
      exec i s = .next (s.trapped (reason 0b101) .fpu)) ∧
    (∀ va vb : Exact, op = .div → classify y a = some va → classify y b = some vb → va.num = 0 →
      (vb.num = 0 → s.canTrap (reason 0b101) .fpu → exec i s = .next (s.trapped (reason 0b101) .fpu)) ∧
      (vb.num ≠ 0 → s.canTrap (reason 0b011) .fpu → exec i s = .next (s.trapped (reason 0b011) .fpu))) ∧
    (∀ (va vb : Exact) (u : State), (op = .div → va.num ≠ 0) → classify y a = some va → classify y b = some vb →
      Abandons (fpDeliver y (exactResult op vb va) (Config.fpZeroSign op y a b (rounding s.fsr))) s2 (.trap .fpu) u →
      s.canTrap u .fpu → exec i s = .next (s.trapped u .fpu)) := by
  have trapped {u : State} := (arith_performs op y).trapped (src := src) (dest := dest) (s := s) (u := u) (z := .fpu)
    (by decide)
  refine ⟨fun h => trapped (fpArith_reserved hs ha hb h), fun va vb hop hva hvb hz => ?_,
    fun va vb u hz hva hvb hd => ?_⟩
  · subst hop
    have byZero := fpArith_divisor_zero hs ha hb hva hvb hz
    exact ⟨fun h0 => trapped (by rwa [if_pos h0] at byZero), fun h0 => trapped (by rwa [if_neg h0] at byZero)⟩
  · rw [← fsr_of_operands ha hb] at hd
    exact trapped (fpArith_abandons hs ha hb hva hvb hz hd)

/-- Settles O59: each instruction is trapped where its body is abandoned. -/
theorem floatingTraps : Obligations.FloatingTraps := by
  refine ⟨?_, fun y x zeroNeg s => fpDeliver_traps y x zeroNeg s, ?_, ?_, ?_, ?_, ?_, ?_, ?_⟩
  · intro op y src dest s s1 s2 a b x i result reason hs ha hb
    cases op
    · exact arith_traps .add hs ha hb
    · exact arith_traps .sub hs ha hb
    · exact arith_traps .mul hs ha hb
    · exact arith_traps .div hs ha hb
  · rintro l y src dest s s1 s2 u a x _ i hs ha hx rfl hd
    exact (fromInt_performs l y).trapped (by decide) (fpFromInt_abandons hs ha hx hd)
  · intro src dest s s1 s2 u a x e hs ha hx hv hd
    exact exec_trapped_in (by decide) (exec_movlf src dest s) (movlfBody_abandons hs ha hx hv hd)
  · intro y src1 src2 s s1 s2 a b hs ha hb h
    exact (compare_performs y).trapped (by decide) (compare_traps hs ha hb h)
  · refine fun y => ⟨sign_trapsOnReserved (negate_performs y), sign_trapsOnReserved (absolute_performs y), fun l => ?_⟩
    cases y
    · exact ⟨toInt_trapsOnReserved (round_performs .f l), toInt_trapsOnReserved (trunc_performs .f l),
        toInt_trapsOnReserved (floor_performs .f l)⟩
    · exact ⟨toInt_trapsOnReserved (round_performs .l l), toInt_trapsOnReserved (trunc_performs .l l),
        toInt_trapsOnReserved (floor_performs .l l)⟩
  · exact trapsOnReserved_of (body := movlfBody) exec_movlf _ fun _ _ => rfl
  · exact trapsOnReserved_of (body := movflBody) exec_movfl _ fun _ _ => rfl
  · exact fun raw s hs hc => ⟨exec_trapped_in (by decide) (exec_fpuILLEGAL0011 raw s) (fpIllegal_traps hs) hc,
      exec_trapped_in (by decide) (exec_fpuILLEGAL1001 raw s) (fpIllegal_traps hs) hc⟩

end Sys2Proof.Machine
end

section
/-! Instructions that replace operand B by a function of operands A and B (R260 to R263, R461): what such a body gives,
and the product it may write. -/

namespace Sys2Proof.Machine

variable {s s1 s2 w : State} {src dest : Gen} {l : Len} {a b : QWord} {x : Loc}

/-- Three instructions, one for each integer length, perform a body that depends on the length. -/
theorem performs_byLen {ofB ofW ofD : Gen → Gen → Instr} {body : Len → Gen → Gen → Act Next}
    (hb : Performs ofB (body .b)) (hw : Performs ofW (body .w)) (hd : Performs ofD (body .d)) :
    ∀ l, Performs (byLen ofB ofW ofD l) (body l)
  | .b => hb
  | .w => hw
  | .d => hd

theorem binaryBody_gives {f : QWord → QWord → QWord} (ha : Gives (readInt l src) s a s1)
    (hb : ReadsRmw .int l.bytes dest s1 x b s2) (hw : Gives (writeInt l x (f a b)) s2 () w) :
    Gives (binaryBody l f src dest) s .seq w := by
  obtain ⟨_, located, read⟩ := hb
  exact gives_after ha <| gives_after located <| gives_after read <| gives_after hw (gives_return _ _)

theorem replacesSecond_of {instr : Len → Gen → Gen → Instr} {f : Len → QWord → QWord → QWord}
    (hp : ∀ l, Performs (instr l) (binaryBody l (f l))) : ReplacesSecond instr f := by
  intro l src dest s s1 s2 w a b x ha hb hw hf
  obtain ⟨keeps, pc⟩ := rmw_write_keeps ha hb hw
  exact completes_of (hp l src dest s) (binaryBody_gives ha hb hw) pc hf keeps

/-- The low part of a product is the same for signed and unsigned factors (R461). -/
theorem product_eq (l : Len) (a b : QWord) :
    product l.bytes a b = BitVec.ofInt 64 (sval l.bytes b * sval l.bytes a % 2 ^ l.bits) := by
  rw [product, narrow_eq, ← pow_bits, mul_comm (sval _ b), Int.mul_emod (sval _ a), sval_emod, sval_emod]

/-- Settles O24: each instruction performs `binaryBody` with its operation; MULi's is `product_eq`. -/
theorem twoOperandResults : Obligations.TwoOperandResults := by
  refine ⟨replacesSecond_of (performs_byLen exec_andb exec_andw exec_andd),
    replacesSecond_of (performs_byLen exec_orb exec_orw exec_ord),
    replacesSecond_of (performs_byLen exec_bicb exec_bicw exec_bicd),
    replacesSecond_of (performs_byLen exec_xorb exec_xorw exec_xord), ?_⟩
  have products : (fun (l : Len) (a b : QWord) => BitVec.ofInt 64 (sval l.bytes b * sval l.bytes a % 2 ^ l.bits)) =
      fun l => product l.bytes := by
    funext l a b
    exact (product_eq l a b).symm
  rw [products]
  exact replacesSecond_of (performs_byLen exec_mulb exec_mulw exec_muld)

end Sys2Proof.Machine
end

section
/-! ASHi, LSHi and ROTi (R265 to R268): the model's arithmetic on numbers is the shift or rotation of a word of the
operand's length, and the body writes that, or a free value. -/

namespace Sys2Proof.Machine

variable {s s1 s2 w : State} {count dest : Gen} {l : Len} {a b : QWord} {x : Loc} {c : Int}

/-! ### The results as words of the operand's length -/

/-- What is kept of a number is the word of that length that stands for it. -/
theorem narrow_eq_setWidth (l : Len) (n : Int) : narrow l.bytes n = (BitVec.ofInt l.bits n).setWidth 64 := by
  apply BitVec.eq_of_toNat_eq
  have bound : l.bits ≤ 64 := by cases l <;> decide
  have same := narrow_toNat l n
  rw [BitVec.toNat_setWidth_of_le bound, BitVec.toNat_ofInt]
  push_cast
  omega

theorem ofNat_mul_two_pow {n : Nat} (v : BitVec n) (k : Nat) : BitVec.ofNat n (v.toNat * 2 ^ k) = v <<< k := by
  rw [← Nat.shiftLeft_eq]
  rfl

theorem ofNat_div_two_pow {n : Nat} (v : BitVec n) (k : Nat) : BitVec.ofNat n (v.toNat / 2 ^ k) = v >>> k := by
  rw [← Nat.shiftRight_eq_div_pow, ← BitVec.toNat_ushiftRight, BitVec.ofNat_toNat, BitVec.setWidth_eq]

theorem shiftLeft_word (l : Len) (k : Nat) (v : QWord) :
    narrow l.bytes (uval l.bytes v * 2 ^ k) = (v.setWidth l.bits <<< k).setWidth 64 := by
  rw [narrow_eq_setWidth, ← ofNat_mul_two_pow, uval_setWidth, ← BitVec.ofInt_natCast]
  push_cast
  rfl

theorem shiftArith_word (l : Len) (c : Int) (v : QWord) : shiftArith l.bytes c v =
    (if 0 ≤ c then v.setWidth l.bits <<< c.toNat else (v.setWidth l.bits).sshiftRight c.natAbs).setWidth 64 := by
  rw [shiftArith]
  split
  · exact shiftLeft_word l _ v
  · rw [narrow_eq_setWidth, BitVec.sshiftRight, sval_setWidth, Int.shiftRight_eq_div_pow,
      Int.fdiv_eq_ediv_of_nonneg _ (by positivity)]
    push_cast
    rfl

theorem shiftLogical_word (l : Len) (c : Int) (v : QWord) : shiftLogical l.bytes c v =
    (if 0 ≤ c then v.setWidth l.bits <<< c.toNat else v.setWidth l.bits >>> c.natAbs).setWidth 64 := by
  rw [shiftLogical]
  split
  · exact shiftLeft_word l _ v
  · rw [narrow_eq_setWidth, BitVec.ofInt_natCast, ← uval_setWidth, ofNat_div_two_pow]

/-- The two parts of a rotation have no bit in common. -/
theorem rotateLeft_eq_add {n k : Nat} (v : BitVec n) (hk : k < n) : v.rotateLeft k = v <<< k + v >>> (n - k) := by
  rw [BitVec.rotateLeft_def, Nat.mod_eq_of_lt hk]
  refine (BitVec.add_eq_or_of_and_eq_zero _ _ ?_).symm
  apply BitVec.eq_of_getLsbD_eq
  intro i hi
  rw [BitVec.getLsbD_and, BitVec.getLsbD_shiftLeft, BitVec.getLsbD_ushiftRight, BitVec.getLsbD_zero]
  by_cases h : i < k
  · simp [h]
  · rw [BitVec.getLsbD_of_ge v (n - k + i) (by omega), Bool.and_false]

/-- Within the length, the left rotation that a count stands for (R268). -/
theorem leftCount_eq (hc : c.natAbs < l.bits) :
    (if 0 ≤ c then c.toNat else (c + 8 * l.bytes).toNat) = (c % l.bits).toNat := by
  have bits := bits_eq l
  split
  · rw [Int.emod_eq_of_lt ‹_› (by omega)]
  · rw [← Int.add_emod_right, Int.emod_eq_of_lt (by omega) (by omega), bits]
    push_cast
    rfl

theorem rotate_word (v : QWord) (hc : c.natAbs < l.bits) :
    rotate l.bytes c v = ((v.setWidth l.bits).rotateLeft (c % l.bits).toNat).setWidth 64 := by
  have below : (c % l.bits).toNat < l.bits := by
    have := Int.emod_lt_of_pos c (show (0 : Int) < l.bits by omega)
    omega
  rw [rotate, leftCount_eq hc, ← bits_eq, ← uval_setWidth, narrow_eq_setWidth, BitVec.ofInt_natCast,
    BitVec.ofNat_add, ofNat_mul_two_pow, ofNat_div_two_pow, rotateLeft_eq_add _ below]

/-! ### The instructions -/

theorem shiftBody_gives {f : Int → QWord → QWord} (ha : Gives (readOp .int 1 count) s a s1)
    (hb : ReadsRmw .int l.bytes dest s1 x b s2) (hc : (sval 1 a).natAbs < l.bits)
    (hw : Gives (writeInt l x (f (sval 1 a) b)) s2 () w) : Gives (shiftBody l f count dest) s .seq w := by
  obtain ⟨_, located, read⟩ := hb
  refine gives_after ha <| gives_after located <| gives_after read ?_
  rw [if_neg (not_le.mpr hc)]
  exact gives_after hw (gives_return _ _)

/-- A count that is not below the length delivers the next free value (U11). -/
theorem shiftBody_free {f : Int → QWord → QWord} (ha : Gives (readOp .int 1 count) s a s1)
    (hb : ReadsRmw .int l.bytes dest s1 x b s2) (hc : l.bits ≤ (sval 1 a).natAbs)
    (hw : Gives (draw >>= fun _ => writeInt l x (Config.freeValue s2.draws)) s2 () w) :
    Gives (shiftBody l f count dest) s .seq w := by
  obtain ⟨_, located, read⟩ := hb
  obtain ⟨v, u, drawn, written⟩ := (gives_bind ..).mp hw
  obtain ⟨rfl, -⟩ := (gives_draw ..).mp drawn
  refine gives_after ha <| gives_after located <| gives_after read ?_
  rw [if_pos hc]
  exact gives_after drawn <| gives_after written (gives_return _ _)

theorem shifts_of {instr : Len → Gen → Gen → Instr} {f : Len → Int → QWord → QWord}
    {g : (l : Len) → Int → BitVec l.bits → BitVec l.bits} (hp : ∀ l, Performs (instr l) (shiftBody l (f l)))
    (hg : ∀ l c v, c.natAbs < l.bits → f l c v = (g l c (v.setWidth l.bits)).setWidth 64) : Shifts instr g := by
  intro l count dest s s1 s2 a b x ha hb hf touched
  refine ⟨fun hc w hw => ?_, fun hc => ⟨Config.freeValue s2.draws, fun w hw => ?_⟩⟩
  · obtain ⟨keeps, pc⟩ := rmw_write_keeps ha hb hw
    rw [← hg l _ b hc] at hw
    exact completes_of (hp l count dest s) (shiftBody_gives ha hb hc hw) pc hf keeps
  · obtain ⟨keeps, pc⟩ := rmw_draw_keeps ha hb hw
    exact completes_of (hp l count dest s) (shiftBody_free ha hb hc hw) pc hf keeps

/-- Settles O30: each instruction performs `shiftBody` with an operation that is a shift or a rotation of words. -/
theorem shiftsAndRotations : Obligations.ShiftsAndRotations :=
  ⟨shifts_of (f := fun l => shiftArith l.bytes) (performs_byLen exec_ashb exec_ashw exec_ashd)
      fun l c v _ => shiftArith_word l c v,
    shifts_of (f := fun l => shiftLogical l.bytes) (performs_byLen exec_lshb exec_lshw exec_lshd)
      fun l c v _ => shiftLogical_word l c v,
    shifts_of (f := fun l => rotate l.bytes) (performs_byLen exec_rotb exec_rotw exec_rotd)
      fun _ _ v hc => rotate_word v hc⟩

end Sys2Proof.Machine
end

section
/-! Scondi (R271): the condition on the PSR, which locating the operand leaves alone, written as a Boolean. -/

namespace Sys2Proof.Machine

variable {s s1 w : State} {dest : Gen} {l : Len} {x : Loc} {code : BitVec 4}

theorem Reads.psr (h : Reads s s1) : s1.psr = s.psr := by rw [h.eq]

theorem scondBody_gives (hx : Gives (locateWrite .int l.bytes dest) s x s1)
    (hw : Gives (writeInt l x (if condition s.psr code then 1 else 0)) s1 () w) :
    Gives (scondBody l code dest) s .seq w := by
  rw [← (locateWrite_reads hx).1.psr] at hw
  exact gives_after hx <| gives_after (gives_state s1) <| gives_after hw (gives_return _ _)

/-- Three instructions, one for each integer length, that perform `scondBody` with one code. -/
theorem setsBoolean_of {ofB ofW ofD : Gen → Instr} {cond : State → Bool}
    (hb : ∀ dest s, exec (ofB dest) s = perform (ofB dest).length (scondBody .b code dest) s)
    (hw : ∀ dest s, exec (ofW dest) s = perform (ofW dest).length (scondBody .w code dest) s)
    (hd : ∀ dest s, exec (ofD dest) s = perform (ofD dest).length (scondBody .d code dest) s)
    (hc : ∀ s : State, condition s.psr code = cond s) : SetsBoolean (byLen ofB ofW ofD) cond := by
  obtain rfl : (fun s => condition s.psr code) = cond := funext hc
  intro l dest s s1 w x _ hx hw' hf
  have performed : exec (byLen ofB ofW ofD l dest) s =
      perform (byLen ofB ofW ofD l dest).length (scondBody l code dest) s := by
    cases l with
    | b => exact hb dest s
    | w => exact hw dest s
    | d => exact hd dest s
  obtain ⟨keeps, pc⟩ := reads_write_keeps (Reads.refl s) hx hw'
  exact completes_of performed (scondBody_gives hx hw') pc hf keeps

/-- The conditions that hold if two flags are both clear (R174): LO and LT. -/
theorem neither_eq (p q : Bool) : (!p && !q) = !(q || p) := by
  rw [Bool.not_or, Bool.and_comm]

/-- Settles O31: each instruction performs `scondBody` with its condition's code, whose formula is that of R174. -/
theorem savedConditions : Obligations.SavedConditions :=
  ⟨setsBoolean_of exec_seqb exec_seqw exec_seqd fun _ => rfl,
    setsBoolean_of exec_sneb exec_snew exec_sned fun _ => rfl,
    setsBoolean_of exec_scsb exec_scsw exec_scsd fun _ => rfl,
    setsBoolean_of exec_sccb exec_sccw exec_sccd fun _ => rfl,
    setsBoolean_of exec_shib exec_shiw exec_shid fun _ => rfl,
    setsBoolean_of exec_slsb exec_slsw exec_slsd fun _ => rfl,
    setsBoolean_of exec_sgtb exec_sgtw exec_sgtd fun _ => rfl,
    setsBoolean_of exec_sleb exec_slew exec_sled fun _ => rfl,
    setsBoolean_of exec_sfsb exec_sfsw exec_sfsd fun _ => rfl,
    setsBoolean_of exec_sfcb exec_sfcw exec_sfcd fun _ => rfl,
    setsBoolean_of exec_slob exec_slow exec_slod fun _ => neither_eq _ _,
    setsBoolean_of exec_shsb exec_shsw exec_shsd fun _ => Bool.or_comm _ _,
    setsBoolean_of exec_sltb exec_sltw exec_sltd fun _ => neither_eq _ _,
    setsBoolean_of exec_sgeb exec_sgew exec_sged fun _ => Bool.or_comm _ _,
    setsBoolean_of exec_srb exec_srw exec_srd fun _ => rfl,
    setsBoolean_of exec_s1111b exec_s1111w exec_s1111d fun _ => rfl⟩

end Sys2Proof.Machine
end

section
/-! Where a bit or a bit field is (R281, R282, R295 to R297), the fields of a double-word, and the steps that bit and
bit-field instructions share. -/

namespace Sys2Proof.Machine

variable {s s1 s2 t u w : State} {l : Len} {base : Gen} {off : Int} {len : Nat} {r : Reg}

/-! ### Places -/

theorem locateBit_reg (h0 : 0 ≤ off) (h32 : off + len ≤ 32) (s : State) :
    Gives (locateBit (.base (.reg r)) off len) s (.reg r off.toNat) s :=
  gives_after (ensure_passed (by simp [h0, h32]) _ s) (gives_return _ _)

/-- Places in memory are by floor division of the offset (R282). -/
theorem locateBit_mem {a : Int} (hm : ∀ r, base ≠ .base (.reg r)) (ha : Gives (addrOp base) s a t) :
    Gives (locateBit base off len) s (.mem (a + off / 8) (off % 8).toNat) t := by
  rw [← Int.fdiv_eq_ediv_of_nonneg off (by decide), ← Int.fmod_eq_emod_of_nonneg off (by decide)]
  unfold locateBit
  split
  · exact absurd rfl (hm _)
  · exact gives_after ha (gives_return _ _)

/-- A field of memory whose least significant bit is in its first byte lies in four bytes (R297). -/
theorem fieldInDouble_passed (h : off % 8 + len ≤ 32) (s : State) : Gives (fieldInDouble (off % 8).toNat len) s () s :=
  ensure_passed (decide_eq_true (by omega)) _ s

/-! ### Single bits -/

theorem getLsbD_one_shiftLeft {n j k : Nat} (hj : j < n) : (1#n <<< k).getLsbD j = decide (j = k) := by
  rw [← BitVec.twoPow_eq, BitVec.getLsbD_twoPow, ← Bool.decide_and, decide_eq_decide]
  omega

/-- The mask that sets or clears one bit gives the value that differs in that bit only. -/
theorem BitReplaced.eq_mask {n k : Nat} {old new : BitVec n} {b : Bool} (h : BitReplaced n old new k b) :
    (if b then old ||| (1#n <<< k) else old &&& ~~~(1#n <<< k)) = new := by
  refine BitVec.eq_of_getLsbD_eq fun j hj => ?_
  rw [h j hj]
  cases b with
  | true =>
    rw [if_pos rfl, BitVec.getLsbD_or, getLsbD_one_shiftLeft hj]
    by_cases same : j = k <;> simp [same]
  | false =>
    rw [if_neg Bool.false_ne_true, BitVec.getLsbD_and, BitVec.getLsbD_not, getLsbD_one_shiftLeft hj]
    by_cases same : j = k <;> simp [same, hj]

/-! ### Fields -/

/-- A field that lies in the low double-word of a value is a field of that double-word. -/
theorem fieldOf_setWidth {k : Nat} (d : QWord) (h : k + len ≤ 32) :
    fieldOf (d.setWidth 32) k len = d.toNat / 2 ^ k % 2 ^ len := by
  refine Nat.eq_of_testBit_eq fun j => ?_
  rw [fieldOf, BitVec.toNat_setWidth]
  simp only [Nat.testBit_mod_two_pow, Nat.testBit_div_two_pow]
  by_cases inside : j < len
  · simp [inside, show j + k < 32 by omega]
  · simp [inside]

theorem putField_replaced (d : DWord) (k len x : Nat) : FieldReplaced 32 d (putField d k len x) k len x := by
  intro j hj
  have mask : (BitVec.ofNat 32 ((2 ^ len - 1) * 2 ^ k)).getLsbD j = decide (k ≤ j ∧ j < k + len) := by
    rw [BitVec.getLsbD_ofNat, Nat.testBit_mul_two_pow, Nat.testBit_two_pow_sub_one]
    simp only [hj, decide_true, Bool.true_and, ← Bool.decide_and, decide_eq_decide]
    omega
  have moved : (BitVec.ofNat 32 (x * 2 ^ k)).getLsbD j = (decide (k ≤ j) && x.testBit (j - k)) := by
    rw [BitVec.getLsbD_ofNat, Nat.testBit_mul_two_pow]
    simp [hj]
  rw [putField, BitVec.getLsbD_or, BitVec.getLsbD_and, BitVec.getLsbD_and, BitVec.getLsbD_not, mask, moved]
  by_cases inside : k ≤ j ∧ j < k + len
  · simp [inside]
  · simp [inside, hj]

/-! ### Offsets and lengths -/

theorem offsetOf_gives (r : Reg) (s : State) : Gives (offsetOf r) s (s.reg r).toInt s :=
  gives_after (gives_state s) (gives_return _ _)

/-- A length of 1 to 32 is in the range of displacements (R164, R173). -/
theorem fieldLength_gives {d : Disp} (h1 : 1 ≤ d.value) (h32 : d.value ≤ 32) (s : State) :
    Gives (fieldLength d) s d.value.toNat s := by
  have inRange : d.ok = true := decide_eq_true (by omega)
  exact gives_after (dispValue_ok inRange) <| gives_after (ensure_passed (by simp [h1, h32]) _ s) (gives_return _ _)

end Sys2Proof.Machine
end

section
/-! TBITi, SBITi, SBITIi, CBITi, CBITIi and IBITi (R280 to R289): each performs `bitBody` with what becomes of the
bit. -/

namespace Sys2Proof.Machine

variable {s s1 s2 s3 w : State} {l : Len} {offset base : Gen} {r : Reg} {a v : QWord} {k : Nat} {p : Int}

/-! ### The bodies -/

section Register
variable (ha : Gives (readInt l offset) s a s1) (hk : sval l.bytes a = k) (h32 : k < 32)
include ha hk h32

omit ha in
theorem bitPlace_reg : Gives (locateBit (.base (.reg r)) (sval l.bytes a) 1) s1 (.reg r k) s1 := by
  rw [hk]
  exact locateBit_reg (by omega) (by omega) s1

theorem bitBody_tests_reg : Gives (bitBody l none offset (.base (.reg r))) s .seq
    (s1.setFlag bitF ((s1.reg r).getLsbD k)) :=
  gives_after ha <| gives_after (bitPlace_reg hk h32) <| gives_after (gives_state s1) <|
    gives_after (gives_change _ _) (gives_return _ _)

theorem bitBody_changes_reg {f : Bool → Bool} {new : DWord}
    (hn : BitReplaced 32 (s1.reg r) new k (f ((s1.reg r).getLsbD k))) :
    Gives (bitBody l (some f) offset (.base (.reg r))) s .seq
      ((s1.setFlag bitF ((s1.reg r).getLsbD k)).setReg r new) := by
  rw [← hn.eq_mask]
  exact gives_after ha <| gives_after (bitPlace_reg hk h32) <| gives_after (gives_state s1) <|
    gives_after (gives_change _ _) <| gives_after (gives_change _ _) (gives_return _ _)

end Register

section Memory
variable (hm : ∀ r, base ≠ .base (.reg r)) (ha : Gives (readInt l offset) s a s1) (hp : Gives (addrOp base) s1 p s2)
  (hv : Gives (memRead (p + sval l.bytes a / 8) 1) s2 v s3)
include ha hp hv

/-- Before F is set, only the offset's operand can have moved the stack pointer. -/
theorem bit_read_keeps : Keeps { special := movesSp offset } s s3 ∧ s3.pc = s.pc := by
  obtain ⟨keeps, pc⟩ := readOp_keeps ha
  have read := (addrOp_reads hp).1.trans (memRead_reads hv)
  exact ⟨(keeps.trans (read.keeps {}) (by simp)).mono (by simp) (by simp) (by simp) (by simp) (by simp),
    read.pc.trans pc⟩

include hm

theorem bitBody_tests_mem : Gives (bitBody l none offset base) s .seq
    (s3.setFlag bitF (v.getLsbD (sval l.bytes a % 8).toNat)) :=
  gives_after ha <| gives_after (locateBit_mem hm hp) <| gives_after hv <| gives_after (gives_change _ _)
    (gives_return _ _)

theorem bitBody_changes_mem {f : Bool → Bool} {new : QWord}
    (hn : BitReplaced 64 v new (sval l.bytes a % 8).toNat (f (v.getLsbD (sval l.bytes a % 8).toNat)))
    (hw : Gives (memWrite (p + sval l.bytes a / 8) 1 new)
      (s3.setFlag bitF (v.getLsbD (sval l.bytes a % 8).toNat)) () w) :
    Gives (bitBody l (some f) offset base) s .seq w := by
  rw [← hn.eq_mask] at hw
  exact gives_after ha <| gives_after (locateBit_mem hm hp) <| gives_after hv <| gives_after (gives_change _ _) <|
    gives_after hw (gives_return _ _)

end Memory

/-! ### The frames -/

/-- F is set to a bit after a step that touches no flag. -/
theorem Keeps.setF {z : Touched} (h : Keeps z s s1) (hz : z.flags = []) (b : Bool) :
    Keeps { z with flags := [bitF] } s (s1.setFlag bitF b) :=
  (h.trans (setFlag_keeps s1 bitF b (by decide) (by decide)) (by simp [hz])).mono (by simp) (by simp) (by simp)
    (by simp [hz]) (by simp)

theorem setF_mode (s : State) (b : Bool) : (s.setFlag bitF b).mode = s.mode := by
  rw [State.mode, State.flag_setFlag _ _ _ _ (by decide)]
  rfl

/-- Setting F does not move the bytes that a store reaches. -/
theorem setF_cellsAt (s : State) (b : Bool) : (s.setFlag bitF b).cellsAt = s.cellsAt := rfl

/-! ### The instructions -/

variable {instr : Len → Gen → Gen → Instr} {f : Bool → Bool}

theorem changesRegisterBit_of (hi : ∀ l, Performs (instr l) (bitBody l (some f))) : ChangesRegisterBit instr f := by
  intro l offset r s s1 a new k ha hk h32 hf hn
  obtain ⟨keeps, pc⟩ := readOp_keeps ha
  have kept := (keeps.setF rfl ((s1.reg r).getLsbD k)).trans (setReg_keeps _ r new) (by simp)
  refine completes_of (hi l _ _ s) (bitBody_changes_reg ha hk h32 hn) pc hf (kept.mono ?_ ?_ ?_ ?_ ?_) <;> simp

theorem changesMemoryBit_of (hi : ∀ l, Performs (instr l) (bitBody l (some f))) : ChangesMemoryBit instr f := by
  intro l offset base s s1 s2 s3 w a v new p hm ha hp hv hf k hn hw
  obtain ⟨keeps, pc⟩ := bit_read_keeps ha hp hv
  have stores := memWrite_stores hw
  rw [setF_mode, setF_cellsAt] at stores
  have kept := (keeps.setF rfl (v.getLsbD k)).trans stores.keeps (by simp)
  refine completes_of (hi l _ _ s) (bitBody_changes_mem hm ha hp hv hn hw) (stores.pc.trans pc) hf
    (kept.mono ?_ ?_ ?_ ?_ ?_) <;> simp

/-- Settles O32: TBITi stops once F has taken the bit; the others then write the register or the byte with the bit set,
cleared or inverted. -/
theorem bitInstructions : Obligations.BitInstructions := by
  have tests : ∀ l, Performs (byLen Instr.tbitb Instr.tbitw Instr.tbitd l) (bitBody l none) :=
    performs_byLen exec_tbitb exec_tbitw exec_tbitd
  have sets : ∀ l, Performs (byLen Instr.sbitb Instr.sbitw Instr.sbitd l) (bitBody l (some fun _ => true)) :=
    performs_byLen exec_sbitb exec_sbitw exec_sbitd
  have setsI : ∀ l, Performs (byLen Instr.sbitib Instr.sbitiw Instr.sbitid l) (bitBody l (some fun _ => true)) :=
    performs_byLen exec_sbitib exec_sbitiw exec_sbitid
  have clears : ∀ l, Performs (byLen Instr.cbitb Instr.cbitw Instr.cbitd l) (bitBody l (some fun _ => false)) :=
    performs_byLen exec_cbitb exec_cbitw exec_cbitd
  have clearsI : ∀ l, Performs (byLen Instr.cbitib Instr.cbitiw Instr.cbitid l) (bitBody l (some fun _ => false)) :=
    performs_byLen exec_cbitib exec_cbitiw exec_cbitid
  have inverts : ∀ l, Performs (byLen Instr.ibitb Instr.ibitw Instr.ibitd l) (bitBody l (some not)) :=
    performs_byLen exec_ibitb exec_ibitw exec_ibitd
  refine ⟨?_, ?_, changesRegisterBit_of sets, changesRegisterBit_of setsI, changesRegisterBit_of clears,
    changesRegisterBit_of clearsI, changesRegisterBit_of inverts, changesMemoryBit_of sets, changesMemoryBit_of setsI,
    changesMemoryBit_of clears, changesMemoryBit_of clearsI, changesMemoryBit_of inverts⟩
  · intro l offset r s s1 a k i ha hk h32 hf
    obtain ⟨keeps, pc⟩ := readOp_keeps ha
    exact completes_of (tests l _ _ s) (bitBody_tests_reg ha hk h32) pc hf (keeps.setF rfl _)
  · intro l offset base s s1 s2 s3 a v p i hm ha hp hv hf
    obtain ⟨keeps, pc⟩ := bit_read_keeps ha hp hv
    exact completes_of (tests l _ _ s) (bitBody_tests_mem hm ha hp hv) pc hf (keeps.setF rfl _)

end Sys2Proof.Machine
end

section
/-! FFSi (R290): what the search finds, and the body that writes it. -/

namespace Sys2Proof.Machine

variable {s s1 s2 w : State} {l : Len} {base offset : Gen} {v o : QWord} {x : Loc} {n k m : Nat}

/-! ### The search -/

theorem firstSet_eq_some (hm : m ≤ k) (hn : k < n) (hk : v.getLsbD k = true)
    (first : ∀ j, m ≤ j → j < k → v.getLsbD j = false) : firstSet v n m = some k := by
  rw [firstSet, List.find?_range_eq_some]
  refine ⟨by simp [hm, hk], List.mem_range.mpr hn, fun j hj => ?_⟩
  by_cases from_m : m ≤ j
  · simp [first j from_m hj]
  · simp [from_m]

theorem firstSet_eq_none (absent : ∀ j, m ≤ j → j < n → v.getLsbD j = false) : firstSet v n m = none := by
  rw [firstSet, List.find?_eq_none]
  intro j hj
  by_cases from_m : m ≤ j
  · simp [absent j from_m (List.mem_range.mp hj)]
  · simp [from_m]

/-! ### The instructions -/

theorem exec_ffs (base offset : Gen) (s : State) : ∀ l,
    exec (byLen Instr.ffsb Instr.ffsw Instr.ffsd l base offset 0) s =
      perform (byLen Instr.ffsb Instr.ffsw Instr.ffsd l base offset 0).length (ffsBody l 0 base offset) s
  | .b => exec_ffsb base offset 0 s
  | .w => exec_ffsw base offset 0 s
  | .d => exec_ffsd base offset 0 s

theorem ffsBody_found (hv : Gives (readInt l base) s v s1) (ho : ReadsRmw .int 1 offset s1 x o s2)
    (hk : firstSet v l.bits (uval 1 o) = some k) (hw : Gives (writeLoc .int 1 x (BitVec.ofNat 64 k)) s2 () w) :
    Gives (ffsBody l 0 base offset) s .seq (w.setFlag bitF false) := by
  obtain ⟨_, located, read⟩ := ho
  refine gives_after (mustBeZero_passed 3 s) <| gives_after hv <| gives_after located <| gives_after read ?_
  rw [hk]
  exact gives_after hw <| gives_after (gives_change _ _) (gives_return _ _)

theorem ffsBody_none (hv : Gives (readInt l base) s v s1) (ho : ReadsRmw .int 1 offset s1 x o s2)
    (hk : firstSet v l.bits (uval 1 o) = none) (hw : Gives (writeLoc .int 1 x 0) s2 () w) :
    Gives (ffsBody l 0 base offset) s .seq (w.setFlag bitF true) := by
  obtain ⟨_, located, read⟩ := ho
  refine gives_after (mustBeZero_passed 3 s) <| gives_after hv <| gives_after located <| gives_after read ?_
  rw [hk]
  exact gives_after hw <| gives_after (gives_change _ _) (gives_return _ _)

/-- Settles O33: the body writes what the search finds, which is the least bit set from the offset on. -/
theorem findFirstSet : Obligations.FindFirstSet := by
  intro l base offset s s1 s2 w v o x i touched hv ho hf
  refine ⟨fun k hk hb hset first hw => ?_, fun absent hw => ?_⟩
  · obtain ⟨keeps, pc⟩ := rmw_write_keeps hv ho hw
    have found := firstSet_eq_some hk hb hset first
    exact completes_of (exec_ffs base offset s l) (ffsBody_found hv ho found hw) pc hf (keeps.setF rfl _)
  · obtain ⟨keeps, pc⟩ := rmw_write_keeps hv ho hw
    have unfound := firstSet_eq_none absent
    exact completes_of (exec_ffs base offset s l) (ffsBody_none hv ho unfound hw) pc hf (keeps.setF rfl _)

end Sys2Proof.Machine
end

section
/-! EXTi and EXTSi (R299, R300): a bit field read, then written as an operand of class write. -/

namespace Sys2Proof.Machine

variable {s s1 s2 w : State} {l : Len} {base dest : Gen} {off : Int} {len v : Nat} {x : Loc} {offset : Act Int}

/-- The bit field that is read is that of R295 to R297, and reading it stores nothing. -/
theorem ReadsField.gives (h : ReadsField base off len s v s1) : Gives (fieldRead base off len) s v s1 ∧ Reads s s1 := by
  unfold ReadsField at h
  split at h
  · obtain ⟨h0, h32, rfl, rfl⟩ := h
    exact ⟨gives_after (locateBit_reg h0 h32 _) <| gives_after (gives_state _) (gives_return _ _), Reads.refl _⟩
  · rename_i notReg
    obtain ⟨a, u, d, ha, h32, hd, rfl⟩ := h
    refine ⟨?_, (addrOp_reads ha).1.trans (memRead_reads hd)⟩
    rw [← fieldOf_setWidth d (by omega)]
    exact gives_after (locateBit_mem notReg ha) <| gives_after (fieldInDouble_passed h32 u) <|
      gives_after hd (gives_return _ _)

/-- The number that is written is the field cut to the destination's length. -/
theorem narrow_natCast (l : Len) (v : Nat) : narrow l.bytes v = BitVec.ofNat 64 (v % 2 ^ l.bits) := by
  rw [narrow_eq, pow_bits, ← BitVec.ofInt_natCast]
  push_cast
  rfl

theorem extractBody_gives (ho : Gives offset s off s) (hv : ReadsField base off len s v s1)
    (hx : Gives (locateWrite .int l.bytes dest) s1 x s2)
    (hw : Gives (writeInt l x (BitVec.ofNat 64 (v % 2 ^ l.bits))) s2 () w) :
    Gives (extractBody l offset len base dest) s .seq w := by
  rw [← narrow_natCast] at hw
  exact gives_after ho <| gives_after hv.gives.1 <| gives_after hx <| gives_after hw (gives_return _ _)

theorem exec_ext (offset : Reg) (base dest : Gen) (length : Disp) (s : State) : ∀ l,
    exec (byLen Instr.extb Instr.extw Instr.extd l offset base dest length) s =
      perform (byLen Instr.extb Instr.extw Instr.extd l offset base dest length).length
        (extBody l offset base dest length) s
  | .b => exec_extb offset base dest length s
  | .w => exec_extw offset base dest length s
  | .d => exec_extd offset base dest length s

theorem exec_exts (base dest : Gen) (offset : BitVec 3) (lengthM1 : BitVec 5) (s : State) : ∀ l,
    exec (byLen Instr.extsb Instr.extsw Instr.extsd l base dest offset lengthM1) s =
      perform (byLen Instr.extsb Instr.extsw Instr.extsd l base dest offset lengthM1).length
        (extractBody l (return offset.toNat) (lengthM1.toNat + 1) base dest) s
  | .b => exec_extsb base dest offset lengthM1 s
  | .w => exec_extsw base dest offset lengthM1 s
  | .d => exec_extsd base dest offset lengthM1 s

/-- Settles O35: EXTi and EXTSi perform `extractBody` with the offset and the length of their operands. -/
theorem extractedFields : Obligations.ExtractedFields := by
  intro l base dest s s1 s2 w v x touched hx hw
  refine ⟨fun offset length h1 h32 hv hf => ?_, fun offset lengthM1 hv hf => ?_⟩
  · obtain ⟨keeps, pc⟩ := reads_write_keeps hv.gives.2 hx hw
    exact completes_of (exec_ext offset base dest length s l)
      (gives_after (fieldLength_gives h1 h32 s) (extractBody_gives (offsetOf_gives offset s) hv hx hw)) pc hf keeps
  · obtain ⟨keeps, pc⟩ := reads_write_keeps hv.gives.2 hx hw
    exact completes_of (exec_exts base dest offset lengthM1 s l) (extractBody_gives (gives_return _ s) hv hx hw) pc hf
      keeps

end Sys2Proof.Machine
end

section
/-! INSi and INSSi (R301, R302): the number that is inserted, and the bit field that it replaces. -/

namespace Sys2Proof.Machine

variable {s s1 s2 s3 u w : State} {l : Len} {src base : Gen} {off a : Int} {len x : Nat} {r : Reg} {v d : QWord}
  {offset : Act Int} {i : Instr} {body : Act Next}

/-! ### A field written -/

theorem fieldWrite_reg (h0 : 0 ≤ off) (h32 : off + len ≤ 32) (x : Nat) (u : State) :
    Gives (fieldWrite (.base (.reg r)) off len x) u () (u.setReg r (putField (u.reg r) off.toNat len x)) :=
  gives_after (locateBit_reg h0 h32 u) (gives_change _ u)

theorem fieldWrite_mem (hm : ∀ r, base ≠ .base (.reg r)) (h32 : off % 8 + len ≤ 32) (ha : Gives (addrOp base) u a s2)
    (hd : Gives (memRead (a + off / 8) 4) s2 d s3)
    (hw : Gives (memWrite (a + off / 8) 4 ((putField (d.setWidth 32) (off % 8).toNat len x).setWidth 64)) s3 () w) :
    Gives (fieldWrite base off len x) u () w :=
  gives_after (locateBit_mem hm ha) <| gives_after (fieldInDouble_passed h32 s2) <| gives_after hd hw

/-! ### The source -/

/-- The state in which the field is written: a field longer than the source has drawn a free value (U26). -/
def State.sourced (s1 : State) (l : Len) (len : Nat) : State :=
  if len ≤ l.bits then s1 else { s1 with draws := s1.draws + 1 }

/-- The body of an insertion writes a field with a number whose low bits are the source's. -/
def InsertsFrom (body : Act Next) (l : Len) (base : Gen) (off : Int) (len : Nat) (v : QWord) (s s1 : State) : Prop :=
  ∃ x, x % 2 ^ l.bits = uval l.bytes v ∧
    ∀ w, Gives (fieldWrite base off len x) (s1.sourced l len) () w → Gives body s .seq w

theorem insertBody_insertsFrom (hv : Gives (readInt l src) s v s1) (ho : Gives offset s1 off s1) :
    InsertsFrom (insertBody l offset len src base) l base off len v s s1 := by
  have low := Nat.mod_eq_of_lt (uval_lt l v)
  unfold InsertsFrom State.sourced
  split
  · refine ⟨uval l.bytes v, low, fun w hw => gives_after hv <| gives_after ho ?_⟩
    rw [if_pos ‹_›]
    exact gives_after hw (gives_return _ _)
  · refine ⟨uval l.bytes v + (Config.freeValue s1.draws).toNat % 2 ^ 32 * 2 ^ l.bits, ?_, fun w hw =>
      gives_after hv <| gives_after ho ?_⟩
    · rw [Nat.add_mul_mod_self_right, low]
    · rw [if_neg ‹_›]
      exact gives_after ((gives_draw ..).mpr ⟨rfl, rfl⟩) <| gives_after hw (gives_return _ _)

theorem sourced_keeps (hv : Gives (readInt l src) s v s1) (len : Nat) :
    Keeps { special := movesSp src } s (s1.sourced l len) ∧ (s1.sourced l len).pc = s.pc := by
  obtain ⟨keeps, pc⟩ := readOp_keeps hv
  unfold State.sourced
  split
  · exact ⟨keeps, pc⟩
  · exact ⟨(keeps.trans (draw_keeps s1 {}) (by simp)).mono (by simp) (by simp) (by simp) (by simp) (by simp), pc⟩

/-! ### The instructions -/

theorem insertsField_of (hi : exec i s = perform i.length body s) (hv : Gives (readInt l src) s v s1)
    (hb : InsertsFrom body l base off len v s s1) : InsertsField i l src base off len v s s1 := by
  obtain ⟨x, low, written⟩ := hb
  obtain ⟨keeps, pc⟩ := sourced_keeps hv len
  unfold InsertsField
  intro u hf
  refine ⟨?_, fun hm h32 a s2 d s3 ha hd => ⟨x, _, low, putField_replaced _ _ _ x, fun w hw => ?_⟩⟩
  · rintro r rfl h0 h32
    have kept := keeps.trans (setReg_keeps _ r (putField (u.reg r) off.toNat len x)) (by simp)
    refine ⟨x, _, low, putField_replaced _ _ _ x,
      completes_of hi (written _ (fieldWrite_reg h0 h32 x _)) pc hf (kept.mono ?_ ?_ ?_ ?_ ?_)⟩ <;> simp
  · have read := (addrOp_reads ha).1.trans (memRead_reads hd)
    have stores := memWrite_stores hw
    have kept := (keeps.trans (read.keeps {}) (by simp)).trans stores.keeps (by simp)
    refine completes_of hi (written w (fieldWrite_mem hm h32 ha hd hw)) ?_ hf (kept.mono ?_ ?_ ?_ ?_ ?_)
    · exact (stores.pc.trans read.pc).trans pc
    all_goals simp

theorem exec_ins (offset : Reg) (src base : Gen) (length : Disp) (s : State) : ∀ l,
    exec (byLen Instr.insb Instr.insw Instr.insd l offset src base length) s =
      perform (byLen Instr.insb Instr.insw Instr.insd l offset src base length).length
        (insBody l offset src base length) s
  | .b => exec_insb offset src base length s
  | .w => exec_insw offset src base length s
  | .d => exec_insd offset src base length s

theorem exec_inss (src base : Gen) (offset : BitVec 3) (lengthM1 : BitVec 5) (s : State) : ∀ l,
    exec (byLen Instr.inssb Instr.inssw Instr.inssd l src base offset lengthM1) s =
      perform (byLen Instr.inssb Instr.inssw Instr.inssd l src base offset lengthM1).length
        (insertBody l (return offset.toNat) (lengthM1.toNat + 1) src base) s
  | .b => exec_inssb src base offset lengthM1 s
  | .w => exec_inssw src base offset lengthM1 s
  | .d => exec_inssd src base offset lengthM1 s

/-- Settles O36: INSi and INSSi perform `insertBody` with the offset and the length of their operands; reading the
source leaves INSi's offset register as it was. -/
theorem insertedFields : Obligations.InsertedFields := by
  intro l src base s s1 v hv
  refine ⟨fun offset length h1 h32 => ?_, fun offset lengthM1 => ?_⟩
  · have offsetRead := offsetOf_gives offset s1
    rw [(readOp_keeps hv).1.regs offset List.not_mem_nil] at offsetRead
    obtain ⟨x, low, written⟩ := insertBody_insertsFrom (base := base) (len := length.value.toNat) hv offsetRead
    exact insertsField_of (exec_ins offset src base length s l) hv
      ⟨x, low, fun w hw => gives_after (fieldLength_gives h1 h32 s) (written w hw)⟩
  · exact insertsField_of (exec_inss src base offset lengthM1 s l) hv (insertBody_insertsFrom hv (gives_return _ s1))

end Sys2Proof.Machine
end

section
/-! MOVS, CMPS and SKPS (R312 to R320): one pass, in its two parts. The first reads the element of String 1; the second
tests it, uses it and moves to the next. -/

namespace Sys2Proof.Machine

variable {s t u w : State} {kind : StrKind} {o : StrOpts} {n : Nat} {translated : Bool} {v m r4' : QWord} {b : Int}
  {i : Instr} {body : Act Next}

/-! ### The preset of CMPS (R317) -/

@[simp] theorem State.presetFor_reg (s : State) (kind : StrKind) (r : Reg) : (s.presetFor kind).reg r = s.reg r := by
  cases kind <;> rfl

/-- The flags that are preset. -/
def presetFlags (kind : StrKind) : List Nat := if kind = .cmps then [bitZ, bitN, bitL] else []

theorem presetFor_keeps (s : State) (kind : StrKind) :
    Keeps { flags := presetFlags kind } s (s.presetFor kind) ∧ (s.presetFor kind).pc = s.pc := by
  cases kind with
  | cmps => exact ⟨setZNL_keeps s _ _ _, rfl⟩
  | movs => exact ⟨Keeps.refl _ s, rfl⟩
  | skps => exact ⟨Keeps.refl _ s, rfl⟩

theorem gives_preset {f : Unit → Act Next} {x : Next} (h : Gives (f ()) (s.presetFor kind) x w) :
    Gives (if kind = .cmps then (modify fun s => s.setZNL true false false) >>= f else f ()) s x w := by
  cases kind with
  | cmps => exact gives_after (gives_change _ s) h
  | movs => exact h
  | skps => exact h

/-! ### The end of a pass (R312, steps 4 to 7) -/

/-- Step 4 is the test that the obligations state. -/
theorem stringMatch_iff (ho : o.matching ≠ .reserved) :
    stringMatch o.matching n v r4' = true ↔ stringEnds o n v r4' := by
  unfold stringEnds
  cases h : o.matching <;> simp_all [stringMatch]

/-- What follows the reading of an element `v`: `r4'` is the match value and `b` the address of the String 2 element. -/
def useElement (kind : StrKind) (n : Nat) (o : StrOpts) (r4' : QWord) (b : Int) (v : QWord) : Act Next := do
  if stringMatch o.matching n v r4' then
    modify fun s => s.setFlag bitF true
    return .seq
  match kind with
  | .cmps => do
    let m ← memRead b n
    modify fun s => s.compare n v m
    if uval n v ≠ uval n m then
      modify fun s => s.setFlag bitF false
      return .seq
  | .movs => memWrite b n v
  | .skps => pure ()
  modify fun s => s.nextElement kind n o.backward
  return .again

theorem useElement_ends (ho : o.matching ≠ .reserved) (he : stringEnds o n v r4') :
    Gives (useElement kind n o r4' b v) t .seq (t.setFlag bitF true) := by
  unfold useElement
  rw [if_pos ((stringMatch_iff ho).mpr he)]
  exact gives_after (gives_change _ _) (gives_return _ _)

theorem useElement_movs (ho : o.matching ≠ .reserved) (he : ¬stringEnds o n v r4') (hw : Gives (memWrite b n v) t () w) :
    Gives (useElement .movs n o r4' b v) t .again (w.nextElement .movs n o.backward) := by
  unfold useElement
  rw [if_neg (he ∘ (stringMatch_iff ho).mp)]
  exact gives_after hw <| gives_after (gives_change _ _) (gives_return _ _)

theorem useElement_skps (ho : o.matching ≠ .reserved) (he : ¬stringEnds o n v r4') :
    Gives (useElement .skps n o r4' b v) t .again (t.nextElement .skps n o.backward) := by
  unfold useElement
  rw [if_neg (he ∘ (stringMatch_iff ho).mp)]
  exact gives_after (gives_change _ _) (gives_return _ _)

theorem useElement_unequal (ho : o.matching ≠ .reserved) (he : ¬stringEnds o n v r4') (hm : Gives (memRead b n) t m u)
    (hne : uval n v ≠ uval n m) :
    Gives (useElement .cmps n o r4' b v) t .seq ((u.compare n v m).setFlag bitF false) := by
  unfold useElement
  rw [if_neg (he ∘ (stringMatch_iff ho).mp)]
  refine gives_after hm <| gives_after (gives_change _ _) ?_
  rw [if_pos hne]
  exact gives_after (gives_change _ _) (gives_return _ _)

theorem useElement_equal (ho : o.matching ≠ .reserved) (he : ¬stringEnds o n v r4') (hm : Gives (memRead b n) t m u)
    (heq : uval n v = uval n m) :
    Gives (useElement .cmps n o r4' b v) t .again ((u.compare n v m).nextElement .cmps n o.backward) := by
  unfold useElement
  rw [if_neg (he ∘ (stringMatch_iff ho).mp)]
  refine gives_after hm <| gives_after (gives_change _ _) ?_
  rw [if_neg (not_not.mpr heq)]
  exact gives_after (gives_change _ _) (gives_return _ _)

/-! ### A pass -/

/-- A pass with count 0 (step 2 of R312). -/
theorem stringPass_empty (ho : o.matching ≠ .reserved) (h0 : s.reg r0 = 0) :
    Gives (stringPass kind n translated o 0) s .seq ((s.presetFor kind).setFlag bitF false) := by
  refine gives_after (mustBeZero_passed 6 s) <| gives_after (ensure_passed (bne_iff_ne.mpr ho) _ s) <|
    gives_after (gives_state s) <| gives_after (ensure_passed (by rw [h0]; rfl) _ s) <| gives_preset ?_
  rw [if_pos h0]
  exact gives_after (gives_change _ _) (gives_return _ _)

/-- A pass with elements left: its tests, the preset and the reading of the element, then `useElement`. -/
theorem stringPass_element {x : Next} (ho : o.matching ≠ .reserved) (h0 : 0 < (s.reg r0).toInt)
    (hv : ReadsElement n translated (s.presetFor kind) v t)
    (hu : Gives (useElement kind n o ((s.reg r4).setWidth 64) (s.reg r2).toNat v) t x w) :
    Gives (stringPass kind n translated o 0) s x w := by
  have hne : s.reg r0 ≠ 0 := fun e => by simp [e] at h0
  refine gives_after (mustBeZero_passed 6 s) <| gives_after (ensure_passed (bne_iff_ne.mpr ho) _ s) <|
    gives_after (gives_state s) <| gives_after (ensure_passed (decide_eq_true h0.le) _ s) <| gives_preset ?_
  rw [if_neg hne]
  unfold ReadsElement at hv
  simp only [State.presetFor_reg] at hv
  cases translated with
  | false => exact gives_after hv <| gives_after (gives_return v t) hu
  | true =>
    obtain ⟨e, u, he, hv⟩ := hv
    exact gives_after he <| gives_after hv hu

/-! ### The frames -/

theorem readsElement_reads (h : ReadsElement n translated s v t) : Reads s t := by
  cases translated with
  | false => exact memRead_reads h
  | true =>
    obtain ⟨e, u, he, hv⟩ := h
    exact (memRead_reads he).trans (memRead_reads hv)

/-- Up to the use of the element only the preset flags have changed. -/
theorem element_keeps (h : ReadsElement n translated (s.presetFor kind) v t) :
    Keeps { flags := presetFlags kind } s t ∧ t.pc = s.pc := by
  obtain ⟨keeps, pc⟩ := presetFor_keeps s kind
  have reads := readsElement_reads h
  refine ⟨(keeps.trans (reads.keeps {}) ?_).mono ?_ ?_ ?_ ?_ ?_, reads.pc.trans pc⟩
  · cases kind <;> decide
  all_goals simp

/-- A comparison writes the flags that were preset. -/
theorem Keeps.compared (h : Keeps { flags := presetFlags .cmps } s t) (hr : Reads t u) (z n l : Bool) :
    Keeps { flags := presetFlags .cmps } s (u.setZNL z n l) :=
  ((h.trans (hr.keeps {}) (by decide)).trans (setZNL_keeps u z n l) (by decide)).mono (by simp) (by simp) (by simp)
    (by simp [presetFlags]) (by simp)

/-- Writing F at the end of the instruction. -/
theorem Keeps.stringEnd (h : Keeps { flags := presetFlags kind } s t) (b : Bool) :
    Keeps { flags := stringFlags kind } s (t.setFlag bitF b) := by
  refine (h.trans (setFlag_keeps t bitF b (by decide) (by decide)) ?_).mono ?_ ?_ ?_ ?_ ?_
  · cases kind <;> decide
  case refine_5 => cases kind <;> decide
  all_goals simp

/-- The registers that move to the next element. -/
def movedRegs (kind : StrKind) : List Reg := if kind = .skps then [r0, r1] else [r0, r1, r2]

theorem nextPass_keeps (s : State) (kind : StrKind) (o : StrOpts) (n : Nat) :
    Keeps { regs := movedRegs kind } s (s.nextPass kind o n) := by
  have ends (t : State) (x : DWord) : Keeps { regs := [r0] } t { t.setReg r0 x with activity := .inString } :=
    { setReg_keeps t r0 x with }
  have first := setReg_keeps s r1 (moved o n (s.reg r1))
  have both := first.trans (setReg_keeps _ r2 (moved o n (s.reg r2))) (by simp)
  cases kind with
  | skps =>
    exact (first.trans (ends _ (s.reg r0 - 1)) (by simp)).mono (by decide) (by simp) (by simp) (by simp) (by simp)
  | _ =>
    exact (both.trans (ends _ (s.reg r0 - 1)) (by simp)).mono (by decide) (by simp) (by simp) (by simp) (by simp)

/-- The model's last steps of a pass, with the registers as they were when it moved the first of them. -/
theorem nextElement_eq (s : State) (kind : StrKind) (o : StrOpts) (n : Nat) :
    { s.nextElement kind n o.backward with activity := .inString } = s.nextPass kind o n := by
  have r21 (x : DWord) : (s.setReg r1 x).reg r2 = s.reg r2 := State.reg_setReg_ne _ _ _ _ (by decide)
  have r01 (x : DWord) : (s.setReg r1 x).reg r0 = s.reg r0 := State.reg_setReg_ne _ _ _ _ (by decide)
  have r02 (t : State) (x : DWord) : (t.setReg r2 x).reg r0 = t.reg r0 := State.reg_setReg_ne _ _ _ _ (by decide)
  cases kind <;> simp [State.nextElement, State.nextPass, moved, r21, r01, r02]

/-- An instruction whose pass is not the last. -/
theorem exec_nextPass (hx : exec i s = perform i.length body s)
    (hb : Gives body s .again (w.nextElement kind n o.backward)) : exec i s = .next (w.nextPass kind o n) := by
  rw [hx, perform_of_gives hb, ← nextElement_eq]
  rfl

theorem compare_eq (s : State) (n : Nat) (a b : QWord) : s.compare n a b =
    s.setZNL (decide (uval n a = uval n b)) (decide (sval n b < sval n a)) (decide (uval n b < uval n a)) := by
  rw [State.compare, beq_eq_decide]

/-! ### The instructions -/

theorem stringInstruction_of {instr : StrOpts → BitVec 6 → Instr}
    (hi : ∀ o x s, exec (instr o x) s = perform (instr o x).length (stringPass kind n translated o x) s) :
    StringInstruction kind n translated instr := by
  intro o s ho p i flags
  have performs : exec i s = perform i.length (stringPass kind n translated o 0) s := hi o 0 s
  refine ⟨fun h0 hf => ?_, fun h0 v t hv => ?_⟩
  · obtain ⟨keeps, pc⟩ := presetFor_keeps s kind
    exact completes_of performs (stringPass_empty ho h0) pc hf (keeps.stringEnd false)
  obtain ⟨keeps, pc⟩ := element_keeps hv
  refine ⟨fun he hf => ?_, fun he => ⟨?_, ?_, ?_⟩⟩
  · exact completes_of performs (stringPass_element ho h0 hv (useElement_ends ho he)) pc hf (keeps.stringEnd true)
  · rintro rfl w hw
    refine ⟨exec_nextPass performs (stringPass_element ho h0 hv (useElement_movs ho he hw)), ?_⟩
    exact ((keeps.trans (memWrite_stores hw).keeps (by decide)).trans (nextPass_keeps w .movs o n)
      (by simp [presetFlags])).mono
      (by simp [movedRegs]) (by simp) (by simp) (by simp [presetFlags]) (by simp)
  · rintro rfl
    refine ⟨exec_nextPass performs (stringPass_element ho h0 hv (useElement_skps ho he)), ?_⟩
    exact (keeps.trans (nextPass_keeps t .skps o n) (by decide)).mono
      (by simp [movedRegs]) (by simp) (by simp) (by simp [presetFlags]) (by simp)
  · rintro rfl m u hm c
    have compared : c = u.compare n v m := (compare_eq u n v m).symm
    have kept : Keeps { flags := presetFlags .cmps } s c := keeps.compared (memRead_reads hm) _ _ _
    refine ⟨fun hne hf => ?_, fun heq => ?_⟩
    · have ends := stringPass_element ho h0 hv (useElement_unequal ho he hm hne)
      rw [← compared] at ends
      exact completes_of performs ends ((memRead_reads hm).pc.trans pc) hf (kept.stringEnd false)
    · have goesOn := stringPass_element ho h0 hv (useElement_equal ho he hm heq)
      rw [← compared] at goesOn
      refine ⟨exec_nextPass performs goesOn, ?_⟩
      exact (kept.trans (nextPass_keeps c .cmps o n) (by decide)).mono
        (by simp [movedRegs]) (by simp) (by simp) (by simp [presetFlags, flags, stringFlags]) (by simp)

/-- Settles O37: each of the twelve instructions performs `stringPass`, whose ends `stringInstruction_of` states. -/
theorem stringInstructions : Obligations.StringInstructions :=
  ⟨stringInstruction_of exec_movsb, stringInstruction_of exec_movsw, stringInstruction_of exec_movsd,
    stringInstruction_of exec_movst, stringInstruction_of exec_cmpsb, stringInstruction_of exec_cmpsw,
    stringInstruction_of exec_cmpsd, stringInstruction_of exec_cmpst, stringInstruction_of exec_skpsb,
    stringInstruction_of exec_skpsw, stringInstruction_of exec_skpsd, stringInstruction_of exec_skpst⟩

end Sys2Proof.Machine
end

section
/-! Blocks of elements in plain memory (R171, R326, R327): the addresses and the bytes of an element, and the number of
elements. -/

namespace Sys2Proof.Machine

variable {s t u w : State} {l : Len} {length : Disp} {n k j a b x : Nat} {mem : List Host.Cell} {v : QWord}

/-! ### Elements -/

/-- The addresses of `n` bytes from an address on. -/
def block (a n : Nat) : List Nat := (List.range n).map fun k => a + k

theorem mem_block : x ∈ block a n ↔ a ≤ x ∧ x < a + n := by
  simp only [block, List.mem_map, List.mem_range]
  constructor
  · rintro ⟨k, hk, rfl⟩
    omega
  · rintro ⟨h1, h2⟩
    exact ⟨x - a, by omega, by omega⟩

/-- Element `k` of the elements of `n` bytes that stand from an address on. -/
def element (mem : List Host.Cell) (a n k : Nat) : QWord := BitVec.ofNat 64 (load mem (a + n * k) n)

theorem element_succ (mem : List Host.Cell) (a n k : Nat) : element mem a n (k + 1) = element mem (a + n) n k := by
  rw [element, element, Nat.mul_succ, ← Nat.add_assoc, Nat.add_right_comm]

theorem element_toNat (hn : n ≤ 8) : (element mem a n k).toNat = load mem (a + n * k) n := by
  have small : 256 ^ n ≤ 2 ^ 64 := (Nat.pow_le_pow_right (by decide) hn).trans_eq (by norm_num)
  exact BitVec.toNat_ofNat .. |>.trans (Nat.mod_eq_of_lt ((load_lt ..).trans_le small))

/-- An element is its own low bytes, so elements are equal where their unsigned values are. -/
theorem uval_element_inj (hn : n ≤ 8) :
    uval n (element mem a n k) = uval n (element mem b n j) ↔ element mem a n k = element mem b n j := by
  have low (c i : Nat) : uval n (element mem c n i) = (element mem c n i).toNat := by
    rw [uval, element_toNat hn, pow_mul]
    exact Nat.mod_eq_of_lt (load_lt ..)
  rw [low, low, BitVec.toNat_inj]

/-- The bytes of a number loaded are those in memory (R84). -/
theorem load_byte (h : j < n) : BitVec.ofNat 8 (load mem a n / 256 ^ j) = Memory.read mem (a + j) := by
  induction n generalizing a j with
  | zero => omega
  | succ n ih =>
    have byte := (Memory.read mem a).isLt
    cases j with
    | zero =>
      apply BitVec.eq_of_toNat_eq
      simp only [load, pow_zero, Nat.div_one, BitVec.toNat_ofNat, Nat.add_zero]
      omega
    | succ j =>
      have above : load mem a (n + 1) / 256 = load mem (a + 1) n := by
        simp only [load]
        omega
      rw [pow_succ', ← Nat.div_div_eq_div_mul, above, ih (by omega), Nat.add_right_comm, Nat.add_assoc]

/-! ### Accesses -/

theorem memRead_element (hs : s.plain) (hn : n ≤ 8) (ha : a + n ≤ 2 ^ 24) :
    Gives (memRead a n) s (element s.mem a n 0) s := memRead_nat hs a n hn ha

/-- A write of plain memory touches the bytes of the element. -/
theorem memWrite_element (hs : s.plain) (hb : b + n ≤ 2 ^ 24) (v : QWord) :
    Gives (memWrite b n v) s () (s.store b n v.toNat) ∧ Keeps { cells := block b n } s (s.store b n v.toNat) ∧
      (s.store b n v.toNat).pc = s.pc := by
  have written : Gives (memWrite b n v) s () (s.store b n v.toNat) :=
    memWrite_plain hs b n v (by rw [inSpace_iff]; omega)
  have stores := memWrite_stores written
  rw [hs.cellsAt] at stores
  exact ⟨written, stores.keeps, stores.pc⟩

/-- Memory stays plain while CFG and the memory-management registers are kept. -/
theorem Keeps.plain {z : Touched} (h : Keeps z s t) (hz : z.special = []) (hs : s.plain) : t.plain :=
  hs.of_eq (h.cfg (by simp [hz])) h.platform (h.bcnt (by simp [hz]) (by simp [hz]) hs.1)

theorem Reads.mem_eq (h : Reads s t) : t.mem = s.mem := by rw [h.eq]

/-- Two blocks addressed, one after the other. -/
theorem addressed_reads {block1 block2 : Gen} {s1 s2 : State} {a b : Int} (h1 : Gives (addrOp block1) s a s1)
    (h2 : Gives (addrOp block2) s1 b s2) : Reads s s2 ∧ (∃ m : Nat, a = m) ∧ ∃ m : Nat, b = m := by
  obtain ⟨reads1, a0, -⟩ := addrOp_reads h1
  obtain ⟨reads2, b0, -⟩ := addrOp_reads h2
  exact ⟨reads1.trans reads2, Int.eq_ofNat_of_zero_le a0, Int.eq_ofNat_of_zero_le b0⟩

/-! ### The number of elements -/

theorem blockCount_passed (h : blockLengthOk l length = true) (s : State) :
    Gives (blockCount l length) s (length.value.toNat / l.bytes + 1) s :=
  gives_after (ensure_passed h _ s) (gives_return _ s)

/-- The elements of a block fill it. -/
theorem blockCount_bytes (h : blockLengthOk l length = true) :
    l.bytes * (length.value.toNat / l.bytes + 1) = length.value.toNat + l.bytes := by
  simp only [blockLengthOk, Bool.and_eq_true, decide_eq_true_eq, beq_iff_eq] at h
  obtain ⟨⟨nonneg, -⟩, whole⟩ := h
  have whole : length.value.toNat % l.bytes = 0 := by
    zify
    rwa [Int.toNat_of_nonneg nonneg]
  rw [Nat.mul_succ, Nat.mul_div_cancel' (Nat.dvd_of_mod_eq_zero whole)]

theorem bytes_le (l : Len) : l.bytes ≤ 8 := by cases l <;> decide

end Sys2Proof.Machine
end

section
/-! MOVMi (R326): the elements copied, by induction on their number. -/

namespace Sys2Proof.Machine

variable {s t u w : State} {l : Len} {block1 block2 : Gen} {length : Disp} {n k a b : Nat} {overlap : Bool}

/-- In `w` a block has the bytes that another has in `s`. -/
def Copied (s w : State) (a b n : Nat) : Prop :=
  ∀ j, j < n → Memory.read w.mem (b + j) = Memory.read s.mem (a + j)

/-- The first element copied: what it leaves, and that the rest goes on from there. -/
theorem copyBlock_first (hs : s.plain) (hn : n ≤ 8) (ha : a + n ≤ 2 ^ 24) (hb : b + n ≤ 2 ^ 24) (overlap : Bool)
    (k : Nat) : ∃ u, (∀ w, Gives (copyBlock n overlap k (a + n) (b + n)) u () w →
        Gives (copyBlock n overlap (k + 1) a b) s () w) ∧
      Keeps { cells := block b n } s u ∧ u.pc = s.pc ∧ (overlap = false → Copied s u a b n) := by
  have read := memRead_element hs hn ha
  cases overlap with
  | true =>
    have drawn : Gives draw s _ _ := (gives_draw ..).mpr ⟨rfl, rfl⟩
    obtain ⟨written, keeps, pc⟩ := memWrite_element (s := { s with draws := s.draws + 1 })
      (hs.of_eq rfl rfl rfl) hb (Config.freeValue s.draws)
    exact ⟨_, fun w hw => gives_after read <| gives_after drawn <| gives_after written hw,
      (draw_keeps s {}).trans keeps (by simp), pc, nofun⟩
  | false =>
    obtain ⟨written, keeps, pc⟩ := memWrite_element hs hb (element s.mem a n 0)
    refine ⟨_, fun w hw => gives_after read <| gives_after (gives_return _ s) <| gives_after written hw, keeps, pc,
      fun _ j hj => ?_⟩
    rw [State.read_store, if_pos (by omega), Nat.add_sub_cancel_left, element_toNat hn, load_byte hj]
    rfl

/-- A copied element stays while the rest is copied, and the rest is copied from bytes it has left alone, where the
blocks do not overlap. -/
theorem Copied.append {m : Nat} (first : Copied s u a b n) (kept1 : Keeps { cells := block b n } s u)
    (rest : Copied u w (a + n) (b + n) m) (kept2 : Keeps { cells := block (b + n) m } u w)
    (apart : n + m ≤ ((a : Int) - b).natAbs) : Copied s w a b (n + m) := by
  intro j hj
  by_cases inFirst : j < n
  · rw [kept2.cells _ fun h => by have := mem_block.mp h; omega, first j inFirst]
  · have copied := rest (j - n) (by omega)
    rw [show b + n + (j - n) = b + j by omega, show a + n + (j - n) = a + j by omega] at copied
    rw [copied, kept1.cells _ fun h => by have := mem_block.mp h; omega]

theorem block_append_subset {m : Nat} : ∀ x ∈ block b n ++ block (b + n) m, x ∈ block b (n + m) := by
  intro x hx
  rw [List.mem_append, mem_block, mem_block] at hx
  rw [mem_block]
  omega

theorem copyBlock_gives (hs : s.plain) (hn : n ≤ 8) (ha : a + n * k ≤ 2 ^ 24) (hb : b + n * k ≤ 2 ^ 24) :
    ∃ w, Gives (copyBlock n overlap k a b) s () w ∧ Keeps { cells := block b (n * k) } s w ∧ w.pc = s.pc ∧
      (overlap = false → n * k ≤ ((a : Int) - b).natAbs → Copied s w a b (n * k)) := by
  induction k generalizing s a b with
  | zero => exact ⟨s, gives_return _ s, Keeps.refl _ s, rfl, fun _ _ j hj => absurd hj (Nat.not_lt_zero j)⟩
  | succ k ih =>
    rw [Nat.mul_succ, Nat.add_comm (n * k)] at *
    obtain ⟨u, goesOn, keeps1, pc1, first⟩ := copyBlock_first hs hn (a := a) (b := b) (by omega) (by omega) overlap k
    obtain ⟨w, given, keeps2, pc2, rest⟩ := ih (keeps1.plain rfl hs) (a := a + n) (b := b + n) (by omega) (by omega)
    push_cast at given
    refine ⟨w, goesOn w given, (keeps1.trans keeps2 (by simp)).mono ?_ ?_ block_append_subset ?_ ?_, pc2.trans pc1,
      fun distinct apart => ?_⟩
    case refine_5 => exact (first distinct).append keeps1 (rest distinct (by omega)) keeps2 apart
    all_goals simp

theorem exec_movm (block1 block2 : Gen) (length : Disp) (s : State) : ∀ l,
    exec (byLen Instr.movmb Instr.movmw Instr.movmd l block1 block2 length) s =
      perform (byLen Instr.movmb Instr.movmw Instr.movmd l block1 block2 length).length
        (movmBody l block1 block2 length) s
  | .b => exec_movmb block1 block2 length s
  | .w => exec_movmw block1 block2 length s
  | .d => exec_movmd block1 block2 length s

/-- Settles O38: the elements fill the block, and `copyBlock_gives` copies them where the blocks do not overlap. -/
theorem blockMove : Obligations.BlockMove := by
  intro l block1 block2 length s s1 s2 a b i n hs hl h1 h2 ha hb hf
  obtain ⟨reads, ⟨a, rfl⟩, b, rfl⟩ := addressed_reads h1 h2
  have filled : l.bytes * (length.value.toNat / l.bytes + 1) = n := blockCount_bytes hl
  obtain ⟨w, copies, keeps, pc, copied⟩ := copyBlock_gives ((reads.keeps {}).plain rfl hs) (bytes_le l) (a := a) (b := b)
    (k := length.value.toNat / l.bytes + 1) (overlap := decide (((a : Int) - b).natAbs < n)) (by omega) (by omega)
  rw [filled] at keeps copied
  have body : Gives (movmBody l block1 block2 length) s .seq w := by
    refine gives_after (blockCount_passed hl s) <| gives_after h1 <| gives_after h2 ?_
    rw [Nat.mul_comm _ l.bytes, filled]
    exact gives_after copies (gives_return _ w)
  refine ⟨w, completes_of (exec_movm block1 block2 length s l) body (pc.trans reads.pc) hf
    ((reads.keeps {}).trans keeps (by simp)), fun apart j hj => ?_⟩
  rw [← reads.mem_eq]
  exact copied (decide_eq_false (by omega)) apart j hj

end Sys2Proof.Machine
end

section
/-! CMPMi (R327): the elements compared, by induction on their number. -/

namespace Sys2Proof.Machine

variable {s : State} {l : Len} {block1 block2 : Gen} {length : Disp} {n k j a b : Nat}

/-- Equal first elements are passed over. -/
theorem compareBlock_next (hs : s.plain) (hn : n ≤ 8) (ha : a + n ≤ 2 ^ 24) (hb : b + n ≤ 2 ^ 24)
    (same : element s.mem a n 0 = element s.mem b n 0) {w : State}
    (rest : Gives (compareBlock n k (a + n) (b + n)) s () w) : Gives (compareBlock n (k + 1) a b) s () w := by
  refine gives_after (memRead_element hs hn ha) <| gives_after (memRead_element hs hn hb) ?_
  rw [if_neg (not_not.mpr ((uval_element_inj hn).mpr same))]
  exact rest

theorem compareBlock_equal (hs : s.plain) (hn : n ≤ 8) (ha : a + n * k ≤ 2 ^ 24) (hb : b + n * k ≤ 2 ^ 24)
    (same : ∀ i, i < k → element s.mem a n i = element s.mem b n i) : Gives (compareBlock n k a b) s () s := by
  induction k generalizing a b with
  | zero => exact gives_return _ s
  | succ k ih =>
    rw [Nat.mul_succ] at ha hb
    refine compareBlock_next hs hn (by omega) (by omega) (same 0 k.succ_pos) ?_
    have rest := ih (a := a + n) (b := b + n) (by omega) (by omega) fun i hi => by
      rw [← element_succ, ← element_succ]
      exact same (i + 1) (by omega)
    push_cast at rest
    exact rest

theorem compareBlock_unequal (hs : s.plain) (hn : n ≤ 8) (ha : a + n * k ≤ 2 ^ 24) (hb : b + n * k ≤ 2 ^ 24)
    (hj : j < k) (same : ∀ i, i < j → element s.mem a n i = element s.mem b n i)
    (differ : element s.mem a n j ≠ element s.mem b n j) :
    Gives (compareBlock n k a b) s () (s.compare n (element s.mem a n j) (element s.mem b n j)) := by
  induction k generalizing a b j with
  | zero => omega
  | succ k ih =>
    rw [Nat.mul_succ] at ha hb
    cases j with
    | zero =>
      refine gives_after (memRead_element hs hn (by omega)) <| gives_after (memRead_element hs hn (by omega)) ?_
      rw [if_pos ((uval_element_inj hn).not.mpr differ)]
      exact gives_change _ s
    | succ j =>
      refine compareBlock_next hs hn (by omega) (by omega) (same 0 j.succ_pos) ?_
      rw [element_succ, element_succ] at differ ⊢
      have rest := ih (a := a + n) (b := b + n) (by omega) (by omega) (by omega) (fun i hi => by
        rw [← element_succ, ← element_succ]
        exact same (i + 1) (by omega)) differ
      push_cast at rest
      exact rest

/-- The flags of a comparison replace those that were preset. -/
theorem setZNL_setZNL (s : State) (z n l z' n' l' : Bool) :
    (s.setZNL z n l).setZNL z' n' l' = s.setZNL z' n' l' := by
  have flags : putZNL (putZNL s.psr z n l) z' n' l' = putZNL s.psr z' n' l' := by
    apply BitVec.eq_of_getLsbD_eq
    intro j _
    simp only [putZNL, putBit_getLsbD _ bitZ _ _ (by decide), putBit_getLsbD _ bitN _ _ (by decide),
      putBit_getLsbD _ bitL _ _ (by decide)]
    split_ifs <;> rfl
  simp only [State.setZNL, flags]

theorem exec_cmpm (block1 block2 : Gen) (length : Disp) (s : State) : ∀ l,
    exec (byLen Instr.cmpmb Instr.cmpmw Instr.cmpmd l block1 block2 length) s =
      perform (byLen Instr.cmpmb Instr.cmpmw Instr.cmpmd l block1 block2 length).length
        (cmpmBody l block1 block2 length) s
  | .b => exec_cmpmb block1 block2 length s
  | .w => exec_cmpmw block1 block2 length s
  | .d => exec_cmpmd block1 block2 length s

/-- CMPMi ends with the flags that the comparison of its blocks leaves. -/
theorem cmpm_completes {s1 s2 : State} {x y : Int} {z m c : Bool} (hl : blockLengthOk l length = true)
    (h1 : Gives (addrOp block1) s x s1) (h2 : Gives (addrOp block2) s1 y s2)
    (hf : s.fits (byLen Instr.cmpmb Instr.cmpmw Instr.cmpmd l block1 block2 length))
    (compared : Gives (compareBlock l.bytes (length.value.toNat / l.bytes + 1) x y) (s2.setZNL true false false) ()
      (s2.setZNL z m c)) :
    Completes (byLen Instr.cmpmb Instr.cmpmw Instr.cmpmd l block1 block2 length) s (s2.setZNL z m c)
      { flags := [bitZ, bitN, bitL] } := by
  have reads := (addrOp_reads h1).1.trans (addrOp_reads h2).1
  have body : Gives (cmpmBody l block1 block2 length) s .seq (s2.setZNL z m c) :=
    gives_after (blockCount_passed hl s) <| gives_after h1 <| gives_after h2 <| gives_after (gives_change _ s2) <|
      gives_after compared (gives_return _ _)
  exact completes_of (exec_cmpm block1 block2 length s l) body reads.pc hf
    ((reads.keeps {}).trans (setZNL_keeps s2 z m c) (by simp))

/-- Settles O39: the elements fill the block, and the first unequal ones, if any, decide. -/
theorem blockCompare : Obligations.BlockCompare := by
  intro l block1 block2 length s s1 s2 a b i n x y hs hl h1 h2 ha hb hf
  obtain ⟨reads, ⟨a, rfl⟩, b, rfl⟩ := addressed_reads h1 h2
  have filled : l.bytes * (length.value.toNat / l.bytes + 1) = n := blockCount_bytes hl
  have plain : (s2.setZNL true false false).plain := ((reads.keeps {}).plain rfl hs).of_eq rfl rfl rfl
  have memory : (s2.setZNL true false false).mem = s.mem := reads.mem_eq
  refine ⟨fun same => ?_, fun k hk same differ => ?_⟩
  · refine cmpm_completes hl h1 h2 hf (compareBlock_equal plain (bytes_le l) (by omega) (by omega) fun j hj => ?_)
    rw [memory]
    exact same j (filled ▸ Nat.mul_lt_mul_of_pos_left hj (by cases l <;> decide))
  · have inBlock : k < length.value.toNat / l.bytes + 1 := Nat.lt_of_mul_lt_mul_left (filled ▸ hk)
    have unequal : element s.mem a l.bytes k ≠ element s.mem b l.bytes k := differ
    have decided := compareBlock_unequal plain (bytes_le l) (a := a) (b := b) (by omega) (by omega) inBlock
      (by rw [memory]; exact same) (by rw [memory]; exact unequal)
    rw [compare_eq, setZNL_setZNL, memory, decide_eq_false ((uval_element_inj (bytes_le l)).not.mpr unequal)] at decided
    exact cmpm_completes hl h1 h2 hf decided

end Sys2Proof.Machine
end

section
/-! CHECKi and INDEXi (R341, R342): what their bodies give, and what the operands and the results touch. -/

namespace Sys2Proof.Machine

variable {s s1 s2 s3 s4 t : State} {l : Len} {r : Reg} {bounds src length index : Gen} {base : Int}
  {upper lower v a b : QWord}

/-! ### The frames -/

/-- A register is set after a step that touches no register. -/
theorem Keeps.setReg {z : Touched} (h : Keeps z s t) (hr : z.regs = []) (hS : bitS ∉ z.flags) (r : Reg) (x : DWord) :
    Keeps { z with regs := [r] } s (t.setReg r x) :=
  (h.trans (setReg_keeps t r x) hS).mono (by simp [hr]) (by simp) (by simp) (by simp) (by simp)

/-- Drawing a free value adds nothing to what a step touches. -/
theorem Keeps.drawn {z : Touched} (h : Keeps z s t) (hS : bitS ∉ z.flags) :
    Keeps z s { t with draws := t.draws + 1 } :=
  (h.trans (draw_keeps t {}) hS).mono (by simp) (by simp) (by simp) (by simp) (by simp)

/-! ### CHECKi -/

section Check

variable (hb : Gives (addrOp bounds) s base s1) (hu : Gives (memRead base l.bytes) s1 upper s2)
  (hl : Gives (memRead (base + l.bytes) l.bytes) s2 lower s3) (hv : Gives (readInt l src) s3 v s4)
include hb hu hl hv

theorem checkBody_inside (inside : sval l.bytes lower ≤ sval l.bytes v ∧ sval l.bytes v ≤ sval l.bytes upper) :
    Gives (checkBody l r bounds src) s .seq
      ((s4.setFlag bitF false).setReg r (BitVec.ofInt 32 (sval l.bytes v - sval l.bytes lower))) := by
  refine gives_after hb <| gives_after hu <| gives_after hl <| gives_after hv ?_
  rw [if_pos inside]
  exact gives_after (gives_change _ s4) (gives_return _ _)

theorem checkBody_outside (outside : ¬(sval l.bytes lower ≤ sval l.bytes v ∧ sval l.bytes v ≤ sval l.bytes upper)) :
    Gives (checkBody l r bounds src) s .seq
      ((({ s4 with draws := s4.draws + 1 } : State).setFlag bitF true).setReg r
        ((Config.freeValue s4.draws).setWidth 32)) := by
  refine gives_after hb <| gives_after hu <| gives_after hl <| gives_after hv ?_
  rw [if_neg outside]
  exact gives_after ((gives_draw ..).mpr ⟨rfl, rfl⟩) <| gives_after (gives_change _ _) (gives_return _ _)

/-- The bounds are only read; the value may be popped. -/
theorem check_operands_keeps : Keeps { special := movesSp src } s s4 ∧ s4.pc = s.pc := by
  have reads : Reads s s3 := (addrOp_reads hb).1.trans <| (memRead_reads hu).trans (memRead_reads hl)
  obtain ⟨keeps, pc⟩ := readOp_keeps hv
  exact ⟨(reads.keeps {}).trans keeps (by simp), pc.trans reads.pc⟩

end Check

theorem exec_check (r : Reg) (bounds src : Gen) (s : State) : ∀ l,
    exec (byLen Instr.checkb Instr.checkw Instr.checkd l r bounds src) s =
      perform (byLen Instr.checkb Instr.checkw Instr.checkd l r bounds src).length (checkBody l r bounds src) s
  | .b => exec_checkb r bounds src s
  | .w => exec_checkw r bounds src s
  | .d => exec_checkd r bounds src s

/-! ### INDEXi -/

/-- The register is the one before the instruction: reading the operands does not change it. -/
theorem indexBody_gives (ha : Gives (readInt l length) s a s1) (hb : Gives (readInt l index) s1 b s2) :
    Gives (indexBody l r length index) s .seq
      (s2.setReg r (BitVec.ofNat 32 ((s.reg r).toNat * (uval l.bytes a + 1) + uval l.bytes b))) := by
  have same : s2.reg r = s.reg r :=
    ((readOp_keeps hb).1.regs r List.not_mem_nil).trans ((readOp_keeps ha).1.regs r List.not_mem_nil)
  rw [← same]
  exact gives_after ha <| gives_after hb <| gives_after (gives_change _ s2) (gives_return _ _)

theorem exec_index (r : Reg) (length index : Gen) (s : State) : ∀ l,
    exec (byLen Instr.indexb Instr.indexw Instr.indexd l r length index) s =
      perform (byLen Instr.indexb Instr.indexw Instr.indexd l r length index).length (indexBody l r length index) s
  | .b => exec_indexb r length index s
  | .w => exec_indexw r length index s
  | .d => exec_indexd r length index s

/-- Settles O40: the operands move at most the stack pointer, and the rest is F and the register that the bodies set. -/
theorem arrayInstructions : Obligations.ArrayInstructions := by
  refine ⟨?_, ?_⟩
  · intro l r bounds src s s1 s2 s3 s4 base upper lower v i touched x hb hu hl hv hf
    obtain ⟨keeps, pc⟩ := check_operands_keeps hb hu hl hv
    refine ⟨fun above below => ?_, fun outside => ⟨(Config.freeValue s4.draws).setWidth 32, ?_⟩⟩
    · exact completes_of (exec_check r bounds src s l) (checkBody_inside hb hu hl hv ⟨above, below⟩) pc hf
        ((keeps.setF rfl false).setReg rfl (by simp) r _)
    · exact completes_of (exec_check r bounds src s l) (checkBody_outside hb hu hl hv (by omega)) pc hf
        (((keeps.drawn List.not_mem_nil).setF rfl true).setReg rfl (by simp) r _)
  · intro l r length index s s1 s2 a b i ha hb hf
    obtain ⟨keeps1, pc1⟩ := readOp_keeps ha
    obtain ⟨keeps2, pc2⟩ := readOp_keeps hb
    have keeps := keeps1.trans keeps2 List.not_mem_nil
    exact completes_of (exec_index r length index s l) (indexBody_gives ha hb) (pc2.trans pc1) hf
      (keeps.setReg rfl List.not_mem_nil r _)

end Sys2Proof.Machine
end

section
/-! BPT, SVC, FLAG (R363 to R365), and the instructions that User Mode may not use (R515, R516): each of them performs a
body that raises its trap before it does anything else. -/

namespace Sys2Proof.Machine

variable {s : State} {i : Instr} {code : BitVec 4} {l : Len}

/-! ### Privilege -/

/-- A code that names PSR or INTBASE (R175) selects neither before the test of privilege. -/
theorem selectProcreg_raises_ill (h : procregOf code = some .psr ∨ procregOf code = some .intbase)
    (hU : s.flag bitU = true) : Abandons (selectProcreg code l) s (.trap .ill) s := by
  have raised := privileged_raises hU
  unfold selectProcreg
  rcases h with hp | hp
  · rw [hp]
    exact abandons_first raised
  · rw [hp]
    exact abandons_first raised

/-- The codes of LPRi and SPRi that are privileged (R515). -/
theorem procregOf_privileged : (code = 0b1101 || code = 0b1110) = true →
    procregOf code = some .psr ∨ procregOf code = some .intbase := by
  revert code
  decide

theorem needsMmu_raises_ill (hU : s.flag bitU = true) : Abandons needsMmu s (.trap .ill) s :=
  abandons_first (privileged_raises hU)

/-- In User Mode a privileged instruction raises Trap(ILL) first (R516). -/
theorem exec_of_isPrivileged (h : isPrivileged i = true) : ∃ n body,
    (∀ s, s.flag bitU = true → Abandons body s (.trap .ill) s) ∧ ∀ s, exec i s = perform n body s := by
  cases i
  case lmr | smr | rdval | wrval =>
    exact ⟨_, _, fun _ hU => abandons_first (needsMmu_raises_ill hU), fun _ => rfl⟩
  case lprb | lprw | lprd | sprb | sprw | sprd =>
    exact ⟨_, _, fun _ hU => abandons_first (selectProcreg_raises_ill (procregOf_privileged h) hU), fun _ => rfl⟩
  case movsub | movsuw | movsud | movusb | movusw | movusd | setcfg | bicpsrw | bispsrw | rett | reti =>
    exact ⟨_, _, fun _ hU => abandons_first (privileged_raises hU), fun _ => rfl⟩
  all_goals exact absurd h Bool.false_ne_true

/-! ### FLAG -/

theorem flagBody_raises (h : s.flag bitF = true) : Abandons flagBody s (.trap .flg) s :=
  test_abandons (c := fun s => s.flag bitF) h (abandons_first (raises _))

theorem flagBody_passes (h : s.flag bitF = false) : Gives flagBody s .seq s :=
  test_holds (c := fun s => s.flag bitF) h (gives_return _ s)

/-- Settles O15: each trap is raised in the state in which the instruction began. -/
theorem trapsOfInstructions : Obligations.TrapsOfInstructions := by
  refine ⟨fun i s hi hU hc => ?_, fun s => exec_trapped (by decide) (exec_bpt s) (raises _),
    fun s => exec_trapped (by decide) (exec_svc s) (raises _), rfl, rfl, rfl,
    fun s hF => exec_trapped (by decide) (exec_flag s) (flagBody_raises hF),
    fun s hF hf => completes_of (exec_flag s) (flagBody_passes hF) rfl hf (Keeps.refl _ s)⟩
  obtain ⟨n, body, hb, he⟩ := exec_of_isPrivileged hi
  exact exec_trapped (by decide) (he s) (hb s hU) hc

end Sys2Proof.Machine
end

section
/-! Bcond and BR (R350, R352, R353): the condition on the PSR, and the branch. -/

namespace Sys2Proof.Machine

variable {s w : State} {i : Instr} {body : Act Next} {n : Nat} {a : Int} {d : Disp} {code : BitVec 4}

/-- An instruction whose body gives a transfer of control to an address of the space (R28). -/
theorem exec_jumped_nat {k : Nat} (he : exec i s = perform n body s) (hb : Gives body s (.jump k) w) (hk : k < 2 ^ 24) :
    exec i s = .next (w.jumped k) := by
  rw [he, perform_of_gives hb]
  exact finish_jump hk

theorem exec_jumped (he : exec i s = perform n body s) (hb : Gives body s (.jump a) w) (h0 : 0 ≤ a) (h1 : a < 2 ^ 24) :
    exec i s = .next (w.jumped a.toNat) := by
  lift a to Nat using h0
  exact exec_jumped_nat he hb (by exact_mod_cast h1)

theorem branchBody_taken (hc : condition s.psr code = true) (hd : d.ok = true) :
    Gives (branchBody code d) s (.jump (s.pc.toNat + d.value)) s := by
  refine gives_after (gives_state s) ?_
  rw [if_pos hc]
  exact gives_after (branchTarget_gives.mpr ⟨hd, rfl, rfl⟩) (gives_return _ s)

theorem branchBody_notTaken (hc : condition s.psr code = false) (d : Disp) : Gives (branchBody code d) s .seq s := by
  refine gives_after (gives_state s) ?_
  rw [if_neg (by simp [hc])]
  exact gives_return _ s

/-- An instruction that performs `branchBody` with the code of a condition. -/
theorem branches_of {instr : Disp → Instr} {cond : State → Bool}
    (he : ∀ d s, exec (instr d) s = perform (instr d).length (branchBody code d) s)
    (hc : ∀ s : State, condition s.psr code = cond s) : Branches instr cond := fun d s =>
  ⟨fun taken hd => exec_jumped (he d s) (branchBody_taken ((hc s).trans taken) hd), fun notTaken hf =>
    completes_of (he d s) (branchBody_notTaken ((hc s).trans notTaken) d) rfl hf (Keeps.refl _ s)⟩

/-- Settles O42: each instruction performs `branchBody` with its condition's code, whose formula is that of R174. -/
theorem conditionalBranches : Obligations.ConditionalBranches :=
  ⟨branches_of exec_beq fun _ => rfl, branches_of exec_bne fun _ => rfl, branches_of exec_bcs fun _ => rfl,
    branches_of exec_bcc fun _ => rfl, branches_of exec_bhi fun _ => rfl, branches_of exec_bls fun _ => rfl,
    branches_of exec_bgt fun _ => rfl, branches_of exec_ble fun _ => rfl, branches_of exec_bfs fun _ => rfl,
    branches_of exec_bfc fun _ => rfl, branches_of exec_blo fun _ => neither_eq _ _,
    branches_of exec_bhs fun _ => Bool.or_comm _ _, branches_of exec_blt fun _ => neither_eq _ _,
    branches_of exec_bge fun _ => Bool.or_comm _ _, branches_of exec_br fun _ => rfl,
    branches_of exec_bcond1111 fun _ => rfl⟩

end Sys2Proof.Machine
end

section
/-! JUMP, CASEi and ACBi (R351, R354, R355): what their bodies give. -/

namespace Sys2Proof.Machine

variable {s s1 w : State} {dest : Gen} {index : Gen} {d : Disp} {l : Len} {q : BitVec 4} {v b : QWord} {x : Loc}
  {a : Int}

theorem jumpBody_gives (h : Gives (addrOp dest) s a s1) : Gives (jumpBody dest) s (.jump a) s1 :=
  gives_after h (gives_return _ s1)

/-! ### CASEi -/

/-- The operand is added to PC, which reading it leaves alone. -/
theorem caseBody_gives (h : Gives (readInt l index) s v s1) :
    Gives (caseBody l index) s (.jump (s.pc.toNat + sval l.bytes v)) s1 := by
  rw [← (readOp_keeps h).2]
  exact gives_after h <| gives_after (gives_state s1) (gives_return _ s1)

theorem exec_case (index : Gen) (s : State) : ∀ l,
    exec (byLen Instr.caseb Instr.casew Instr.cased l index) s =
      perform (byLen Instr.caseb Instr.casew Instr.cased l index).length (caseBody l index) s
  | .b => exec_caseb index s
  | .w => exec_casew index s
  | .d => exec_cased index s

/-! ### ACBi -/

/-- The counter, incremented modulo its length (R355). -/
def counted (l : Len) (q : BitVec 4) (b : QWord) : Int := (uval l.bytes b + q.toInt) % 2 ^ l.bits

theorem uval_narrow (l : Len) (n : Int) : (uval l.bytes (narrow l.bytes n) : Int) = n % 2 ^ l.bits := by
  rw [uval, Int.natCast_emod, narrow_toNat, ← pow_bits]
  exact Int.emod_emod_of_dvd n dvd_rfl

/-- The increment is the quick operand sign-extended, which modulo the length makes no difference (R161). -/
theorem narrow_counted (l : Len) (q : BitVec 4) (b : QWord) :
    narrow l.bytes (uval l.bytes b + uval l.bytes (quickValue l q)) = BitVec.ofInt 64 (counted l q b) := by
  rw [quickValue, uval_narrow, narrow_eq, pow_bits, counted, Int.add_emod_emod]

/-- The counter that is written is tested (R355). -/
theorem uval_counted (l : Len) (q : BitVec 4) (b : QWord) :
    uval l.bytes (BitVec.ofInt 64 (counted l q b)) = 0 ↔ counted l q b = 0 := by
  rw [← narrow_counted, ← Int.natCast_eq_zero, uval_narrow, quickValue, uval_narrow, Int.add_emod_emod, counted]

section Loop

variable (hb : ReadsRmw .int l.bytes index s x b s1)
  (hw : Gives (writeInt l x (BitVec.ofInt 64 (counted l q b))) s1 () w)
include hb hw

theorem acbBody_zero (h : counted l q b = 0) (d : Disp) : Gives (acbBody l q index d) s .seq w := by
  obtain ⟨_, located, read⟩ := hb
  refine gives_after located <| gives_after read ?_
  rw [narrow_counted]
  refine gives_after hw ?_
  rw [if_pos ((uval_counted l q b).mpr h)]
  exact gives_return _ w

theorem acbBody_nonzero (h : counted l q b ≠ 0) (hd : d.ok = true) :
    Gives (acbBody l q index d) s (.jump (w.pc.toNat + d.value)) w := by
  obtain ⟨_, located, read⟩ := hb
  refine gives_after located <| gives_after read ?_
  rw [narrow_counted]
  refine gives_after hw ?_
  rw [if_neg ((uval_counted l q b).not.mpr h)]
  exact gives_after (branchTarget_gives.mpr ⟨hd, rfl, rfl⟩) (gives_return _ w)

/-- An rmw operand read, then written. -/
theorem counter_keeps : Keeps { regs := x.regs .int, cells := x.cells l.bytes s1 } s w ∧ w.pc = s.pc := by
  obtain ⟨reads, notPush⟩ := readsRmw_reads hb
  obtain ⟨keeps, pc⟩ := writeLoc_keeps hw
  rw [if_neg notPush] at keeps
  exact ⟨(reads.keeps {}).trans keeps (by simp), pc.trans reads.pc⟩

end Loop

theorem exec_acb (q : BitVec 4) (index : Gen) (d : Disp) (s : State) : ∀ l,
    exec (byLen Instr.acbb Instr.acbw Instr.acbd l q index d) s =
      perform (byLen Instr.acbb Instr.acbw Instr.acbd l q index d).length (acbBody l q index d) s
  | .b => exec_acbb q index d s
  | .w => exec_acbw q index d s
  | .d => exec_acbd q index d s

/-- Settles O43: each body computes its target from operands whose reading leaves PC alone. -/
theorem jumpCaseAndLoop : Obligations.JumpCaseAndLoop := by
  refine ⟨fun dest s s1 a ha => ?_, fun l index s s1 v hv h0 h1 => ?_, ?_⟩
  · obtain ⟨reads, h0, h1⟩ := addrOp_reads ha
    exact ⟨exec_jumped (exec_jump dest s) (jumpBody_gives ha) h0 h1, reads.keeps {}⟩
  · exact ⟨exec_jumped (exec_case index s l) (caseBody_gives hv) h0 h1, (readOp_keeps hv).1⟩
  · intro l q index d s s1 w b x i v touched hb hw
    obtain ⟨keeps, pc⟩ := counter_keeps hb hw
    refine ⟨fun zero hf => ?_, fun nonzero hd h0 h1 => ⟨?_, keeps⟩⟩
    · exact completes_of (exec_acb q index d s l) (acbBody_zero hb hw zero d) pc hf keeps
    · have jumps := acbBody_nonzero hb hw nonzero hd
      rw [pc] at jumps
      exact exec_jumped (exec_acb q index d s l) jumps h0 h1

end Sys2Proof.Machine
end

section
/-! JSR, BSR and RET (R356 to R358): the return address pushed and popped. -/

namespace Sys2Proof.Machine

variable {s s1 w : State} {dest : Gen} {d : Disp} {n : Nat} {a c : Int} {x : QWord}

/-- The address after an instruction of `n` bytes, which must exist (R27). -/
theorem nextAddress_ok (h : s.pc.toNat + n < 2 ^ 24) : Gives (nextAddress n) s (s.pc.toNat + n : Nat) s := by
  have inside : inSpace (s.pc.toNat + n) 1 = true := by
    rw [inSpace_iff]
    omega
  exact gives_after (gives_state s) <| gives_after (ensure_passed inside _ s) <| gives_return _ s

/-- The target is computed before the push, which then finds the return address (R356). -/
theorem jsrBody_gives (ha : Gives (addrOp dest) s a s1) (hn : s.pc.toNat + n < 2 ^ 24)
    (hw : Gives (push 4 (BitVec.ofNat 64 (s.pc.toNat + n))) s1 () w) : Gives (jsrBody n dest) s (.jump a) w := by
  have pc := (addrOp_reads ha).1.pc
  rw [← pc] at hn hw
  rw [← BitVec.ofInt_natCast] at hw
  exact gives_after ha <| gives_after (nextAddress_ok hn) <| gives_after hw (gives_return _ w)

theorem bsrBody_gives (hd : d.ok = true) (hn : s.pc.toNat + n < 2 ^ 24)
    (hw : Gives (push 4 (BitVec.ofNat 64 (s.pc.toNat + n))) s () w) :
    Gives (bsrBody n d) s (.jump (s.pc.toNat + d.value)) w := by
  rw [← BitVec.ofInt_natCast] at hw
  exact gives_after (branchTarget_gives.mpr ⟨hd, rfl, rfl⟩) <| gives_after (nextAddress_ok hn) <|
    gives_after hw (gives_return _ w)

theorem moveSp_ok (h0 : 0 ≤ a) (h1 : a < 2 ^ 24) : Gives (moveSp a) s () (s.setSp (BitVec.ofInt 24 a)) := by
  have inside : inSpace a 1 = true := by
    rw [inSpace_iff]
    omega
  exact gives_after (ensure_passed inside _ s) (gives_change _ s)

theorem discard_ok (h0 : 0 ≤ s.sp.toNat + c) (h1 : s.sp.toNat + c < 2 ^ 24) :
    Gives (discard c) s () (s.setSp (BitVec.ofInt 24 (s.sp.toNat + c))) :=
  gives_after (gives_state s) (moveSp_ok h0 h1)

theorem retBody_gives (hd : d.ok = true) (hp : Gives (pop 4) s x s1) (h0 : 0 ≤ s1.sp.toNat + d.value)
    (h1 : s1.sp.toNat + d.value < 2 ^ 24) :
    Gives (retBody d) s (.jump (uval 4 x)) (s1.setSp (BitVec.ofInt 24 (s1.sp.toNat + d.value))) :=
  gives_after (dispValue_ok hd) <| gives_after hp <| gives_after (discard_ok h0 h1) (gives_return _ _)

/-- A pop touches the selected stack pointer only (R93). -/
theorem pop_keeps (h : Gives (pop n) s x s1) : Keeps { special := [.sp] } s s1 := by
  obtain ⟨u, read, -, rfl⟩ := pop_gives h
  exact ((memRead_reads read).keeps {}).trans (setSp_keeps u _) (by simp)

/-- Moving the selected stack pointer again adds nothing to what a step touches. -/
theorem Keeps.setSp {z : Touched} (h : Keeps z s s1) (hz : Special.sp ∈ z.special) (hS : bitS ∉ z.flags) (b : Addr) :
    Keeps z s (s1.setSp b) :=
  (h.trans (setSp_keeps s1 b) hS).mono (by simp) (by simp) (by simp) (by simp)
    (List.append_subset.mpr ⟨List.Subset.refl _, List.cons_subset.mpr ⟨hz, List.nil_subset _⟩⟩)

theorem Reads.sp (h : Reads s s1) : s1.sp = s.sp := by
  rw [h.eq]
  rfl

theorem Reads.mode (h : Reads s s1) : s1.mode = s.mode := by
  rw [h.eq]
  rfl

theorem Reads.mod (h : Reads s s1) : s1.mod = s.mod := by rw [h.eq]

/-- Reading leaves the stack and the mode alone, so a push then is where it was to be (R93). -/
theorem Reads.push_keeps {slot : Nat} {u : PUnit} (h : Reads s s1) (hw : Gives (pushSlot slot n x) s1 u w) :
    Keeps { cells := s1.cellsAt s.mode (s.sp.toNat - slot) n, special := [.sp] } s w := by
  rw [← h.mode, ← h.sp]
  exact (h.keeps {}).trans (pushSlot_keeps hw).1 (by simp)

/-- Settles O44: what the bodies push is the address after the instruction; RET moves SP twice. -/
theorem localCalls : Obligations.LocalCalls := by
  refine ⟨fun dest s s1 w a ha hf hw => ?_, fun d s w hd hf h0 h1 hw => ?_, fun d s s1 x hd hp hx h0 h1 => ?_⟩
  · obtain ⟨reads, h0, h1⟩ := addrOp_reads ha
    exact ⟨exec_jumped (exec_jsr dest s) (jsrBody_gives ha hf hw) h0 h1, reads.push_keeps hw⟩
  · exact ⟨exec_jumped (exec_bsr d s) (bsrBody_gives hd hf hw) h0 h1, (pushSlot_keeps hw).1⟩
  · exact ⟨exec_jumped_nat (exec_ret d s) (retBody_gives hd hp h0 h1) hx,
      (pop_keeps hp).setSp (.head _) List.not_mem_nil _⟩

end Sys2Proof.Machine
end

section
/-! The selected stack pointer moved, and the module reloaded (R93, R95), in plain memory: what external calls and the
returns have in common. -/

namespace Sys2Proof.Machine

variable {s : State} {a n m x : Nat} {mem : List Host.Cell}

/-! ### The stack pointer and the other fields -/

@[simp] theorem State.setSp_setSp (s : State) (a b : Addr) : (s.setSp a).setSp b = s.setSp b := by
  unfold State.setSp State.flag
  split <;> simp_all

@[simp] theorem State.setSp_sp (s : State) : s.setSp s.sp = s := by
  unfold State.setSp State.sp
  split <;> rfl

theorem State.sp_moved (s : State) (ha : a < 2 ^ 24) : (s.setSp (BitVec.ofNat 24 a)).sp.toNat = a := by
  rw [State.sp_setSp]
  exact (BitVec.toNat_ofNat ..).trans (Nat.mod_eq_of_lt ha)

theorem State.setSp_withMod (s : State) (mod : Word) (a : Addr) :
    ({ s with mod } : State).setSp a = { s.setSp a with mod } := by
  unfold State.setSp State.flag
  split <;> rfl

theorem State.setSp_withModule (s : State) (mod : Word) (sb a : Addr) :
    ({ s with mod, sb } : State).setSp a = { s.setSp a with mod, sb } := by
  unfold State.setSp State.flag
  split <;> rfl

theorem State.storeByte_setSp (s : State) (sp : Addr) (a : Nat) (v : Byte) :
    (s.setSp sp).storeByte a v = (s.storeByte a v).setSp sp := by
  unfold State.setSp State.flag
  rw [State.storeByte_psr]
  split <;> rfl

/-- A store does not see the stack pointers. -/
theorem State.store_setSp (s : State) (sp : Addr) (a n v : Nat) :
    (s.setSp sp).store a n v = (s.store a n v).setSp sp := by
  induction n generalizing s a v with
  | zero => rfl
  | succ n ih => rw [State.store, State.store, State.storeByte_setSp, ih]

/-! ### Frames -/

/-- Storing bytes touches no other. -/
theorem store_keeps (s : State) (a n v : Nat) : Keeps { cells := block a n } s (s.store a n v) := by
  rw [State.store_eq]
  refine { Keeps.refl _ s with cells := fun b hb => ?_ }
  rw [mem_block] at hb
  rw [State.read_store, if_neg hb]

theorem setModule_keeps (s : State) (mod : Word) (sb : Addr) : Keeps { special := [.mod, .sb] } s { s with mod, sb } :=
  { Keeps.refl _ s with mod := fun h => (h (.head _)).elim, sb := fun h => (h (.tail _ (.head _))).elim }

/-! ### Pops -/

/-- A pop where SP has been moved to `a` before (R93). -/
theorem pop_moved (hs : s.plain) (hn : n ≤ 8) (ha : a + n < 2 ^ 24) :
    Gives (pop n) (s.setSp (BitVec.ofNat 24 a)) (BitVec.ofNat 64 (load s.mem a n))
      (s.setSp (BitVec.ofNat 24 (a + n))) := by
  have moved := s.sp_moved (a := a) (by omega)
  have popped := pop_plain (hs.setSp (BitVec.ofNat 24 a)) n hn (by rwa [moved])
  rwa [moved, State.setSp_setSp, State.setSp_mem] at popped

/-- The low half of a value loaded from memory. -/
theorem setWidth_load (mem : List Host.Cell) (a n : Nat) :
    (BitVec.ofNat 64 (load mem a n)).setWidth 16 = BitVec.ofNat 16 (load mem a n) := by
  apply BitVec.eq_of_toNat_eq
  simp only [BitVec.toNat_setWidth, BitVec.toNat_ofNat]
  omega

/-! ### The module -/

/-- SB is reloaded from the entry of the current module (R95), where the bytes of memory are known. -/
theorem reloadSb_plain (hs : s.plain) (hmem : s.mem = mem) (hmod : s.mod = BitVec.ofNat 16 m) (hm : m < 0xFFF1) :
    Gives reloadSb s () { s with sb := BitVec.ofNat 24 (load mem m 4) } := by
  have number : s.mod.toNat = m := by
    rw [hmod]
    exact (BitVec.toNat_ofNat ..).trans (Nat.mod_eq_of_lt (by omega))
  subst hmem number
  refine gives_after (gives_state s) <| gives_after (moduleAddress_ok hm) <|
    gives_after (memRead_nat hs s.mod.toNat 4 (by omega) (by omega)) ?_
  rw [← toAddr_load]
  exact gives_change _ s

/-- A module entered through a descriptor, where the bytes of memory are known. -/
theorem enterModule_loaded (hs : s.plain) (hmem : s.mem = mem) (hx : x < 2 ^ 32) (hm : x % 2 ^ 16 < 0xFFF1) :
    Gives (enterModule (BitVec.ofNat 64 x)) s (load mem (x % 2 ^ 16 + 8) 4 + x / 2 ^ 16 : Nat)
      { s with mod := BitVec.ofNat 16 (x % 2 ^ 16), sb := BitVec.ofNat 24 (load mem (x % 2 ^ 16) 4) } := by
  subst hmem
  exact enterModule_plain hs hx hm

end Sys2Proof.Machine
end

section
/-! CXP, CXPD and RXP (R359 to R362), in plain memory. -/

namespace Sys2Proof.Machine

variable {s s1 : State} {i : Instr} {n x sp mod next m : Nat} {c : Int} {d : Disp} {desc : QWord}
  {v : Next} {w : State}

/-! ### The call -/

/-- The two slots of an external call below `sp` (R359): MOD and the return address. SP itself is not yet moved. -/
def State.linked (s : State) (sp mod next : Nat) : State := (s.store (sp - 4) 2 mod).store (sp - 8) 4 next

/-- The state in which the procedure of an external call begins, PC aside: the slots are pushed, MOD and SB are those of
module `m` (R359). -/
def State.called (s : State) (sp mod next m : Nat) : State :=
  { (s.linked sp mod next).setSp (BitVec.ofNat 24 (sp - 8)) with
    mod := BitVec.ofNat 16 m, sb := BitVec.ofNat 24 (load (s.linked sp mod next).mem m 4) }

theorem State.plain.linked (hs : s.plain) (sp mod next : Nat) : (s.linked sp mod next).plain :=
  (hs.store (sp - 4) 2 mod).store (sp - 8) 4 next

/-- The slots are pushed, the return address below MOD. -/
theorem linked_pushed (hs : s.plain) (hsp : s.sp.toNat = sp) (h8 : 8 ≤ sp) (hn : next < 2 ^ 24) :
    ∃ t, Gives (pushSlot 4 2 (s.mod.setWidth 64)) s () t ∧
      Gives (push 4 (BitVec.ofInt 64 next)) t () ((s.linked sp s.mod.toNat next).setSp (BitVec.ofNat 24 (sp - 8))) := by
  subst hsp
  have hlt := s.sp.isLt
  have first := (s.store (s.sp.toNat - 4) 2 s.mod.toNat).sp_moved (a := s.sp.toNat - 4) (by omega)
  have value : (BitVec.ofInt 64 next).toNat = next := by
    rw [BitVec.ofInt_natCast]
    exact (BitVec.toNat_ofNat ..).trans (Nat.mod_eq_of_lt (by omega))
  have upper := pushSlot_plain hs 4 2 (s.mod.setWidth 64) (by omega) (by omega)
  rw [BitVec.toNat_setWidth_of_le (by omega), State.store_setSp] at upper
  have lower := pushSlot_plain ((hs.store (s.sp.toNat - 4) 2 s.mod.toNat).setSp (BitVec.ofNat 24 (s.sp.toNat - 4)))
    4 4 (BitVec.ofInt 64 next) le_rfl (by rw [first]; omega)
  rw [first, Nat.sub_sub, value, State.setSp_setSp, State.store_setSp] at lower
  exact ⟨_, upper, lower⟩

theorem externalCall_gives (hs : s.plain) (hsp : s.sp.toNat = sp) (hmod : s.mod.toNat = mod)
    (hnext : s.pc.toNat + n = next) (h8 : 8 ≤ sp) (hn : next < 2 ^ 24) (hx : x < 2 ^ 32) (hm : x % 2 ^ 16 < 0xFFF1) :
    Gives (externalCall n (BitVec.ofNat 64 x)) s
      (.jump (load (s.linked sp mod next).mem (x % 2 ^ 16 + 8) 4 + x / 2 ^ 16 : Nat))
      (s.called sp mod next (x % 2 ^ 16)) := by
  subst hmod hnext
  obtain ⟨t, upper, lower⟩ := linked_pushed hs hsp h8 hn
  have entered := enterModule_loaded ((hs.linked sp s.mod.toNat (s.pc.toNat + n)).setSp (BitVec.ofNat 24 (sp - 8)))
    (State.setSp_mem _ _) hx hm
  exact gives_after (nextAddress_ok hn) <| gives_after (gives_state s) <| gives_after upper <| gives_after lower <|
    gives_after entered (gives_return _ _)

theorem State.called_keeps (s : State) (sp mod next m : Nat) (h8 : 8 ≤ sp) :
    Keeps { cells := [sp - 8, sp - 7, sp - 6, sp - 5, sp - 4, sp - 3], special := [.sp, .mod, .sb] } s
      (s.called sp mod next m) := by
  have stored := (store_keeps s (sp - 4) 2 mod).trans (store_keeps _ (sp - 8) 4 next) List.not_mem_nil
  have moved := stored.trans (setSp_keeps _ (BitVec.ofNat 24 (sp - 8))) List.not_mem_nil
  have entered := moved.trans (setModule_keeps _ (BitVec.ofNat 16 m)
    (BitVec.ofNat 24 (load (s.linked sp mod next).mem m 4))) List.not_mem_nil
  refine entered.mono (by simp) (by simp) (fun a ha => ?_) (by simp) (by simp)
  simp only [List.append_nil, List.mem_append, mem_block] at ha
  simp only [List.mem_cons, List.not_mem_nil, or_false]
  omega

/-! ### The descriptor -/

/-- CXP reads the descriptor in the Link Table (R360), CXPD at the address of its operand (R361). -/
def ReadsDescriptor (i : Instr) (s : State) (desc : QWord) (s1 : State) : Prop :=
  (∃ d : Disp, i = .cxp d ∧ d.ok = true ∧ Gives (linkEntry d.value) s desc s1) ∨
    ∃ (g : Gen) (a : Int) (u : State), i = .cxpd g ∧ Gives (addrOp g) s a u ∧ Gives (memRead a 4) u desc s1

theorem ReadsDescriptor.reads (h : ReadsDescriptor i s desc s1) : Reads s s1 := by
  rcases h with ⟨d, -, -, entry⟩ | ⟨g, a, u, -, addressed, read⟩
  · exact linkEntry_reads entry
  · exact (addrOp_reads addressed).1.trans (memRead_reads read)

/-- The call follows, from the state in which the descriptor has been read. -/
theorem ReadsDescriptor.calls (h : ReadsDescriptor i s desc s1) (hw : Gives (externalCall i.length desc) s1 v w) :
    ∃ body, exec i s = perform i.length body s ∧ Gives body s v w := by
  rcases h with ⟨d, rfl, hd, entry⟩ | ⟨g, a, u, rfl, addressed, read⟩
  · exact ⟨_, exec_cxp d s, gives_after (dispValue_ok hd) <| gives_after entry hw⟩
  · exact ⟨_, exec_cxpd g s, gives_after addressed <| gives_after read hw⟩

/-! ### RXP -/

/-- The state in which RXP ends, PC aside: SP moved to `a`, MOD and SB those of module `m` (R362). -/
def State.unlinked (s : State) (a : Addr) (m : Nat) : State :=
  { s.setSp a with mod := BitVec.ofNat 16 m, sb := BitVec.ofNat 24 (load s.mem m 4) }

theorem State.unlinked_keeps (s : State) (a : Addr) (m : Nat) :
    Keeps { special := [.sp, .mod, .sb] } s (s.unlinked a m) :=
  (setSp_keeps s a).trans (setModule_keeps _ _ _) List.not_mem_nil

theorem State.setSp_unlinked (s : State) (a b : Addr) (m : Nat) : (s.unlinked a m).setSp b = s.unlinked b m := by
  rw [State.unlinked, State.setSp_withModule, State.setSp_setSp]
  rfl

theorem reloadSb_unlinked (hs : s.plain) (a : Addr) (hm : m < 0xFFF1) :
    Gives reloadSb { s.setSp a with mod := BitVec.ofNat 16 m } () (s.unlinked a m) :=
  reloadSb_plain ((hs.setSp a).of_eq rfl rfl rfl) (State.setSp_mem s a) rfl hm

theorem discard_unlinked (s : State) (m : Nat) (hsp : sp < 2 ^ 24) (h0 : 0 ≤ sp + c) (h1 : sp + c < 2 ^ 24) :
    Gives (discard c) (s.unlinked (BitVec.ofNat 24 sp) m) () (s.unlinked (BitVec.ofInt 24 (sp + c)) m) := by
  have number : (s.unlinked (BitVec.ofNat 24 sp) m).sp.toNat = sp := s.sp_moved hsp
  have discarded := discard_ok (s := s.unlinked (BitVec.ofNat 24 sp) m) (c := c) (by rwa [number]) (by rwa [number])
  rwa [number, State.setSp_unlinked] at discarded

/-- The slot of MOD is read and skipped: two of its four bytes are used (R362). -/
theorem slot_skipped (hs : s.plain) (hsp : sp + 4 < 2 ^ 24) : let t := s.setSp (BitVec.ofNat 24 sp)
    Gives (memRead t.sp.toNat 2) t (BitVec.ofNat 64 (load s.mem sp 2)) t ∧
      Gives (moveSp (t.sp.toNat + 4)) t () (s.setSp (BitVec.ofNat 24 (sp + 4))) := by
  intro t
  have number : t.sp.toNat = sp := s.sp_moved (by omega)
  have read := memRead_nat (hs.setSp (BitVec.ofNat 24 sp)) sp 2 (by omega) (by omega)
  have moved := moveSp_ok (s := t) (a := (sp + 4 : Nat)) (by omega) (by omega)
  rw [State.setSp_mem] at read
  rw [State.setSp_setSp, BitVec.ofInt_natCast] at moved
  rw [number]
  exact ⟨read, moved⟩

/-- The return address and MOD are popped, eight bytes in all; then the stack is moved further. -/
theorem rxpBody_gives (hs : s.plain) (hd : d.ok = true) (hsp : s.sp.toNat = sp) (hm : load s.mem (sp + 4) 2 = m)
    (h8 : sp + 8 < 2 ^ 24) (hmod : m < 0xFFF1) (h0 : 0 ≤ (sp + 8 : Nat) + d.value)
    (h1 : (sp + 8 : Nat) + d.value < 2 ^ 24) :
    Gives (rxpBody d) s (.jump (load s.mem sp 4)) (s.unlinked (BitVec.ofInt 24 ((sp + 8 : Nat) + d.value)) m) := by
  have popped := pop_plain hs 4 (by omega) (by omega)
  rw [hsp] at popped
  obtain ⟨read, skipped⟩ := slot_skipped hs (sp := sp + 4) (by omega)
  refine gives_after (dispValue_ok hd) <| gives_after popped <| gives_after (gives_state _) <| gives_after read <|
    gives_after (gives_state _) <| gives_after skipped <| gives_after (gives_change _ _) ?_
  rw [setWidth_load, hm, uval_load]
  exact gives_after (reloadSb_unlinked hs _ hmod) <| gives_after (discard_unlinked s m h8 h0 h1) (gives_return _ _)

/-- Settles O45: the call is made from the state in which the descriptor has been read; RXP takes its slots back. -/
theorem externalCalls : Obligations.ExternalCalls := by
  refine ⟨?_, ?_⟩
  · intro i s s1 desc hs hx hf (h : ReadsDescriptor i s (BitVec.ofNat 64 desc) s1) sp m pushed base h8 hm hbase w
    have reads := h.reads
    have call := externalCall_gives (n := i.length) (next := s.nextPc i) ((reads.keeps {}).plain rfl hs)
      (by rw [reads.sp]) (by rw [reads.mod]) (by rw [reads.pc, State.nextPc]) h8 hf hx hm
    obtain ⟨body, performed, gives⟩ := h.calls call
    exact ⟨exec_jumped_nat performed gives hbase,
      (reads.keeps {}).trans (State.called_keeps s1 sp s.mod.toNat (s.nextPc i) m h8) List.not_mem_nil⟩
  · intro d s hs hd sp m ra h8 hm hra h0 h1 w
    have returned := rxpBody_gives hs hd rfl rfl h8 hm (by exact_mod_cast h0) (by exact_mod_cast h1)
    exact ⟨exec_jumped_nat (exec_rxp d s) returned hra, State.unlinked_keeps s _ _⟩

end Sys2Proof.Machine
end

section
/-! RETT and RETI in Supervisor Mode (R366, R367), in plain memory: the End of Interrupt reads, then the return. -/

namespace Sys2Proof.Machine

variable {s : State} {sp m ra : Nat} {c : Int} {d : Disp} {b : Byte} {rest : List Byte}

/-! ### The return -/

/-- The state that a return from an exception restores, PC and the further move of the stack aside (R366). -/
def State.returned (s : State) (sp m : Nat) : State :=
  { s.setSp (BitVec.ofNat 24 (sp + 8)) with
    mod := BitVec.ofNat 16 m
    psr := BitVec.ofNat 16 (load s.mem (sp + 6) 2) &&& psrMask
    sb := BitVec.ofNat 24 (load s.mem m 4) }

/-- SB is reloaded once MOD and the PSR have been popped. -/
theorem reloadSb_returned (hs : s.plain) (hm : m < 0xFFF1) :
    Gives reloadSb ((({ s with mod := BitVec.ofNat 16 m } : State).setSp (BitVec.ofNat 24 (sp + 8))).setPsr
      (BitVec.ofNat 16 (load s.mem (sp + 6) 2))) () (s.returned sp m) := by
  rw [State.setSp_withMod]
  exact reloadSb_plain ((hs.setSp _).of_eq rfl rfl rfl) (State.setSp_mem s _) rfl hm

/-- Eight bytes are popped from the stack that is selected at first; the stack selected at last is moved further. -/
theorem returnFrame_gives (hs : s.plain) (hsp : s.sp.toNat = sp) (hm : load s.mem (sp + 4) 2 = m)
    (h8 : sp + 8 < 2 ^ 24) (hmod : m < 0xFFF1) (h0 : 0 ≤ (s.returned sp m).sp.toNat + c)
    (h1 : (s.returned sp m).sp.toNat + c < 2 ^ 24) :
    Gives (returnFrame c) s (load s.mem sp 4)
      ((s.returned sp m).setSp (BitVec.ofInt 24 ((s.returned sp m).sp.toNat + c))) := by
  have addressPopped := pop_plain hs 4 (by omega) (by omega)
  have modPopped := pop_moved hs (a := sp + 4) (n := 2) (by omega) (by omega)
  have psrPopped := pop_moved (s := { s with mod := BitVec.ofNat 16 m }) (hs.of_eq rfl rfl rfl) (a := sp + 6) (n := 2)
    (by omega) (by omega)
  rw [hsp] at addressPopped
  rw [State.setSp_withMod] at psrPopped
  refine gives_after addressPopped <| gives_after modPopped <| gives_after (gives_change _ _) ?_
  rw [setWidth_load, hm]
  refine gives_after psrPopped <| gives_after (gives_change _ _) ?_
  rw [setWidth_load]
  refine gives_after (reloadSb_returned hs hmod) <| gives_after (gives_state _) <| gives_after (moveSp_ok h0 h1) ?_
  rw [uval_load]
  exact gives_return _ _

/-! ### The End of Interrupt reads -/

/-- The state with what the environment has still to answer, and what it has seen (D30). -/
def State.answered (s : State) (rest : List Byte) (events : List Event) : State := { s with answers := rest, events }

theorem State.plain.answered (hs : s.plain) (rest : List Byte) (events : List Event) :
    (s.answered rest events).plain := hs.of_eq rfl rfl rfl

@[simp] theorem State.answered_events (s : State) (rest : List Byte) (events : List Event) :
    (s.answered rest events).events = events := rfl

@[simp] theorem State.answered_answered (s : State) (r1 r2 : List Byte) (e1 e2 : List Event) :
    (s.answered r1 e1).answered r2 e2 = s.answered r2 e2 := rfl

theorem State.setSp_answered (s : State) (rest : List Byte) (events : List Event) (a : Addr) :
    (s.answered rest events).setSp a = (s.setSp a).answered rest events := by
  unfold State.setSp State.flag State.answered
  split <;> rfl

theorem ioRead_answered (hs : s.plain) (event : Addr → Byte → Event) {a : Nat} (ha : a < 2 ^ 24)
    (hb : s.answers = b :: rest) :
    Gives (ioRead event a) s b (s.answered rest (s.events ++ [event (BitVec.ofNat 24 a) b])) := by
  have inside : inSpace (a : Int) 1 = true := by
    rw [inSpace_iff]
    omega
  have answered : Gives answer s b { s with answers := rest } := by
    refine gives_after (gives_state s) ?_
    rw [hb]
    exact gives_after (gives_change _ s) (gives_return _ _)
  rw [← BitVec.ofInt_natCast]
  exact gives_after (ensure_passed inside _ s) <| gives_after (gives_state s) <|
    gives_after (physical_direct hs.1 _ _ _) <| gives_after (gives_state s) <|
    gives_after (observe_direct hs.1 _ _ _ _) <| gives_after (gives_state s) <|
    gives_after (ensure_passed (by rw [hs.2]; rfl) _ s) <| gives_after answered <|
    gives_after (gives_change _ _) (gives_return _ _)

/-- A byte from 0 to 127 ends the interrupt of the master unit alone. -/
theorem endOfInterrupt_vectored (hs : s.plain) (hb : s.answers = b :: rest) (h : b.toNat < 128) :
    Gives endOfInterrupt s () (s.answered rest (s.events ++ [.endOfInterrupt 0xFFFE00 b])) := by
  have notNegative : ¬ b.toInt < 0 := by
    rw [BitVec.toInt_eq_toNat_cond]
    omega
  refine gives_after (ioRead_answered hs _ (a := 0xFFFE00) (by decide) hb) ?_
  rw [if_neg notNegative]
  exact gives_return _ _

/-- A byte from -16 to -1 names a cascaded unit, whose address stands in the Cascade Table. -/
theorem endOfInterrupt_cascaded (hs : s.plain) {e : Byte} (hb : s.answers = b :: e :: rest) (h16 : -16 ≤ b.toInt)
    (h0 : b.toInt < 0) (ha : inSpace (s.intbase.toNat + 4 * b.toInt) 4 = true)
    (hca : load s.mem (s.intbase.toNat + 4 * b.toInt).toNat 4 < 2 ^ 24) :
    Gives endOfInterrupt s () (s.answered rest (s.events ++ [.endOfInterrupt 0xFFFE00 b,
      .endOfInterrupt (BitVec.ofNat 24 (load s.mem (s.intbase.toNat + 4 * b.toInt).toNat 4)) e])) := by
  have plain := hs.answered (e :: rest) (s.events ++ [.endOfInterrupt 0xFFFE00 b])
  have cascade := memRead_plain plain (s.intbase.toNat + 4 * b.toInt) 4 (by omega) ha
  have second := ioRead_answered plain .endOfInterrupt hca rfl
  rw [State.answered_answered, State.answered_events, List.append_assoc] at second
  refine gives_after (ioRead_answered hs _ (a := 0xFFFE00) (by decide) hb) ?_
  rw [if_pos h0]
  refine gives_after (ensure_passed (decide_eq_true h16) _ _) <| gives_after (gives_state _) <|
    gives_after cascade ?_
  rw [uval_load]
  exact gives_after second (gives_return _ _)

/-! ### The instructions -/

theorem State.returned_answered (s : State) (rest : List Byte) (events : List Event) (sp m : Nat) :
    (s.answered rest events).returned sp m = (s.returned sp m).answered rest events := by
  rw [State.returned, State.setSp_answered]
  rfl

theorem rettBody_gives (hU : s.flag bitU = false) (hd : d.ok = true) {t : State} {a : Int}
    (h : Gives (returnFrame d.value) s a t) : Gives (rettBody d) s (.jump a) t :=
  gives_after (privileged_passed hU) <| gives_after (dispValue_ok hd) <| gives_after h (gives_return _ _)

/-- RETI returns once the End of Interrupt reads are answered, and moves the stack no further (R367). -/
theorem retiBody_gives (hs : s.plain) (hU : s.flag bitU = false) {events : List Event}
    (he : Gives endOfInterrupt s () (s.answered rest events)) (hsp : s.sp.toNat = sp)
    (hm : load s.mem (sp + 4) 2 = m) (h8 : sp + 8 < 2 ^ 24) (hmod : m < 0xFFF1) :
    Gives retiBody s (.jump (load s.mem sp 4)) ((s.returned sp m).answered rest events) := by
  have inside := ((s.answered rest events).returned sp m).sp.isLt
  have frame := returnFrame_gives (c := 0) (hs.answered rest events) hsp hm h8 hmod (by omega) (by omega)
  rw [Int.add_zero, BitVec.ofInt_natCast, BitVec.ofNat_toNat, BitVec.setWidth_eq, State.setSp_sp,
    State.returned_answered] at frame
  exact gives_after (privileged_passed hU) <| gives_after he <| gives_after frame (gives_return _ _)

/-- Settles O46: RETT by its frame; RETI by the reads that come before it, one or two. -/
theorem returnsFromExceptions : Obligations.ReturnsFromExceptions := by
  intro d s hs hU hd sp ra m psr u h8 hra hmod
  refine ⟨fun h0 h1 => ?_, fun b rest hb h128 => ?_, fun b e rest hb h16 h0 ha hca => ?_⟩
  · exact exec_jumped_nat (exec_rett d s) (rettBody_gives hU hd (returnFrame_gives hs rfl rfl h8 hmod h0 h1)) hra
  · exact exec_jumped_nat (exec_reti s)
      (retiBody_gives hs hU (endOfInterrupt_vectored hs hb h128) rfl rfl h8 hmod) hra
  · exact exec_jumped_nat (exec_reti s)
      (retiBody_gives hs hU (endOfInterrupt_cascaded hs hb h16 h0 ha hca) rfl rfl h8 hmod) hra

end Sys2Proof.Machine
end

section
/-! ADDR, LXPD and CVTP (R391, R396, R291): an address that only reading computes, written as an operand of class write. -/

namespace Sys2Proof.Machine

variable {s s1 s2 w : State} {src dest : Gen} {offset : Reg} {x : Loc} {a : Int} {v y : QWord} {i : Instr}

/-- The word of an address has been found in a state that differs in the count of free values at most, so the operand's
bytes are the same. -/
theorem addressWord_cells (h : Gives (addressWord a) s v s1) (x : Loc) (n : Nat) : x.cells n s1 = x.cells n s := by
  rcases addressWord_gives.mp h with ⟨-, -, rfl⟩ | ⟨-, -, rfl⟩
  · rfl
  · cases x <;> rfl

theorem addressWord_reads (h : Gives (addressWord a) s v s1) : Reads s s1 := by
  rcases addressWord_gives.mp h with ⟨-, -, rfl⟩ | ⟨-, -, rfl⟩
  · exact Reads.refl _
  · exact ⟨rfl, fun _ => rfl⟩

/-- After steps that only read, the first of which located an operand of class write, that operand written. -/
theorem Reads.write_keeps {z : Kind} {n : Nat} {u : PUnit} (h : Reads s s1) (hx : x = .push → dest = .base .tos)
    (hw : Gives (writeLoc z n x y) s1 u w) :
    Keeps { regs := x.regs z, fregs := if z = .float then x.fregs n else [], cells := x.cells n s1,
            special := movesSp dest } s w ∧ w.pc = s.pc := by
  obtain ⟨keeps, pc⟩ := writeLoc_keeps hw
  refine ⟨((h.keeps {}).trans keeps (by simp)).mono (by simp) (by simp) (by simp) (by simp) ?_, pc.trans h.pc⟩
  intro k hk
  by_cases hp : x = .push
  · rw [hx hp]
    simpa [hp, movesSp] using hk
  · simp [hp] at hk

/-- The body that ADDR and LXPD perform, with whatever word stands for the address. -/
theorem addrBody_completes (hi : exec i s = perform i.length (addrBody src dest) s) (hf : s.fits i)
    (ha : Gives (exactAddress src) s a s1) (hx : Gives (locateWrite .int 4 dest) s1 x s2)
    (hw : Gives (addressWord a >>= writeLoc .int 4 x) s2 () w) :
    Completes i s w { regs := x.regs .int, cells := x.cells 4 s2, special := movesSp dest } := by
  obtain ⟨v, u, word, written⟩ := (gives_bind ..).mp hw
  obtain ⟨located, pushed⟩ := locateWrite_reads hx
  have reads := ((exactAddress_reads ha).trans located).trans (addressWord_reads word)
  obtain ⟨keeps, pc⟩ := reads.write_keeps pushed written
  rw [addressWord_cells word] at keeps
  exact completes_of hi (gives_after ha <| gives_after hx <| gives_after word <| gives_after written (gives_return _ _))
    pc hf keeps

/-- Where 32 bits hold the address, its word is the address; elsewhere any value is (R391). -/
theorem addressWord_inRange (h0 : 0 ≤ a) (h32 : a < 2 ^ 32) (s : State) : Gives (addressWord a) s (BitVec.ofInt 64 a) s :=
  addressWord_gives.mpr (.inl ⟨⟨h0, h32⟩, rfl, rfl⟩)

theorem addressWord_outside (h : a < 0 ∨ 2 ^ 32 ≤ a) (s : State) :
    Gives (addressWord a) s (Config.freeValue s.draws) { s with draws := s.draws + 1 } :=
  addressWord_gives.mpr (.inr ⟨by omega, rfl, rfl⟩)

theorem addrBody_delivers (hi : exec i s = perform i.length (addrBody src dest) s)
    (ha : Gives (exactAddress src) s a s1) (hx : Gives (locateWrite .int 4 dest) s1 x s2) (hf : s.fits i) :
    (0 ≤ a → a < 2 ^ 32 → Gives (writeLoc .int 4 x (BitVec.ofInt 64 a)) s2 () w →
      Completes i s w { regs := x.regs .int, cells := x.cells 4 s2, special := movesSp dest }) ∧
    (a < 0 ∨ 2 ^ 32 ≤ a → ∃ v, ∀ u, Gives (draw >>= fun _ => writeLoc .int 4 x v) s2 () u →
      Completes i s u { regs := x.regs .int, cells := x.cells 4 s2, special := movesSp dest }) := by
  refine ⟨fun h0 h32 hw => ?_, fun h => ⟨Config.freeValue s2.draws, fun u hu => ?_⟩⟩
  · exact addrBody_completes hi hf ha hx (gives_after (addressWord_inRange h0 h32 s2) hw)
  · obtain ⟨_, t, drawn, written⟩ := (gives_bind ..).mp hu
    obtain ⟨-, rfl⟩ := (gives_draw ..).mp drawn
    exact addrBody_completes hi hf ha hx (gives_after (addressWord_outside h s2) written)

theorem cvtpBody_gives (ha : Gives (addrOp src) s a s1) (hx : Gives (locateWrite .int 4 dest) s1 x s2)
    (hw : Gives (writeLoc .int 4 x (BitVec.ofInt 64 ((8 * a + (s.reg offset).toInt) % 2 ^ 32))) s2 () w) :
    Gives (cvtpBody offset src dest) s .seq w := by
  rw [← narrow_eq 4] at hw
  exact gives_after (gives_state s) <| gives_after ha <| gives_after hx <| gives_after hw (gives_return _ _)

/-- Settles O34: ADDR and LXPD perform `addrBody`, which writes the word of an exact address; CVTP writes eight times an
address and the offset. -/
theorem addressInstructions : Obligations.AddressInstructions := by
  intro src dest d1 d2 offset s s1 s2 w a x touched delivers hx
  refine ⟨fun ha => addrBody_delivers (exec_addr src dest s) ha hx,
    fun ha => addrBody_delivers (exec_lxpd d1 d2 dest s) ha hx, fun ha hw hf => ?_⟩
  obtain ⟨keeps, pc⟩ := reads_write_keeps (addrOp_reads ha).1 hx hw
  exact completes_of (exec_cvtp offset src dest s) (cvtpBody_gives ha hx hw) pc hf keeps

end Sys2Proof.Machine
end

section
/-! SAVE, RESTORE, ENTER and EXIT (R392 to R395), in plain memory: the registers of a list pushed and popped, by induction
on the registers that are still to come. -/

namespace Sys2Proof.Machine

variable {s t u w : State} {list : Byte} {r : Reg} {rs : List Reg} {p : Reg → Bool} {n a : Nat} {v : QWord} {z : Touched}
  {constant : Disp}

/-- A step that loads neither CFG nor the memory-management registers leaves memory plain. -/
theorem Keeps.plain_of (h : Keeps z s t) (hc : .cfg ∉ z.special) (hm : .mmu ∉ z.special) (hs : s.plain) : t.plain :=
  hs.of_eq (h.cfg hc) h.platform (h.bcnt hm hc hs.1)

/-- What stands outside the bytes that a step stores to is loaded as before. -/
theorem Keeps.load_apart (h : Keeps z s t) (ha : ∀ k < n, a + k ∉ z.cells) : load t.mem a n = load s.mem a n :=
  load_congr fun k hk => h.cells _ (ha k hk)

/-! ### Registers pushed -/

/-- From `s` to `t` one double-word has been pushed (R93). -/
structure PushedDouble (v : QWord) (s t : State) : Prop where
  gives : Gives (push 4 v) s () t
  pc : t.pc = s.pc
  sp : t.sp.toNat = s.sp.toNat - 4
  slot : load t.mem (s.sp.toNat - 4) 4 = uval 4 v
  keeps : Keeps { cells := block (s.sp.toNat - 4) 4, special := [.sp] } s t

theorem pushed_double (hs : s.plain) (v : QWord) (h4 : 4 ≤ s.sp.toNat) : ∃ t, PushedDouble v s t := by
  obtain ⟨t, gives, sp, slot⟩ := push_plain hs v h4
  obtain ⟨keeps, pc⟩ := pushSlot_keeps gives
  rw [hs.cellsAt, Int.toNat_sub] at keeps
  exact ⟨t, gives, pc, sp, slot, keeps⟩

/-- From `s` to `w` those of the registers `rs` that `p` selects have been pushed: each stands below the ones before it. -/
structure Saved (p : Reg → Bool) (rs : List Reg) (s w : State) : Prop where
  pc : w.pc = s.pc
  sp : w.sp.toNat = s.sp.toNat - 4 * rs.countP p
  keeps : Keeps { cells := block (s.sp.toNat - 4 * rs.countP p) (4 * rs.countP p), special := [.sp] } s w
  slots : ∀ before r after, rs = before ++ r :: after → p r = true →
    load w.mem (s.sp.toNat - 4 * (before.countP p + 1)) 4 = (s.reg r).toNat

theorem Saved.nil (p : Reg → Bool) (s : State) : Saved p [] s s :=
  ⟨rfl, by simp, Keeps.refl _ s, fun before r after h => by simp at h⟩

/-- A register that is not selected is passed over. -/
theorem Saved.skip (hr : p r = false) (h : Saved p rs s w) : Saved p (r :: rs) s w := by
  have count : (r :: rs).countP p = rs.countP p := List.countP_cons_of_neg (by simp [hr])
  refine ⟨h.pc, by rw [count, h.sp], by rw [count]; exact h.keeps, fun before q after split hq => ?_⟩
  cases before with
  | nil =>
    obtain ⟨rfl, -⟩ := List.cons.inj split
    exact absurd (hr.symm.trans hq) Bool.false_ne_true
  | cons r' before =>
    obtain ⟨rfl, rest⟩ := List.cons.inj split
    rw [List.countP_cons_of_neg (by simp [hr])]
    exact h.slots before q after rest hq

/-- A selected register is pushed, and the others below it. -/
theorem Saved.cons (hr : p r = true) (h4 : 4 * ((r :: rs).countP p) ≤ s.sp.toNat)
    (ht : PushedDouble ((s.reg r).setWidth 64) s t) (h : Saved p rs t w) : Saved p (r :: rs) s w := by
  have count : (r :: rs).countP p = rs.countP p + 1 := List.countP_cons_of_pos hr
  have keeps := ht.keeps.trans h.keeps List.not_mem_nil
  refine ⟨h.pc.trans ht.pc, by rw [h.sp, ht.sp, count]; omega, ?_, fun before q after split hq => ?_⟩
  · refine keeps.mono (by simp) (by simp) (fun b hb => ?_) (by simp) (by simp)
    simp only [List.mem_append, mem_block, ht.sp] at hb
    rw [mem_block]
    omega
  · cases before with
    | nil =>
      obtain ⟨rfl, -⟩ := List.cons.inj split
      rw [List.countP_nil, h.keeps.load_apart fun k _ => by rw [mem_block, ht.sp]; omega, ht.slot, uval,
        BitVec.toNat_setWidth_of_le (by omega)]
      exact Nat.mod_eq_of_lt (s.reg r).isLt
    | cons r' before =>
      obtain ⟨rfl, rest⟩ := List.cons.inj split
      have slot := h.slots before q after rest hq
      rw [ht.sp, ht.keeps.regs q List.not_mem_nil] at slot
      rw [List.countP_cons_of_pos hr, ← slot]
      congr 1
      omega

/-- The registers that SAVE and ENTER push (R392). -/
def saves (list : Byte) (r : Reg) : Bool := list.getLsbD r.val

theorem pushRegs_saves (hs : s.plain) (hsp : 4 * rs.countP (saves list) ≤ s.sp.toNat) :
    ∃ w, Gives (pushRegs list rs) s () w ∧ Saved (saves list) rs s w := by
  induction rs generalizing s with
  | nil => exact ⟨s, gives_return () s, Saved.nil _ s⟩
  | cons r rs ih =>
    show ∃ w, Gives (if saves list r = true then _ else _) s () w ∧ _
    by_cases hr : saves list r = true
    · have count : (r :: rs).countP (saves list) = rs.countP (saves list) + 1 := List.countP_cons_of_pos hr
      obtain ⟨t, pushed⟩ := pushed_double hs ((s.reg r).setWidth 64) (by omega)
      obtain ⟨w, gives, saved⟩ := ih (pushed.keeps.plain_of (by simp) (by simp) hs) (by rw [pushed.sp]; omega)
      rw [if_pos hr]
      exact ⟨w, gives_after (gives_state s) <| gives_after pushed.gives gives, saved.cons hr hsp pushed⟩
    · rw [List.countP_cons_of_neg hr] at hsp
      obtain ⟨w, gives, saved⟩ := ih hs hsp
      rw [if_neg hr]
      exact ⟨w, gives, saved.skip (by simpa using hr)⟩

/-! ### Registers popped -/

/-- From `s` to `w` those of the registers `rs` that `p` selects have been popped, each from above the ones before it; none
of them is popped twice. -/
structure Restored (p : Reg → Bool) (rs : List Reg) (s w : State) : Prop where
  pc : w.pc = s.pc
  sp : w.sp.toNat = s.sp.toNat + 4 * rs.countP p
  keeps : Keeps { regs := rs.filter p, special := [.sp] } s w
  slots : ∀ before r after, rs = before ++ r :: after → r ∉ after → p r = true →
    (w.reg r).toNat = load s.mem (s.sp.toNat + 4 * before.countP p) 4

theorem Restored.nil (p : Reg → Bool) (s : State) : Restored p [] s s :=
  ⟨rfl, rfl, Keeps.refl _ s, fun before r after h => by simp at h⟩

theorem Restored.skip (hr : p r = false) (h : Restored p rs s w) : Restored p (r :: rs) s w := by
  have count : (r :: rs).countP p = rs.countP p := List.countP_cons_of_neg (by simp [hr])
  refine ⟨h.pc, by rw [count, h.sp], by rw [List.filter_cons_of_neg (by simp [hr])]; exact h.keeps,
    fun before q after split hn hq => ?_⟩
  cases before with
  | nil =>
    obtain ⟨rfl, -⟩ := List.cons.inj split
    exact absurd (hr.symm.trans hq) Bool.false_ne_true
  | cons r' before =>
    obtain ⟨rfl, rest⟩ := List.cons.inj split
    rw [List.countP_cons_of_neg (by simp [hr])]
    exact h.slots before q after rest hn hq

/-- The state in which one register has been popped (R393). -/
def State.poppedReg (s : State) (r : Reg) : State :=
  (s.setSp (BitVec.ofNat 24 (s.sp.toNat + 4))).setReg r ((BitVec.ofNat 64 (load s.mem s.sp.toNat 4)).setWidth 32)

theorem poppedReg_sp (s : State) (r : Reg) (h : s.sp.toNat + 4 < 2 ^ 24) : (s.poppedReg r).sp.toNat = s.sp.toNat + 4 :=
  s.sp_moved h

theorem poppedReg_reg (s : State) (r : Reg) : ((s.poppedReg r).reg r).toNat = load s.mem s.sp.toNat 4 := by
  have bound := load_lt s.mem s.sp.toNat 4
  rw [State.poppedReg, State.reg_setReg_self, BitVec.toNat_setWidth, BitVec.toNat_ofNat]
  omega

theorem poppedReg_keeps (s : State) (r : Reg) : Keeps { regs := [r], special := [.sp] } s (s.poppedReg r) :=
  (setSp_keeps s _).trans (setReg_keeps _ r _) List.not_mem_nil

theorem poppedReg_pc (s : State) (r : Reg) : (s.poppedReg r).pc = s.pc := State.setSp_pc s _

theorem poppedReg_mem (s : State) (r : Reg) : (s.poppedReg r).mem = s.mem := State.setSp_mem s _

/-- A selected register is popped, and the others from above it. -/
theorem Restored.cons (hr : p r = true) (h4 : s.sp.toNat + 4 < 2 ^ 24) (h : Restored p rs (s.poppedReg r) w) :
    Restored p (r :: rs) s w := by
  have count : (r :: rs).countP p = rs.countP p + 1 := List.countP_cons_of_pos hr
  have keeps := (poppedReg_keeps s r).trans h.keeps List.not_mem_nil
  have moved := poppedReg_sp s r h4
  refine ⟨h.pc.trans (poppedReg_pc s r), by rw [h.sp, moved, count]; omega,
    keeps.mono (by simp [hr]) (by simp) (by simp) (by simp) (by simp), fun before q after split hn hq => ?_⟩
  cases before with
  | nil =>
    obtain ⟨rfl, rfl⟩ := List.cons.inj split
    rw [h.keeps.regs r fun hm => hn (List.mem_of_mem_filter hm), poppedReg_reg]
    rfl
  | cons r' before =>
    obtain ⟨rfl, rest⟩ := List.cons.inj split
    rw [h.slots before q after rest hn hq, moved, poppedReg_mem, List.countP_cons_of_pos hr]
    congr 1
    omega

/-- The registers that RESTORE and EXIT pop (R393). -/
def restores (list : Byte) (r : Reg) : Bool := list.getLsbD (7 - r.val)

theorem popRegs_restores (hs : s.plain) (hsp : s.sp.toNat + 4 * rs.countP (restores list) < 2 ^ 24) :
    ∃ w, Gives (popRegs list rs) s () w ∧ Restored (restores list) rs s w := by
  induction rs generalizing s with
  | nil => exact ⟨s, gives_return () s, Restored.nil _ s⟩
  | cons r rs ih =>
    show ∃ w, Gives (if restores list r = true then _ else _) s () w ∧ _
    by_cases hr : restores list r = true
    · have count : (r :: rs).countP (restores list) = rs.countP (restores list) + 1 := List.countP_cons_of_pos hr
      have plain := (poppedReg_keeps s r).plain_of (by simp) (by simp) hs
      obtain ⟨w, gives, loaded⟩ := ih plain (by rw [poppedReg_sp s r (by omega)]; omega)
      rw [if_pos hr]
      exact ⟨w, gives_after (pop_plain hs 4 (by omega) (by omega)) <| gives_after (gives_change _ _) gives,
        loaded.cons hr (by omega)⟩
    · rw [List.countP_cons_of_neg hr] at hsp
      obtain ⟨w, gives, loaded⟩ := ih hs hsp
      rw [if_neg hr]
      exact ⟨w, gives, loaded.skip (by simpa using hr)⟩

/-! ### The registers of a list -/

theorem listed_eq_countP (list : Byte) (n : Nat) : listed list n = (List.range n).countP fun k => list.getLsbD k :=
  List.countP_eq_length_filter.symm

/-- The bits of a list, counted over registers whose numbers, or the numbers of whose bits, are 0 to n-1. -/
theorem listed_eq_countP_map {f : Reg → Nat} (list : Byte) (h : List.range n = rs.map f) :
    listed list n = rs.countP fun r => list.getLsbD (f r) := by
  rw [listed_eq_countP, h, List.countP_map]
  rfl

theorem countP_saves (list : Byte) : (List.finRange 8).countP (saves list) = listed list 8 :=
  (listed_eq_countP_map (f := Fin.val) list (by decide)).symm

theorem countP_restores (list : Byte) : (List.finRange 8).reverse.countP (restores list) = listed list 8 :=
  (listed_eq_countP_map (f := fun r => 7 - r.val) list (by decide)).symm

/-- The registers before a register of a list in the order of SAVE, and it. -/
theorem listed_succ (r : Reg) (hr : saves list r = true) :
    listed list (r.val + 1) = ((List.finRange 8).take r.val).countP (saves list) + 1 := by
  have numbers : List.range r.val = ((List.finRange 8).take r.val).map Fin.val := by
    clear hr
    revert r
    decide
  rw [show ((List.finRange 8).take r.val).countP (saves list) = listed list r.val from
    (listed_eq_countP_map (f := Fin.val) list numbers).symm, listed_eq_countP, listed_eq_countP, List.range_succ,
    List.countP_append, List.countP_singleton, if_pos (show list.getLsbD r.val = true from hr)]

/-- The registers before a register in the order of RESTORE. -/
theorem listed_before (list : Byte) (r : Reg) :
    ((List.finRange 8).reverse.take (7 - r.val)).countP (restores list) = listed list (7 - r.val) := by
  have numbers : List.range (7 - r.val) = ((List.finRange 8).reverse.take (7 - r.val)).map fun q : Reg => 7 - q.val := by
    revert r
    decide
  exact (listed_eq_countP_map list numbers).symm

/-- The registers of a list pushed, R0 first: where each of them stands. -/
theorem Saved.listed_slot (h : Saved (saves list) (List.finRange 8) s w) (r : Reg) (hr : list.getLsbD r.val = true) :
    load w.mem (s.sp.toNat - 4 * listed list (r.val + 1)) 4 = (s.reg r).toNat := by
  have split : List.finRange 8 = (List.finRange 8).take r.val ++ r :: (List.finRange 8).drop (r.val + 1) := by
    clear hr
    revert r
    decide
  rw [listed_succ r hr]
  exact h.slots _ r _ split hr

/-- The registers of a list popped, R7 first: from where each of them has come. -/
theorem Restored.listed_slot (h : Restored (restores list) (List.finRange 8).reverse s w) (r : Reg)
    (hr : r ∈ restored list) : (w.reg r).toNat = load s.mem (s.sp.toNat + 4 * listed list (7 - r.val)) 4 := by
  have split : (List.finRange 8).reverse =
      (List.finRange 8).reverse.take (7 - r.val) ++ r :: (List.finRange 8).reverse.drop (8 - r.val) := by
    clear hr
    revert r
    decide
  have once : r ∉ (List.finRange 8).reverse.drop (8 - r.val) := by
    clear hr split
    revert r
    decide
  rw [← listed_before]
  exact h.slots _ r _ split once (List.mem_filter.mp hr).2

theorem Restored.listed_keeps (h : Restored (restores list) (List.finRange 8).reverse s w) :
    Keeps { regs := restored list, special := [.sp] } s w :=
  h.keeps.mono (fun r hr => by
    rw [List.filter_reverse, List.mem_reverse] at hr
    exact hr) (by simp) (by simp) (by simp) (by simp)

/-! ### The instructions -/

theorem setFp_keeps (s : State) (a : Addr) : Keeps { special := [.fp] } s { s with fp := a } :=
  { Keeps.refl _ s with fp := fun h => (h (.head _)).elim }

theorem save_completes (list : Byte) (hs : s.plain) (hsp : 4 * listed list 8 ≤ s.sp.toNat) (hf : s.fits (.save list)) :
    ∃ w, Completes (.save list) s w
        { cells := block (s.sp.toNat - 4 * listed list 8) (4 * listed list 8), special := [.sp] } ∧
      Saved (saves list) (List.finRange 8) s w := by
  obtain ⟨w, gives, saved⟩ := pushRegs_saves (rs := List.finRange 8) hs (by rwa [countP_saves])
  have keeps := saved.keeps
  rw [countP_saves] at keeps
  exact ⟨w, completes_of (exec_save list s) (gives_after gives (gives_return _ w)) saved.pc hf keeps, saved⟩

theorem restore_completes (list : Byte) (hs : s.plain) (hsp : s.sp.toNat + 4 * listed list 8 < 2 ^ 24)
    (hf : s.fits (.restore list)) :
    ∃ w, Completes (.restore list) s w { regs := restored list, special := [.sp] } ∧
      Restored (restores list) (List.finRange 8).reverse s w := by
  obtain ⟨w, gives, loaded⟩ := popRegs_restores (rs := (List.finRange 8).reverse) hs (by rwa [countP_restores])
  exact ⟨w, completes_of (exec_restore list s) (gives_after gives (gives_return _ w)) loaded.pc hf loaded.listed_keeps,
    loaded⟩

/-- The state in which ENTER has made a frame: FP points to the old FP, `t` being the state in which that has been pushed,
and SP has been moved below the local variables (R394). -/
def State.framed (t : State) (a : Nat) : State := ({ t with fp := t.sp } : State).setSp (BitVec.ofNat 24 a)

theorem framed_sp (t : State) (ha : a < 2 ^ 24) : (t.framed a).sp.toNat = a := State.sp_moved _ ha

theorem framed_fp (t : State) (a : Nat) : (t.framed a).fp = t.sp := State.setSp_fp _ _

theorem framed_keeps (t : State) (a : Nat) : Keeps { special := [.fp, .sp] } t (t.framed a) :=
  (setFp_keeps t t.sp).trans (setSp_keeps _ _) List.not_mem_nil

theorem enterBody_gives (hd : constant.ok = true) (h4 : 4 ≤ s.sp.toNat) (ht : PushedDouble (s.fp.setWidth 64) s t)
    (ha : (a : Int) = s.sp.toNat - 4 - constant.value) (h24 : a < 2 ^ 24)
    (hw : Gives (pushRegs list (List.finRange 8)) (t.framed a) () w) : Gives (enterBody list constant) s .seq w := by
  have moved : Gives (moveSp (t.sp.toNat - constant.value)) { t with fp := t.sp } () (t.framed a) := by
    rw [show (t.sp.toNat : Int) - constant.value = (a : Nat) by rw [ht.sp]; omega, State.framed,
      ← BitVec.ofInt_natCast]
    exact moveSp_ok (by omega) (by omega)
  exact gives_after (dispValue_ok hd) <| gives_after (gives_state s) <| gives_after ht.gives <|
    gives_after (gives_change _ t) <| gives_after (gives_state _) <| gives_after moved <|
    gives_after hw (gives_return _ w)

/-- ENTER pushes FP, then the registers from `a` down, the address to which the local variables reach. -/
theorem enter_completes (list : Byte) (hs : s.plain) (hd : constant.ok = true) (h4 : 4 ≤ s.sp.toNat)
    (ha : (a : Int) = s.sp.toNat - 4 - constant.value) (hn : 4 * listed list 8 ≤ a) (h24 : a < 2 ^ 24)
    (hf : s.fits (.enter list constant)) :
    ∃ t w, PushedDouble (s.fp.setWidth 64) s t ∧ Saved (saves list) (List.finRange 8) (t.framed a) w ∧
      Completes (.enter list constant) s w
        { cells := block (s.sp.toNat - 4) 4 ++ block (a - 4 * listed list 8) (4 * listed list 8),
          special := [.sp, .fp] } := by
  obtain ⟨t, pushed⟩ := pushed_double hs (s.fp.setWidth 64) h4
  have framed := pushed.keeps.trans (framed_keeps t a) List.not_mem_nil
  obtain ⟨w, gives, saved⟩ := pushRegs_saves (list := list) (rs := List.finRange 8)
    (framed.plain_of (by simp) (by simp) hs) (by rwa [countP_saves, framed_sp t h24])
  have keeps := framed.trans saved.keeps List.not_mem_nil
  rw [countP_saves, framed_sp t h24] at keeps
  have pc : w.pc = s.pc := saved.pc.trans ((State.setSp_pc _ _).trans pushed.pc)
  exact ⟨t, w, pushed, saved, completes_of (exec_enter list constant s) (enterBody_gives hd h4 pushed ha h24 gives) pc hf
    (keeps.mono (by simp) (by simp) (by simp) (by simp) (by simp))⟩

/-- The state in which EXIT has removed the frame of `t`, in which the registers have been popped (R395). -/
def State.unframed (t : State) : State :=
  { t.setSp (BitVec.ofNat 24 (t.fp.toNat + 4)) with fp := BitVec.ofNat 24 (load t.mem t.fp.toNat 4) }

theorem unframed_keeps (t : State) : Keeps { special := [.sp, .fp] } t t.unframed :=
  (setSp_keeps t _).trans (setFp_keeps _ _) List.not_mem_nil

theorem unframed_sp (t : State) (h : t.fp.toNat + 4 < 2 ^ 24) : t.unframed.sp.toNat = t.fp.toNat + 4 := t.sp_moved h

/-- FP takes the low bits of the double-word that it points to. -/
theorem unframed_gives (ht : t.plain) (h : t.fp.toNat + 4 < 2 ^ 24)
    (hw : Gives (popRegs list (List.finRange 8).reverse) s () t) : Gives (exitBody list) s .seq t.unframed := by
  have moved : Gives (moveSp t.fp.toNat) t () (t.setSp (BitVec.ofNat 24 t.fp.toNat)) := by
    rw [← BitVec.ofInt_natCast]
    exact moveSp_ok (by omega) (by omega)
  refine gives_after hw <| gives_after (gives_state t) <| gives_after moved <|
    gives_after (pop_moved ht (by omega) h) ?_
  rw [State.unframed, ← toAddr_load]
  exact gives_after (gives_change _ _) (gives_return _ _)

theorem exit_completes (list : Byte) (hs : s.plain) (hsp : s.sp.toNat + 4 * listed list 8 < 2 ^ 24)
    (hfp : s.fp.toNat + 4 < 2 ^ 24) (hf : s.fits (.exit list)) :
    ∃ t, Restored (restores list) (List.finRange 8).reverse s t ∧
      Completes (.exit list) s t.unframed { regs := restored list, special := [.sp, .fp] } := by
  obtain ⟨t, gives, loaded⟩ := popRegs_restores (rs := (List.finRange 8).reverse) hs (by rwa [countP_restores])
  have keeps := loaded.listed_keeps
  have unframed := unframed_gives (keeps.plain_of (by simp) (by simp) hs) (by rwa [keeps.fp (by simp)]) gives
  exact ⟨t, loaded, completes_of (exec_exit list s) unframed ((State.setSp_pc _ _).trans loaded.pc) hf
    ((keeps.trans (unframed_keeps t) List.not_mem_nil).mono (by simp) (by simp) (by simp) (by simp) (by simp))⟩

/-- Settles O47: SAVE and RESTORE push and pop the list; ENTER pushes FP before, EXIT pops it afterwards. -/
theorem contextInstructions : Obligations.ContextInstructions := by
  intro list s hs n sp
  refine ⟨fun hn hf => ?_, fun hn hf => ?_, ?_, fun hn hfp hf => ?_⟩
  · obtain ⟨w, completes, saved⟩ := save_completes list hs hn hf
    exact ⟨w, completes, by rw [saved.sp, countP_saves], saved.listed_slot⟩
  · obtain ⟨w, completes, loaded⟩ := restore_completes list hs hn hf
    exact ⟨w, completes, by rw [loaded.sp, countP_restores], loaded.listed_slot⟩
  · intro constant hd h4 hn h24 hf locals
    have exact_locals : (locals : Int) = sp - 4 - constant.value := Int.toNat_of_nonneg (by omega)
    obtain ⟨t, w, pushed, saved, completes⟩ := enter_completes list hs hd h4 exact_locals (by omega) (by omega) hf
    have top := framed_sp t (a := locals) (by omega)
    have below := saved.keeps
    rw [countP_saves, top] at below
    refine ⟨w, completes, ?_, ?_, fun h0 => ?_, fun r hr => ?_⟩
    · rw [below.fp (by simp), framed_fp, pushed.sp]
    · rw [saved.sp, countP_saves, top]
    · rw [below.load_apart fun k _ => by rw [mem_block]; omega, (framed_keeps t locals).load_apart (by simp),
        pushed.slot, uval, BitVec.toNat_setWidth_of_le (by omega)]
      exact Nat.mod_eq_of_lt (by omega)
    · have slot := saved.listed_slot r hr
      rwa [top, (framed_keeps t locals).regs r List.not_mem_nil, pushed.keeps.regs r List.not_mem_nil] at slot
  · obtain ⟨t, loaded, completes⟩ := exit_completes list hs hn hfp hf
    have fp : t.fp = s.fp := loaded.keeps.fp (by simp)
    have memory := loaded.keeps.load_apart (a := s.fp.toNat) (n := 4) (by simp)
    refine ⟨t.unframed, completes, ?_, ?_, fun r hr => ?_⟩
    · rw [unframed_sp t (by rwa [fp]), fp]
    · rw [State.unframed, fp, memory]
      exact BitVec.toNat_ofNat ..
    · rw [(unframed_keeps t).regs r List.not_mem_nil]
      exact loaded.listed_slot r hr

end Sys2Proof.Machine
end

section
/-! BICPSRi and BISPSRi (R398, R399): bits of the PSR cleared or set. -/

namespace Sys2Proof.Machine

variable {s s1 : State} {src : Gen} {l : Len} {v : QWord} {sets wide : Bool}

/-- The word that BISPSRi or BICPSRi of length `l` with operand `v` loads into the PSR, of which the implemented bits are
kept. -/
def psrBits (sets : Bool) (l : Len) (v : QWord) (psr : Word) : Word :=
  if sets then psr ||| BitVec.ofNat 16 (uval l.bytes v) else psr &&& ~~~BitVec.ofNat 16 (uval l.bytes v)

/-- The mask has the operand's bits and none above its length. -/
theorem mask_getLsbD (v : QWord) {k : Nat} (hk : k < 16) :
    (BitVec.ofNat 16 (uval l.bytes v)).getLsbD k = (decide (k < l.bits) && v.getLsbD k) := by
  rw [BitVec.getLsbD_ofNat, uval, Nat.testBit_mod_two_pow, ← bits_eq, BitVec.testBit_toNat]
  simp [hk]

theorem psrBits_getLsbD (psr : Word) {k : Nat} (hk : k < 16) : (psrBits sets l v psr).getLsbD k =
    if k < l.bits && v.getLsbD k then sets else psr.getLsbD k := by
  cases sets
  · rw [psrBits, if_neg Bool.false_ne_true, BitVec.getLsbD_and, BitVec.getLsbD_not, mask_getLsbD v hk]
    cases decide (k < l.bits) && v.getLsbD k <;> simp [hk]
  · rw [psrBits, if_pos rfl, BitVec.getLsbD_or, mask_getLsbD v hk]
    cases decide (k < l.bits) && v.getLsbD k <;> simp

/-- The PSR loaded with a word that agrees with it in the implemented bits outside a list of bits. -/
theorem setPsr_keeps (s : State) (p : Word) {flags : List Nat}
    (h : ∀ k < 16, k ∉ flags → (psrKeep p).getLsbD k = s.psr.getLsbD k) : Keeps { flags } s (s.setPsr p) := by
  refine { Keeps.refl _ s with flags := fun k hk => ?_ }
  by_cases h16 : k < 16
  · exact h k h16 hk
  · rw [BitVec.getLsbD_of_ge _ _ (by omega), BitVec.getLsbD_of_ge _ _ (by omega)]

theorem psrBitsBody_gives (hU : l ≠ .b → s.flag bitU = false) (hv : Gives (readInt l src) s v s1) :
    Gives (psrBitsBody l sets src) s .seqFlush (s1.setPsr (psrBits sets l v s1.psr)) := by
  have body : Gives (readInt l src >>= fun v => modify (fun s => s.setPsr (psrBits sets l v s.psr)) >>= fun _ =>
      (return .seqFlush : Act Next)) s .seqFlush (s1.setPsr (psrBits sets l v s1.psr)) :=
    gives_after hv <| gives_after (gives_change _ _) (gives_return _ _)
  show Gives (if l ≠ .b then _ else _) s _ _
  split
  · rename_i hl
    exact gives_after (privileged_passed (hU hl)) body
  · exact body

/-- The instruction that clears or sets bits, and its length: words in the W forms, bytes in the others. -/
theorem exec_psrBits (sets wide : Bool) (src : Gen) (s : State) :
    let l : Len := if wide then .w else .b
    let i :=
      if sets then byLen Instr.bispsrb Instr.bispsrw Instr.bispsrw l src
      else byLen Instr.bicpsrb Instr.bicpsrw Instr.bicpsrw l src
    exec i s = perform i.length (psrBitsBody l sets src) s :=
  match sets, wide with
  | false, false => exec_bicpsrb src s
  | false, true => exec_bicpsrw src s
  | true, false => exec_bispsrb src s
  | true, true => exec_bispsrw src s

/-- A bit of the PSR after the instruction (R398, R399, R34). -/
theorem psrBits_flag (s : State) {k : Nat} (hk : k < 16) : (s.setPsr (psrBits sets l v s.psr)).flag k =
    (psrMask.getLsbD k && (if k < l.bits && v.getLsbD k then sets else s.flag k)) := by
  rw [State.flag, State.setPsr_psr, psrKeep, BitVec.getLsbD_and, psrBits_getLsbD s.psr hk, Bool.and_comm]
  rfl

/-- The bits that an operand of length `l` cannot reach, reserved ones aside, stay. -/
theorem psrBits_keeps (s : State) {flags : List Nat}
    (h : ∀ k < 16, k ∉ flags → psrMask.getLsbD k = true ∧ l.bits ≤ k) :
    Keeps { flags } s (s.setPsr (psrBits sets l v s.psr)) :=
  setPsr_keeps s _ fun k hk hf => by
    obtain ⟨implemented, above⟩ := h k hk hf
    rw [← State.setPsr_psr s]
    refine (psrBits_flag s hk).trans ?_
    simp [implemented, Nat.not_lt.mpr above, State.flag]

/-- Settles O48: each of the four instructions performs `psrBitsBody`, which loads the word `psrBits`. -/
theorem statusBits : Obligations.StatusBits := by
  intro sets wide src s s1 v l i hv hU hf
  obtain ⟨keeps, pc⟩ := readOp_keeps hv
  have supervisor : l ≠ .b → s.flag bitU = false := fun hl => hU (by
    cases wide with
    | false => exact absurd rfl hl
    | true => rfl)
  have reached : ∀ k < 16, k ∉ (List.range 16).filter (fun k => wide || k < 8 || 12 ≤ k) →
      psrMask.getLsbD k = true ∧ l.bits ≤ k := by
    cases wide <;> decide
  refine ⟨s1.setPsr (psrBits sets l v s1.psr), ?_, ⟨_, rfl⟩, ?_, fun k hk => ?_⟩
  · rw [exec_psrBits sets wide src s, perform_of_gives (psrBitsBody_gives supervisor hv),
      finish_seqFlush (by rw [State.setPsr_pc, pc]; exact hf), State.setPsr_pc, pc]
    rfl
  · exact (keeps.trans (psrBits_keeps s1 reached) List.not_mem_nil).mono (by simp) (by simp) (by simp) (by simp) (by simp)
  · rw [psrBits_flag s1 hk, State.flag, keeps.flags k List.not_mem_nil]
    rfl

end Sys2Proof.Machine
end

section
/-! LPRi and SPRi (R400, R401), SFSR (R253) and SMR (R431): dedicated registers loaded and stored. -/

namespace Sys2Proof.Machine

variable {s s1 w : State} {src dest : Gen} {l : Len} {code : BitVec 4} {p : Procreg} {v : QWord} {x : Loc}
  {may : State → Prop} {instr : Gen → Instr}

/-! ### The register of a code -/

/-- A register that a state may load and store: PSR and INTBASE in Supervisor Mode only (R400, R401). -/
def Procreg.admits (p : Procreg) (s : State) : Prop := p = .psr ∨ p = .intbase → s.flag bitU = false

theorem selectProcreg_passed (hc : procregOf code = some p) (hl : procregFits p l = true) (hs : p.admits s) :
    Gives (selectProcreg code l) s p s := by
  have rest : Gives (ensure (procregFits p l) .procregLength >>= fun _ => (return p : Act Procreg)) s p s :=
    gives_after (ensure_passed hl _ s) (gives_return p s)
  rw [selectProcreg, hc]
  show Gives (if p = .psr ∨ p = .intbase then _ else _) s p s
  split
  · rename_i needed
    exact gives_after (privileged_passed (hs needed)) rest
  · exact rest

/-! ### LPRi -/

theorem lprBody_gives (hc : procregOf code = some p) (hl : procregFits p l = true) (hs : p.admits s)
    (hv : Gives (readInt l src) s v s1) : Gives (lprBody l code src) s .seq (s1.setProcreg p v) :=
  gives_after (selectProcreg_passed hc hl hs) <| gives_after hv <| gives_after (gives_change _ _) (gives_return _ _)

theorem State.setProcreg_pc (s : State) (p : Procreg) (v : QWord) : (s.setProcreg p v).pc = s.pc := by
  cases p with
  | sp => exact State.setSp_pc s _
  | _ => rfl

/-- The PSR bits that loading a dedicated register may change. -/
def Procreg.flags : Procreg → List Nat
  | .upsr => [0, 1, 2, 3, 4, 5, 6, 7, 12, 13, 14, 15]
  | .psr => List.range 16
  | _ => []

/-- The dedicated registers outside the PSR that loading one may change. -/
def Procreg.special : Procreg → List Special
  | .fp => [.fp]
  | .sp => [.sp]
  | .sb => [.sb]
  | .intbase => [.intbase]
  | .mod => [.mod]
  | _ => []

/-- The upper half of a word with a new lower half. -/
theorem extractHigh_append (psr : Word) (b : Byte) {k : Nat} (h8 : 8 ≤ k) (hk : k < 16) :
    (psr.extractLsb' 8 8 ++ b : BitVec (8 + 8)).getLsbD k = psr.getLsbD k := by
  rw [BitVec.getLsbD_append, if_neg (by omega), BitVec.getLsbD_extractLsb', Nat.add_sub_cancel' h8]
  simp [show k - 8 < 8 by omega]

/-- Loading a dedicated register changes that register (R400); the low byte of the PSR, and its reserved bits. -/
theorem setProcreg_keeps (s : State) (p : Procreg) (v : QWord) :
    Keeps { flags := p.flags, special := p.special } s (s.setProcreg p v) := by
  cases p with
  | upsr =>
    refine setPsr_keeps s _ fun k hk hf => ?_
    have implemented : 8 ≤ k ∧ psrMask.getLsbD k = true := by
      revert hf
      revert k
      decide
    rw [psrKeep, BitVec.getLsbD_and, extractHigh_append s.psr _ implemented.1 hk, implemented.2, Bool.and_true]
  | psr => exact setPsr_keeps s _ fun k hk hf => (hf (List.mem_range.mpr hk)).elim
  | sp => exact setSp_keeps s _
  | fp => exact { Keeps.refl _ s with fp := fun h => (h (.head _)).elim }
  | sb => exact { Keeps.refl _ s with sb := fun h => (h (.head _)).elim }
  | intbase => exact { Keeps.refl _ s with intbase := fun h => (h (.head _)).elim }
  | mod => exact { Keeps.refl _ s with mod := fun h => (h (.head _)).elim }

/-- A load of the register that a code names, in a length that goes with it. -/
theorem loadsRegister_of (hi : ∀ src s, exec (instr src) s = perform (instr src).length (lprBody l code src) s)
    (hc : procregOf code = some p) (hl : procregFits p l = true) (hp : ∀ s, may s → p.admits s) :
    LoadsRegister l may instr (fun v s => s.setProcreg p v) p.flags p.special := by
  intro src s s1 v hs hv hf
  obtain ⟨keeps, pc⟩ := readOp_keeps hv
  exact completes_of (hi src s) (lprBody_gives hc hl (hp s hs) hv) ((s1.setProcreg_pc p v).trans pc) hf
    (keeps.trans (setProcreg_keeps s1 p v) List.not_mem_nil)

theorem exec_lpr (code : BitVec 4) (src : Gen) (s : State) : ∀ l,
    exec (byLen Instr.lprb Instr.lprw Instr.lprd l code src) s =
      perform (byLen Instr.lprb Instr.lprw Instr.lprd l code src).length (lprBody l code src) s
  | .b => exec_lprb code src s
  | .w => exec_lprw code src s
  | .d => exec_lprd code src s

/-- A register that User Mode may use is admitted in any state. -/
theorem Procreg.admits_any (h : ¬(p = .psr ∨ p = .intbase)) (s : State) : p.admits s := fun hp => (h hp).elim

/-- Settles O49: each code names its register, and LPRi changes nothing but that register. -/
theorem loadedRegisters : Obligations.LoadedRegisters := by
  refine ⟨fun l => ?_, ?_, ?_, ?_, ?_, ?_, ?_⟩
  · exact loadsRegister_of (p := .upsr) (fun src s => exec_lpr _ src s l) rfl rfl fun s _ =>
      Procreg.admits_any (by decide) s
  · exact loadsRegister_of (p := .fp) (exec_lprd _) rfl rfl fun s _ => Procreg.admits_any (by decide) s
  · exact loadsRegister_of (p := .sp) (exec_lprd _) rfl rfl fun s _ => Procreg.admits_any (by decide) s
  · exact loadsRegister_of (p := .sb) (exec_lprd _) rfl rfl fun s _ => Procreg.admits_any (by decide) s
  · exact loadsRegister_of (p := .psr) (exec_lprw _) rfl rfl fun s hs _ => hs
  · exact loadsRegister_of (p := .intbase) (exec_lprd _) rfl rfl fun s hs _ => hs
  · exact loadsRegister_of (p := .mod) (exec_lprw _) rfl rfl fun s _ => Procreg.admits_any (by decide) s

/-! ### SPRi, SFSR and SMR -/

/-- The value is taken before the operand is located, which may be a push. -/
theorem sprBody_gives (hc : procregOf code = some p) (hl : procregFits p l = true) (hs : p.admits s)
    (hx : Gives (locateWrite .int l.bytes dest) s x s1) (hw : Gives (writeInt l x (s.procreg p)) s1 () w) :
    Gives (sprBody l code dest) s .seq w :=
  gives_after (selectProcreg_passed hc hl hs) <| gives_after (gives_state s) <| gives_after hx <|
    gives_after hw (gives_return _ _)

/-- An instruction that only locates and writes its operand sets it. -/
theorem setsOperand_of {body : Gen → Act Next} {f : State → QWord}
    (hi : ∀ dest s, exec (instr dest) s = perform (instr dest).length (body dest) s)
    (hb : ∀ {dest s s1 w x}, may s → Gives (locateWrite .int l.bytes dest) s x s1 →
      Gives (writeInt l x (f s)) s1 () w → Gives (body dest) s .seq w) : SetsOperand l may instr f := by
  intro dest s s1 w x hs hx hw hf
  obtain ⟨keeps, pc⟩ := reads_write_keeps (Reads.refl s) hx hw
  exact completes_of (hi dest s) (hb hs hx hw) pc hf keeps

/-- A store of the register that a code names, in a length that goes with it. -/
theorem storesRegister_of (hi : ∀ dest s, exec (instr dest) s = perform (instr dest).length (sprBody l code dest) s)
    (hc : procregOf code = some p) (hl : procregFits p l = true) (hp : ∀ s, may s → p.admits s) :
    SetsOperand l may instr fun s => s.procreg p :=
  setsOperand_of hi fun hs hx hw => sprBody_gives hc hl (hp _ hs) hx hw

theorem exec_spr (code : BitVec 4) (dest : Gen) (s : State) : ∀ l,
    exec (byLen Instr.sprb Instr.sprw Instr.sprd l code dest) s =
      perform (byLen Instr.sprb Instr.sprw Instr.sprd l code dest).length (sprBody l code dest) s
  | .b => exec_sprb code dest s
  | .w => exec_sprw code dest s
  | .d => exec_sprd code dest s

/-- The implemented bits of the low byte of the PSR. -/
theorem procreg_upsr (s : State) : s.procreg .upsr = (s.psr &&& 0x00E7).setWidth 64 := by
  rw [State.procreg, BitVec.and_assoc]
  rfl

theorem sfsrBody_gives (hs : s.fpuReady) (hx : Gives (locateWrite .int 4 dest) s x s1)
    (hw : Gives (writeInt .d x (s.fsr.setWidth 64)) s1 () w) : Gives (sfsrBody dest 0) s .seq w :=
  gives_after (needsFpu_passed hs) <| gives_after (mustBeZero_passed 5 s) <| gives_after (gives_state s) <|
    gives_after hx <| gives_after hw (gives_return _ _)

/-- The table gives each register as its code reads it (R176). -/
theorem get_of_mmuTable {q : BitVec 4 × (MmuRegs → DWord)} (h : q ∈ mmuTable) (m : MmuRegs) :
    MmuRegs.get m q.1 = some (q.2 m) := by
  simp only [mmuTable, List.mem_cons, List.not_mem_nil, or_false] at h
  rcases h with rfl | rfl | rfl | rfl | rfl | rfl | rfl | rfl | rfl | rfl <;> rfl

theorem smrBody_gives {m : DWord} (hs : s.mmuReady) (hm : MmuRegs.get s.mmu code = some m)
    (hx : Gives (locateWrite .int 4 dest) s x s1) (hw : Gives (writeInt .d x (m.setWidth 64)) s1 () w) :
    Gives (smrBody code dest 0) s .seq w := by
  refine gives_after (needsMmu_passed hs) <| gives_after (mustBeZero_passed 1 s) <| gives_after (gives_state s) ?_
  rw [hm]
  exact gives_after hx <| gives_after hw (gives_return _ _)

/-- Settles O50: each instruction tests what it must, reads its register, then locates and writes its operand. -/
theorem storedRegisters : Obligations.StoredRegisters := by
  refine ⟨fun l => ?_, ?_, ?_, ?_, ?_, ?_, ?_, ?_, fun q hq => ?_⟩
  · rw [← funext procreg_upsr]
    exact storesRegister_of (fun dest s => exec_spr _ dest s l) rfl rfl fun s _ => Procreg.admits_any (by decide) s
  · exact storesRegister_of (p := .fp) (exec_sprd _) rfl rfl fun s _ => Procreg.admits_any (by decide) s
  · exact storesRegister_of (p := .sp) (exec_sprd _) rfl rfl fun s _ => Procreg.admits_any (by decide) s
  · exact storesRegister_of (p := .sb) (exec_sprd _) rfl rfl fun s _ => Procreg.admits_any (by decide) s
  · exact storesRegister_of (p := .psr) (exec_sprw _) rfl rfl fun s hs _ => hs
  · exact storesRegister_of (p := .intbase) (exec_sprd _) rfl rfl fun s hs _ => hs
  · exact storesRegister_of (p := .mod) (exec_sprw _) rfl rfl fun s _ => Procreg.admits_any (by decide) s
  · exact setsOperand_of (fun dest s => exec_sfsr dest 0 s) sfsrBody_gives
  · exact setsOperand_of (fun dest s => exec_smr q.1 dest 0 s) fun hs => smrBody_gives hs (get_of_mmuTable hq _)

end Sys2Proof.Machine
end

section
/-! ADJSPi, NOP, SETCFG, WAIT and DIA (R397, R402 to R405). -/

namespace Sys2Proof.Machine

variable {s s1 : State} {src : Gen} {l : Len} {v : QWord}

theorem adjspBody_gives (hv : Gives (readInt l src) s v s1) (h0 : 0 ≤ s1.sp.toNat - sval l.bytes v)
    (h1 : s1.sp.toNat - sval l.bytes v < 2 ^ 24) :
    Gives (adjspBody l src) s .seq (s1.setSp (BitVec.ofInt 24 (s1.sp.toNat - sval l.bytes v))) :=
  gives_after hv <| gives_after (gives_state s1) <| gives_after (moveSp_ok h0 h1) (gives_return _ _)

theorem exec_adjsp (src : Gen) (s : State) : ∀ l,
    exec (byLen Instr.adjspb Instr.adjspw Instr.adjspd l src) s =
      perform (byLen Instr.adjspb Instr.adjspw Instr.adjspd l src).length (adjspBody l src) s
  | .b => exec_adjspb src s
  | .w => exec_adjspw src s
  | .d => exec_adjspd src s

/-- No operand moves a dedicated register other than the stack pointer. -/
theorem movesSp_subset (g : Gen) : movesSp g ⊆ [.sp] := by
  unfold movesSp
  split
  · exact List.Subset.refl _
  · exact List.nil_subset _

theorem setcfgBody_gives (hU : s.flag bitU = false) (list : BitVec 4) :
    Gives (setcfgBody list 0) s .seq { s with cfg := list } :=
  gives_after (privileged_passed hU) <| gives_after (mustBeZero_passed 6 s) <| gives_after (gives_change _ s)
    (gives_return _ _)

theorem setCfg_keeps (s : State) (list : BitVec 4) : Keeps { special := [.cfg] } s { s with cfg := list } :=
  { Keeps.refl _ s with cfg := fun h => (h (.head _)).elim, bcnt := fun _ h => (h (.head _)).elim }

/-- Settles O52: ADJSPi moves the stack pointer once its operand has been read; the others have no operand in memory. -/
theorem serviceInstructions : Obligations.ServiceInstructions := by
  refine ⟨fun l src s s1 v hv h0 h1 hf => ?_, fun s hf => ⟨rfl, ?_⟩, fun s list hU hf => ?_, fun s => ?_, fun s => ?_⟩
  · obtain ⟨keeps, pc⟩ := readOp_keeps hv
    have operand : Keeps { special := [.sp] } s s1 :=
      keeps.mono (by simp) (by simp) (by simp) (by simp) (movesSp_subset src)
    exact completes_of (exec_adjsp src s l) (adjspBody_gives hv h0 h1) ((State.setSp_pc s1 _).trans pc) hf
      (operand.setSp (.head _) List.not_mem_nil _)
  · exact completes_of (exec_nop s) (gives_return _ s) rfl hf (Keeps.refl _ s)
  · exact completes_of (exec_setcfg list 0 s) (setcfgBody_gives hU list) rfl hf (setCfg_keeps s list)
  · rw [exec_wait, perform_of_gives (gives_return _ s)]
    rfl
  · rw [exec_dia, perform_of_gives (gives_return _ s)]
    rfl

end Sys2Proof.Machine
end

section
/-! Accesses of the memory-management unit: what it maps, and what is abandoned where it refuses (R102, R437, R63). -/

namespace Sys2Proof.Machine

variable {s t : State} {mode : Mode} {kind : AccessKind} {a n : Nat} {p q : State → Prop}

/-! ### One byte -/

theorem gives_put (u s : State) : Gives (set u : Act PUnit) s () u := (gives_set ..).mpr rfl

/-- The exact address of an access in the space is a natural number. -/
theorem ofInt_of_nonneg {x : Int} (h : 0 ≤ x) : BitVec.ofInt 24 x = BitVec.ofNat 24 x.toNat := by
  rw [← BitVec.ofInt_natCast, Int.toNat_of_nonneg h]

/-- The MMU records a refused access at an address of the space (R63). -/
theorem recordAbort_recorded (ha : a < 2 ^ 24) (s : State) (mode : Mode) (kind : AccessKind) :
    AbortRecorded s (s.recordAbort (BitVec.ofNat 24 a) mode kind) a := by
  refine ⟨?_, rfl⟩
  apply BitVec.eq_of_toNat_eq
  show ((BitVec.ofNat 24 a).setWidth 32).toNat = _
  rw [BitVec.toNat_setWidth, BitVec.toNat_ofNat, BitVec.toNat_ofNat, Nat.mod_eq_of_lt ha]

theorem physical_mapped (ht : s.translating = true) (hm : s.maps mode kind a) :
    ∃ pa, Gives (physical (BitVec.ofNat 24 a) mode kind) s pa s := by
  obtain ⟨pa, hpa⟩ := hm
  refine ⟨pa, gives_after (gives_state s) ?_⟩
  rw [if_pos ht, hpa]
  exact gives_return pa s

theorem physical_refused {va : Addr} (ht : s.translating = true)
    (hm : ∀ pa, Config.translate s.mmu s.buffer s.mem va mode kind ≠ .mapped pa) :
    Abandons (physical va mode kind) s (.trap .abt) (s.recordAbort va mode kind) := by
  refine abandons_after (gives_state s) ?_
  rw [if_pos ht]
  have refused : Abandons (set (s.recordAbort va mode kind) >>= fun _ => (raise .abt : Act Addr)) s (.trap .abt)
      (s.recordAbort va mode kind) := abandons_after (gives_put _ _) (raises .abt)
  split
  · rename_i pa e
    exact absurd e (hm pa)
  · exact refused

theorem physical_unmapped (ht : s.translating = true) (hm : ¬s.maps mode kind a) :
    Abandons (physical (BitVec.ofNat 24 a) mode kind) s (.trap .abt) (s.recordAbort (BitVec.ofNat 24 a) mode kind) :=
  physical_refused ht fun pa e => hm ⟨pa, e⟩

/-! ### Several bytes -/

/-- An access is refused at the first byte that is not mapped; those before it leave no trace (log 15). -/
theorem physicals_refused (ht : s.translating = true) {k : Nat} (hk : k < n)
    (before : ∀ j < k, s.maps mode kind (a + j)) (here : ¬s.maps mode kind (a + k)) :
    Abandons (physicals mode kind a n) s (.trap .abt) (s.recordAbort (BitVec.ofNat 24 (a + k)) mode kind) := by
  induction n generalizing a k with
  | zero => omega
  | succ n ih =>
    cases k with
    | zero => exact abandons_at (physical_unmapped ht here)
    | succ k =>
      obtain ⟨pa, mapped⟩ := physical_mapped ht (before 0 (by omega))
      have shift (j : Nat) : a + 1 + j = a + (j + 1) := by omega
      have rest := ih (a := a + 1) (k := k) (by omega) (fun j hj => shift j ▸ before (j + 1) (by omega))
        (shift k ▸ here)
      rw [shift] at rest
      exact abandons_after mapped (abandons_at rest)

/-- Some bytes are all mapped, or there is a first that is not. -/
theorem mappedOr_of_refused (ha : a + n ≤ 2 ^ 24)
    (h : ∀ k < n, (∀ j < k, s.maps mode kind (a + j)) → ¬s.maps mode kind (a + k) →
      p (s.recordAbort (BitVec.ofNat 24 (a + k)) mode kind)) : MappedOr s mode kind a n p := by
  classical
  by_cases all : ∀ k, k < n → s.maps mode kind (a + k)
  · exact .inl all
  · have some : ∃ k, k < n ∧ ¬s.maps mode kind (a + k) := by
      simpa using all
    obtain ⟨inside, unmapped⟩ := Nat.find_spec some
    have before : ∀ j < Nat.find some, s.maps mode kind (a + j) := fun j hj =>
      not_not.mp fun hn => Nat.find_min some hj ⟨hj.trans inside, hn⟩
    exact .inr ⟨_, inside, before, unmapped, _, recordAbort_recorded (by omega) s mode kind,
      h _ inside before unmapped⟩

theorem MappedOr.mono (h : MappedOr s mode kind a n p) (hpq : ∀ u, p u → q u) : MappedOr s mode kind a n q :=
  h.imp_right fun ⟨k, hk, before, here, u, recorded, hu⟩ => ⟨k, hk, before, here, u, recorded, hpq u hu⟩

theorem access_mappedOr (ht : s.translating = true) (ha : a + n ≤ 2 ^ 24) :
    MappedOr s mode kind a n fun u => Abandons (access mode kind a n) s (.trap .abt) u :=
  mappedOr_of_refused ha fun _ hk before here => abandons_at (physicals_refused ht hk before here)

/-! ### Reads, writes and fetches -/

variable {x : Int}

theorem memReadAs_mappedOr (ht : s.translating = true) (hx : inSpace x n = true) :
    MappedOr s mode .read x.toNat n fun u => Abandons (memReadAs mode x n) s (.trap .abt) u := by
  have range := (inSpace_iff x n).mp hx
  exact (access_mappedOr ht (by omega)).mono fun _ refused =>
    abandons_after (ensure_passed hx _ s) (abandons_at refused)

theorem memWriteAs_mappedOr (ht : s.translating = true) (hx : inSpace x n = true) :
    MappedOr s mode .write x.toNat n fun u => ∀ v, Abandons (memWriteAs mode x n v) s (.trap .abt) u := by
  have range := (inSpace_iff x n).mp hx
  exact (access_mappedOr ht (by omega)).mono fun _ refused _ =>
    abandons_after (ensure_passed hx _ s) (abandons_at refused)

theorem fetchByte_mappedOr (ht : s.translating = true) (hx : inSpace x 1 = true) :
    MappedOr s s.mode .execute x.toNat 1 fun u => Abandons (fetchByte x) s (.trap .abt) u := by
  have range := (inSpace_iff x 1).mp hx
  refine mappedOr_of_refused (by omega) fun k hk _ here => ?_
  obtain rfl : k = 0 := by omega
  have refused := physical_unmapped ht here
  rw [Nat.add_zero, ← ofInt_of_nonneg range.1] at refused ⊢
  exact abandons_after (ensure_passed hx _ s) <| abandons_after (gives_state s) (abandons_at refused)

end Sys2Proof.Machine
end

section
/-! RDVAL, WRVAL, MOVSUi and MOVUSi (R432 to R435). -/

namespace Sys2Proof.Machine

variable {s s1 s2 s3 u w : State} {kind : AccessKind} {loc src dest : Gen} {a b : Int} {v : QWord} {allowed : Bool}

/-! ### The protection test -/

/-- The part of RDVAL and WRVAL that asks the MMU, in the state it is asked in: whether User Mode may make the access. -/
def State.probe (s : State) (kind : AccessKind) (a : Int) : Act Bool :=
  if s.translating then
    match Config.translate s.mmu s.buffer s.mem (BitVec.ofInt 24 a) .user kind with
    | .mapped _ => set (s.recordProbe (BitVec.ofInt 24 a) kind) >>= fun _ => pure true
    | .refused => set (s.recordProbe (BitVec.ofInt 24 a) kind) >>= fun _ => pure false
    | .invalid => physical (BitVec.ofInt 24 a) .user kind >>= fun _ => pure true
  else pure true

theorem probe_idle (ht : s.translating = false) (kind : AccessKind) (a : Int) : Gives (s.probe kind a) s true s := by
  rw [State.probe, if_neg (by simp [ht])]
  exact gives_return true s

theorem probe_mapped (ht : s.translating = true) {pa : Addr}
    (hm : Config.translate s.mmu s.buffer s.mem (BitVec.ofInt 24 a) .user kind = .mapped pa) :
    Gives (s.probe kind a) s true (s.recordProbe (BitVec.ofInt 24 a) kind) := by
  rw [State.probe, if_pos ht, hm]
  exact gives_after (gives_put _ _) (gives_return true _)

theorem probe_refused (ht : s.translating = true)
    (hm : Config.translate s.mmu s.buffer s.mem (BitVec.ofInt 24 a) .user kind = .refused) :
    Gives (s.probe kind a) s false (s.recordProbe (BitVec.ofInt 24 a) kind) := by
  rw [State.probe, if_pos ht, hm]
  exact gives_after (gives_put _ _) (gives_return false _)

theorem probe_invalid (ht : s.translating = true)
    (hm : Config.translate s.mmu s.buffer s.mem (BitVec.ofInt 24 a) .user kind = .invalid) :
    Abandons (s.probe kind a) s (.trap .abt) (s.recordAbort (BitVec.ofInt 24 a) .user kind) := by
  rw [State.probe, if_pos ht, hm]
  exact abandons_at (physical_refused ht fun pa e => nomatch hm.symm.trans e)

theorem validateBody_gives (hs : s.mmuReady) (ha : Gives (addrOp loc) s a s1)
    (hp : Gives (s1.probe kind a) s1 allowed u) : Gives (validateBody kind loc 0) s .seq (u.setFlag bitF (!allowed)) :=
  gives_after (needsMmu_passed hs) <| gives_after (mustBeZero_passed 5 s) <| gives_after ha <|
    gives_after (gives_state s1) <| gives_after hp <| gives_after (gives_change _ u) (gives_return _ _)

theorem validateBody_abandons {x : Stop} (hs : s.mmuReady) (ha : Gives (addrOp loc) s a s1)
    (hp : Abandons (s1.probe kind a) s1 x u) : Abandons (validateBody kind loc 0) s x u :=
  abandons_after (needsMmu_passed hs) <| abandons_after (mustBeZero_passed 5 s) <| abandons_after ha <|
    abandons_after (gives_state s1) <| abandons_at hp

/-! ### The instructions -/

theorem exec_validate (writes : Bool) (loc : Gen) (s : State) :
    let i : Instr := if writes then .wrval loc 0 else .rdval loc 0
    exec i s = perform i.length (validateBody (if writes then .write else .read) loc 0) s :=
  match writes with
  | true => exec_wrval loc 0 s
  | false => exec_rdval loc 0 s

/-- A protection test that answers sets or clears F; what it leaves in the Translation Buffer is not constrained. -/
theorem validate_completes {i : Instr} (hi : exec i s = perform i.length (validateBody kind loc 0) s) (hs : s.mmuReady)
    (hf : s.fits i) (ha : Gives (addrOp loc) s a s1) {buffer : Nat}
    (hp : Gives (s1.probe kind a) s1 allowed { s1 with buffer }) :
    Completes i s ({ s1 with buffer }.setFlag bitF (!allowed)) { flags := [bitF] } := by
  have located := (addrOp_reads ha).1
  have tested : Keeps {} s { s1 with buffer } :=
    (located.keeps {}).trans (setBuffer_keeps s1 buffer) List.not_mem_nil
  exact completes_of hi (validateBody_gives hs ha hp) located.pc hf (tested.setF rfl _)

theorem moveSpaceBody_gives {l : Len} {from_ to_ : Mode} (hU : s.flag bitU = false) (ha : Gives (addrOp src) s a s1)
    (hb : Gives (addrOp dest) s1 b s2) (hv : Gives (memReadAs from_ a l.bytes) s2 v s3)
    (hw : Gives (memWriteAs to_ b l.bytes v) s3 () w) : Gives (moveSpaceBody l from_ to_ src dest) s .seqFlush w :=
  gives_after (privileged_passed hU) <| gives_after ha <| gives_after hb <| gives_after hv <|
    gives_after hw (gives_return _ w)

theorem exec_moveSpace (toUser : Bool) (src dest : Gen) (s : State) : ∀ l,
    let i :=
      if toUser then byLen Instr.movsub Instr.movsuw Instr.movsud l src dest
      else byLen Instr.movusb Instr.movusw Instr.movusd l src dest
    exec i s = perform i.length (moveSpaceBody l (if toUser then .supervisor else .user)
      (if toUser then .user else .supervisor) src dest) s :=
  match toUser with
  | true => fun l =>
    performs_byLen (body := (moveSpaceBody · .supervisor .user)) exec_movsub exec_movsuw exec_movsud l src dest s
  | false => fun l =>
    performs_byLen (body := (moveSpaceBody · .user .supervisor)) exec_movusb exec_movusw exec_movusd l src dest s

/-- Settles O53: MOVSUi and MOVUSi by their body, RDVAL and WRVAL by what the protection test answers. -/
theorem userSpaceInstructions : Obligations.UserSpaceInstructions := by
  constructor
  · intro toUser l src dest s s1 s2 s3 w a b v i from_ to_ hU ha hb hv hw hf
    have read : Reads s s3 := ((addrOp_reads ha).1.trans (addrOp_reads hb).1).trans (memReadAs_reads hv)
    have stored := memWriteAs_stores hw
    have pc : w.pc = s.pc := stored.pc.trans read.pc
    refine ⟨?_, (read.keeps {}).trans stored.keeps List.not_mem_nil⟩
    rw [exec_moveSpace toUser src dest s l, perform_of_gives (moveSpaceBody_gives hU ha hb hv hw),
      finish_seqFlush (by rw [pc]; exact hf), pc]
    rfl
  · intro writes loc s s1 a i kind seen hs ha hf
    have performed : exec i s = perform i.length (validateBody kind loc 0) s := exec_validate writes loc s
    obtain ⟨located, inside, below⟩ := addrOp_reads ha
    have active : s1.translating = s.translating := located.translating
    refine ⟨fun ht => ?_, fun ht hm => ?_, fun ht pa hm => ?_, fun ht hm => ?_⟩
    · exact validate_completes performed hs hf ha (probe_idle (active.trans ht) kind a)
    · exact ⟨_, validate_completes performed hs hf ha (probe_refused (active.trans ht) hm)⟩
    · exact ⟨_, validate_completes performed hs hf ha (probe_mapped (active.trans ht) hm)⟩
    · have aborted := probe_invalid (active.trans ht) hm
      rw [ofInt_of_nonneg inside] at aborted
      refine ⟨_, recordAbort_recorded (by omega) s1 .user kind, ?_⟩
      rw [performed, perform_of_abandons (validateBody_abandons hs ha aborted)]
      rfl

end Sys2Proof.Machine
end

section
/-! Accesses where no address is translated: an access is the reading or writing of its bytes, one after the other, whatever
the memory map says of each (R84, R100, R587). -/

namespace Sys2Proof.Machine

variable {α β : Type} {s t u : State} {mode : Mode} {n : Nat} {x : Int} {v w : QWord} {b c : Byte} {rest : List Byte}
  {pa : Addr} {pas : List Addr} {z : Stop}

/-! ### An access as its bytes -/

theorem run_after {m : Act α} {k : α → Act β} {a : α} (h : Gives m s a u) : (m >>= k).run s = (k a).run u := by
  show EStateM.bind m k s = _
  rw [EStateM.bind, show m s = _ from h]
  rfl

/-- An action is abandoned for one reason. -/
theorem Abandons.unique {m : Act α} {y : Stop} (h : Abandons m s z t) (k : Abandons m s y u) : z = y :=
  (EStateM.Result.error.inj (h.symm.trans k)).1

/-- The addresses of `n` bytes. -/
def places (a n : Nat) : List Addr := (List.range n).map fun k => BitVec.ofNat 24 (a + k)

theorem places_succ (a n : Nat) : places a (n + 1) = BitVec.ofNat 24 a :: places (a + 1) n := by
  rw [places, List.range_succ_eq_map, List.map_cons, List.map_map]
  refine congrArg _ (List.map_congr_left fun k _ => ?_)
  show BitVec.ofNat 24 (a + (k + 1)) = _
  rw [Nat.add_right_comm, Nat.add_assoc]

theorem memRead_run (ht : s.translating = false) (hx : inSpace x n = true) :
    (memRead x n).run s = (readBytes (places x.toNat n)).run s := by
  rw [memRead, run_after (gives_state s), memReadAs, run_after (ensure_passed hx _ s),
    run_after (access_direct ht s.mode .read n x.toNat), places]

theorem memWrite_run (ht : s.translating = false) (hx : inSpace x n = true) (v : QWord) :
    (memWrite x n v).run s = (writeBytes (places x.toNat n) v).run s := by
  rw [memWrite, run_after (gives_state s), memWriteAs, run_after (ensure_passed hx _ s),
    run_after (access_direct ht s.mode .write n x.toNat), places]

/-- An access of one byte is made at its address. -/
theorem places_one (hx : inSpace x 1 = true) : places x.toNat 1 = [BitVec.ofInt 24 x] := by
  rw [places_succ, ofInt_of_nonneg ((inSpace_iff x 1).mp hx).1]
  rfl

theorem ofInt_toNat (hx : inSpace x 1 = true) : (BitVec.ofInt 24 x).toNat = x.toNat := by
  have range := (inSpace_iff x 1).mp hx
  rw [ofInt_of_nonneg range.1, BitVec.toNat_ofNat]
  omega

/-- A fetch of a byte is a read of it, unless it was stored to since the queue was flushed (R103). -/
theorem fetchByte_run (ht : s.translating = false) (hx : inSpace x 1 = true) :
    (fetchByte x).run s =
      (if x.toNat ∈ s.queueDirty then refuse .storedIntoQueue else readByte (BitVec.ofInt 24 x)).run s := by
  rw [fetchByte, run_after (ensure_passed hx _ s), run_after (gives_state s),
    run_after (physical_direct ht _ s.mode .execute), run_after (gives_state s), ofInt_toNat hx]
  split <;> rfl

/-! ### One byte, by what lies at its address -/

theorem answer_ready (h : s.answers = b :: rest) : Gives answer s b { s with answers := rest } := by
  refine gives_after (gives_state s) ?_
  rw [h]
  exact gives_after (gives_change _ s) (gives_return b _)

theorem answer_free (h : s.answers = []) :
    Gives answer s ((Config.freeValue s.draws).setWidth 8) { s with draws := s.draws + 1 } := by
  refine gives_after (gives_state s) ?_
  split
  · rename_i ready
    cases h.symm.trans ready
  · exact gives_after ((gives_draw ..).mpr ⟨rfl, rfl⟩) (gives_return _ _)

theorem readByte_stored (h : s.platform.kindAt pa.toNat = .ram ∨ s.platform.kindAt pa.toNat = .rom) :
    Gives (readByte pa) s (Memory.read s.mem pa.toNat) s := by
  refine gives_after (gives_state s) ?_
  rcases h with h | h
  · rw [h]
    exact gives_return _ s
  · rw [h]
    exact gives_return _ s

theorem readByte_device (h : s.platform.kindAt pa.toNat = .device) (ha : Gives answer s b u) :
    Gives (readByte pa) s b { u with events := u.events ++ [.deviceRead pa b] } := by
  refine gives_after (gives_state s) ?_
  rw [h]
  exact gives_after ha <| gives_after (gives_change _ u) (gives_return b _)

theorem readByte_absent (h : s.platform.kindAt pa.toNat = .absent) :
    Abandons (readByte pa) s (.fault .absentAddress) s := by
  refine abandons_after (gives_state s) ?_
  rw [h]
  exact (abandons_stop ..).mpr ⟨rfl, rfl⟩

theorem writeByte_ram (h : s.platform.kindAt pa.toNat = .ram) (b : Byte) :
    Gives (writeByte pa b) s () (s.storeByte pa.toNat b) := by
  refine gives_after (gives_state s) ?_
  rw [h]
  exact gives_put _ s

theorem writeByte_rom (h : s.platform.kindAt pa.toNat = .rom) (b : Byte) : Gives (writeByte pa b) s () s := by
  refine gives_after (gives_state s) ?_
  rw [h]
  exact gives_return () s

theorem writeByte_device (h : s.platform.kindAt pa.toNat = .device) (b : Byte) : Gives (writeByte pa b) s ()
    { s with events := s.events ++ [.deviceWrite pa b], queueDirty := s.dirtied pa.toNat } := by
  refine gives_after (gives_state s) ?_
  rw [h]
  exact gives_after (gives_change _ s) (gives_change _ _)

theorem writeByte_absent (h : s.platform.kindAt pa.toNat = .absent) (b : Byte) :
    Abandons (writeByte pa b) s (.fault .absentAddress) s := by
  refine abandons_after (gives_state s) ?_
  rw [h]
  exact (abandons_stop ..).mpr ⟨rfl, rfl⟩

/-! ### The bytes of an access -/

theorem readBytes_one (h : Gives (readByte pa) s b t) : Gives (readBytes [pa]) s (b.setWidth 64) t := by
  have whole : Gives (readBytes [pa]) s ((0 : QWord) <<< 8 ||| b.setWidth 64) t :=
    gives_after h <| gives_after (gives_return 0 t) (gives_return _ t)
  have value : (0 : QWord) <<< 8 ||| b.setWidth 64 = b.setWidth 64 := by simp
  rwa [value] at whole

theorem readBytes_one_iff : Gives (readBytes [pa]) s v t ↔
    ∃ b : Byte, v = b.setWidth 64 ∧ Gives (readByte pa) s b t := by
  constructor
  · intro h
    obtain ⟨b, u, read, rest⟩ := (gives_bind ..).mp h
    obtain ⟨_, _, empty, value⟩ := (gives_bind ..).mp rest
    obtain ⟨rfl, rfl⟩ := (gives_pure ..).mp empty
    obtain ⟨-, rfl⟩ := (gives_pure ..).mp value
    exact ⟨b, (h.unique (readBytes_one read)).1, read⟩
  · rintro ⟨b, rfl, read⟩
    exact readBytes_one read

theorem shift_or_byte (v : QWord) (b : Byte) :
    v <<< 8 ||| b.setWidth 64 = BitVec.ofNat 64 ((b.setWidth 64).toNat + 256 * v.toNat) := by
  have low := b.isLt
  apply BitVec.eq_of_toNat_eq
  rw [← BitVec.add_eq_or_of_and_eq_zero]
  · simp only [BitVec.toNat_add, BitVec.toNat_shiftLeft, BitVec.toNat_ofNat, BitVec.toNat_setWidth, Nat.shiftLeft_eq]
    omega
  · apply BitVec.eq_of_getLsbD_eq
    intro k _
    by_cases h8 : k < 8
    · simp [h8]
    · simp [BitVec.getLsbD_of_ge b k (by omega)]

/-- The byte at the lowest address is read first and is the least significant (R84). -/
theorem readBytes_cons (first : Gives (readBytes [pa]) s v u) (others : Gives (readBytes pas) u w t) :
    Gives (readBytes (pa :: pas)) s (BitVec.ofNat 64 (v.toNat + 256 * w.toNat)) t := by
  obtain ⟨b, rfl, read⟩ := readBytes_one_iff.mp first
  rw [← shift_or_byte]
  exact gives_after read <| gives_after others (gives_return _ t)

theorem writeBytes_one_iff : Gives (writeBytes [pa] v) s () t ↔ Gives (writeByte pa (v.setWidth 8)) s () t := by
  constructor
  · intro h
    obtain ⟨_, _, written, rest⟩ := (gives_bind ..).mp h
    obtain ⟨-, rfl⟩ := (gives_pure ..).mp rest
    exact written
  · exact fun written => gives_after written (gives_return () t)

/-! ### Where an access stops -/

theorem readByte_stops (h : Abandons (readByte pa) s z t) : z = .fault .absentAddress := by
  rcases kind : s.platform.kindAt pa.toNat with _ | _ | _ | _
  · exact ((readByte_stored (.inl kind)).not_abandons h).elim
  · exact ((readByte_stored (.inr kind)).not_abandons h).elim
  · cases answers : s.answers with
    | nil => exact ((readByte_device kind (answer_free answers)).not_abandons h).elim
    | cons b rest => exact ((readByte_device kind (answer_ready answers)).not_abandons h).elim
  · exact h.unique (readByte_absent kind)

theorem writeByte_stops (h : Abandons (writeByte pa b) s z t) : z = .fault .absentAddress := by
  rcases kind : s.platform.kindAt pa.toNat with _ | _ | _ | _
  · exact ((writeByte_ram kind b).not_abandons h).elim
  · exact ((writeByte_rom kind b).not_abandons h).elim
  · exact ((writeByte_device kind b).not_abandons h).elim
  · exact h.unique (writeByte_absent kind b)

theorem readBytes_stops (h : Abandons (readBytes pas) s z t) : z = .fault .absentAddress := by
  induction pas generalizing s with
  | nil => exact ((abandons_pure ..).mp h).elim
  | cons pa pas ih =>
    obtain first | ⟨_, _, -, others⟩ := (abandons_bind ..).mp h
    · exact readByte_stops first
    · obtain others | ⟨_, _, -, done⟩ := (abandons_bind ..).mp others
      · exact ih others
      · exact ((abandons_pure ..).mp done).elim

theorem writeBytes_stops (h : Abandons (writeBytes pas v) s z t) : z = .fault .absentAddress := by
  induction pas generalizing s v with
  | nil => exact ((abandons_pure ..).mp h).elim
  | cons pa pas ih =>
    obtain first | ⟨_, _, -, others⟩ := (abandons_bind ..).mp h
    · exact writeByte_stops first
    · exact ih others

/-- What is done with the bytes of an access in the space is all that can stop it. -/
theorem access_stops {kind : AccessKind} {k : List Addr → Act α} {y : Trap} (ht : s.translating = false)
    (hk : ∀ {pas u z t}, Abandons (k pas) u z t → z = .fault .absentAddress) :
    ¬Abandons (ensure (inSpace x n) .outsideSpace >>= fun _ => access mode kind x.toNat n >>= k) s (.trap y) t := by
  intro h
  obtain outside | ⟨_, _, passed, inside⟩ := (abandons_bind ..).mp h
  · obtain ⟨-, stopped, -⟩ := (abandons_ensure ..).mp outside
    cases stopped
  · obtain ⟨-, rfl⟩ := (gives_ensure ..).mp passed
    obtain refused | ⟨_, _, -, done⟩ := (abandons_bind ..).mp inside
    · exact (access_direct ht mode kind n x.toNat).not_abandons refused
    · cases hk done

theorem memReadAs_not_trapped {y : Trap} (ht : s.translating = false) : ¬Abandons (memReadAs mode x n) s (.trap y) t :=
  access_stops ht readBytes_stops

theorem memWriteAs_not_trapped {y : Trap} (ht : s.translating = false) :
    ¬Abandons (memWriteAs mode x n v) s (.trap y) t :=
  access_stops ht writeBytes_stops

theorem fetchByte_not_trapped {y : Trap} (ht : s.translating = false) : ¬Abandons (fetchByte x) s (.trap y) t := by
  intro h
  by_cases inside : inSpace x 1 = true
  · have h : Abandons _ s _ t := (fetchByte_run ht inside).symm.trans h
    obtain ⟨-, refused⟩ | ⟨-, read⟩ := (abandons_ite ..).mp h
    · obtain ⟨stopped, -⟩ := (abandons_refuse ..).mp refused
      cases stopped
    · cases readByte_stops read
  · have outside : Abandons (fetchByte x) s (.fault .outsideSpace) s :=
      abandons_at ((abandons_ensure ..).mpr ⟨Bool.eq_false_iff.mpr inside, rfl, rfl⟩)
    cases h.unique outside

end Sys2Proof.Machine
end

section
/-! Trap(ABT) and the accesses that memory does not make (R437, R546, R63, R100, R587). -/

namespace Sys2Proof.Machine

variable {s s1 s2 t u w : State} {src dest : Gen} {l : Len} {v : QWord} {i : Instr} {a b : Int} {n : Nat}

/-! ### Operands in memory -/

theorem readOp_memory (h : inMemory src = true) (k : Kind) (n : Nat) :
    readOp k n src = addrOp src >>= fun a => memRead a n := by
  unfold readOp
  split
  case h_4 => rfl
  all_goals cases h

theorem locateWrite_memory (h : inMemory dest = true) (k : Kind) (n : Nat) :
    locateWrite k n dest = addrOp dest >>= fun a => pure (.mem a) := by
  unfold locateWrite locateRmw
  split
  · cases h
  · split
    · cases h
    · rfl

/-- What touches neither CFG nor the MMU leaves translation on or off. -/
theorem Keeps.translating {z : Touched} (h : Keeps z s t) (hc : .cfg ∉ z.special) (hm : .mmu ∉ z.special) :
    t.translating = s.translating := by
  rw [State.translating, h.mmu hm, h.cfg hc, h.platform]
  rfl

theorem readInt_keeps_translating (h : Gives (readInt l src) s v s1) : s1.translating = s.translating := by
  have popped (r : Special) (hr : r ≠ .sp) : r ∉ movesSp src := fun hm =>
    hr (List.mem_singleton.mp (movesSp_subset src hm))
  exact (readOp_keeps h).1.translating (popped _ (by decide)) (popped _ (by decide))

/-! ### Instructions whose operand is refused (R546) -/

theorem exec_mov (src dest : Gen) (s : State) (l : Len) :
    exec (byLen Instr.movb Instr.movw Instr.movd l src dest) s =
      perform (byLen Instr.movb Instr.movw Instr.movd l src dest).length
        (convertBody l.bytes l.bytes id src dest) s :=
  performs_byLen (body := fun l => convertBody l.bytes l.bytes id) exec_movb exec_movw exec_movd l src dest s

/-- The instructions of MOVi's shape read operand A before anything else. -/
theorem exec_readsFirst (h : i ∈ [byLen Instr.movb Instr.movw Instr.movd l src dest,
      byLen Instr.addb Instr.addw Instr.addd l src dest, byLen Instr.subb Instr.subw Instr.subd l src dest,
      byLen Instr.andb Instr.andw Instr.andd l src dest, byLen Instr.orb Instr.orw Instr.ord l src dest,
      byLen Instr.cmpb Instr.cmpw Instr.cmpd l src dest]) (s : State) :
    ∃ k, exec i s = perform i.length (readInt l src >>= k) s := by
  simp only [List.mem_cons, List.not_mem_nil, or_false] at h
  rcases h with rfl | rfl | rfl | rfl | rfl | rfl
  · exact ⟨_, exec_mov src dest s l⟩
  · exact ⟨_, performs_byLen (body := (addBody · false)) exec_addb exec_addw exec_addd l src dest s⟩
  · exact ⟨_, performs_byLen (body := (subBody · false)) exec_subb exec_subw exec_subd l src dest s⟩
  · exact ⟨_, performs_byLen (body := (binaryBody · fun a b => b &&& a)) exec_andb exec_andw exec_andd l src dest s⟩
  · exact ⟨_, performs_byLen (body := (binaryBody · fun a b => b ||| a)) exec_orb exec_orw exec_ord l src dest s⟩
  · exact ⟨_, performs_byLen (body := cmpBody) exec_cmpb exec_cmpw exec_cmpd l src dest s⟩

theorem exec_aborted {body : Act Next} (he : exec i s = perform n body s) (h : Abandons body s (.trap .abt) u) :
    exec i s = takeTrap .abt s u := by
  rw [he, perform_of_abandons h]
  rfl

theorem readInt_mappedOr (ht : s.translating = true) (hm : inMemory src = true) (ha : Gives (addrOp src) s a s1)
    (hx : inSpace a l.bytes = true) : MappedOr s1 s1.mode .read a.toNat l.bytes fun u =>
      Abandons (readInt l src) s (.trap .abt) u := by
  have active : s1.translating = true := (addrOp_reads ha).1.translating.trans ht
  refine (memReadAs_mappedOr active hx).mono fun u refused => ?_
  rw [readInt, readOp_memory hm]
  exact abandons_after ha <| abandons_after (gives_state s1) refused

theorem moveBody_mappedOr (ht : s.translating = true) (hm : inMemory dest = true) (hv : Gives (readInt l src) s v s1)
    (hb : Gives (addrOp dest) s1 b s2) (hx : inSpace b l.bytes = true) :
    MappedOr s2 s2.mode .write b.toNat l.bytes fun u =>
      Abandons (convertBody l.bytes l.bytes id src dest) s (.trap .abt) u := by
  have active : s2.translating = true :=
    (addrOp_reads hb).1.translating.trans ((readInt_keeps_translating hv).trans ht)
  have located : Gives (locateWrite .int l.bytes dest) s1 (.mem b) s2 := by
    rw [locateWrite_memory hm]
    exact gives_after hb (gives_return _ s2)
  exact (memWriteAs_mappedOr active hx).mono fun u refused =>
    abandons_after hv <| abandons_after located <| abandons_at <| abandons_after (gives_state s2) (refused v)

/-! ### The abort sequence -/

theorem interruptPsr_withoutP (x : Word) : interruptPsr (withoutP x) = interruptPsr x := by
  rw [interruptPsr, withoutP, BitVec.and_assoc]
  rfl

/-- The abort sequence pushes the PSR with its P bit cleared and performs Service, through memory however it is mapped. -/
theorem takeTrap_abort (pushed : Gives (push 2 ((withoutP u.psr).setWidth 64))
      { restoreSp s u with psr := interruptPsr u.psr } () w)
    (served : Gives (service 2 s.pc) w () t) : takeTrap .abt s u = .next { t with activity := .afterException } := by
  have psr : psrInService (putBit u.psr bitP false) true = interruptPsr u.psr := by
    rw [psrInService_interrupt, putBit_P, interruptPsr_withoutP]
  have old : (restoreSp s u).psr = u.psr := restoreSp_psr s u
  refine sequenceOutcome_of_gives (m := takeException true true s.pc (return 2)) ?_
  refine gives_after (gives_state _) <| gives_after (gives_change _ _) ?_
  rw [old, if_pos rfl, psr, putBit_P]
  exact gives_after pushed <| gives_after (gives_return 2 w) <| gives_after served (gives_change _ t)

/-! ### Accesses by the memory map -/

variable {x : Int}

theorem memRead_byte (ht : s.translating = false) (hx : inSpace x 1 = true) {c : Byte}
    (h : Gives (readByte (BitVec.ofInt 24 x)) s c t) : Gives (memRead x 1) s (c.setWidth 64) t :=
  (memRead_run ht hx).trans (places_one hx ▸ readBytes_one h)

theorem memRead_byte_absent (ht : s.translating = false) (hx : inSpace x 1 = true)
    (h : s.platform.kindAt (BitVec.ofInt 24 x).toNat = .absent) :
    Abandons (memRead x 1) s (.fault .absentAddress) s :=
  (memRead_run ht hx).trans (places_one hx ▸ abandons_at (readByte_absent h))

theorem memWrite_byte (ht : s.translating = false) (hx : inSpace x 1 = true)
    (h : Gives (writeByte (BitVec.ofInt 24 x) (v.setWidth 8)) s () t) : Gives (memWrite x 1 v) s () t :=
  (memWrite_run ht hx v).trans (places_one hx ▸ writeBytes_one_iff.mpr h)

theorem memWrite_byte_absent (ht : s.translating = false) (hx : inSpace x 1 = true)
    (h : s.platform.kindAt (BitVec.ofInt 24 x).toNat = .absent) :
    Abandons (memWrite x 1 v) s (.fault .absentAddress) s :=
  (memWrite_run ht hx v).trans (places_one hx ▸ abandons_at (writeByte_absent h _))

theorem ioRead_absent (ht : s.translating = false) (hx : inSpace x 1 = true)
    (h : s.platform.kindAt (BitVec.ofInt 24 x).toNat = .absent) (event : Addr → Byte → Event) :
    Abandons (ioRead event x) s (.fault .absentAddress) s :=
  abandons_after (ensure_passed hx _ s) <| abandons_after (gives_state s) <|
    abandons_after (physical_direct ht _ s.mode .read) <| abandons_after (gives_state s) <|
    abandons_after (observe_direct ht _ 1 s.mode .read) <| abandons_after (gives_state s) <|
    abandons_at <| (abandons_ensure ..).mpr ⟨by rw [h]; rfl, rfl, rfl⟩

/-- A byte not stored to since the queue was flushed is fetched as it is read. -/
theorem fetchByte_clean (ht : s.translating = false) (hx : inSpace x 1 = true) (hq : x.toNat ∉ s.queueDirty) :
    (fetchByte x).run s = (readByte (BitVec.ofInt 24 x)).run s := by
  rw [fetchByte_run ht hx, if_neg hq]

theorem memRead_wide {c : QWord} (ht : s.translating = false) (hx : inSpace x (n + 1) = true)
    (first : Gives (memRead x 1) s c u) (others : Gives (memRead (x + 1) n) u v t) :
    Gives (memRead x (n + 1)) s (BitVec.ofNat 64 (c.toNat + 256 * v.toNat)) t := by
  have range := (inSpace_iff x _).mp hx
  have still : u.translating = false := (memRead_reads first).translating.trans ht
  have next : (x + 1).toNat = x.toNat + 1 := by omega
  have first : Gives _ s c u := (memRead_run ht (inSpace_mono hx (by omega))).symm.trans first
  have others : Gives _ u v t := (memRead_run still ((inSpace_iff ..).mpr (by omega))).symm.trans others
  rw [places_succ] at first
  rw [next] at others
  refine (memRead_run ht hx).trans ?_
  rw [places_succ]
  exact readBytes_cons first others

theorem memWrite_wide (ht : s.translating = false) (hx : inSpace x (n + 1) = true)
    (first : Gives (memWrite x 1 v) s () u) (others : Gives (memWrite (x + 1) n (v >>> 8)) u () t) :
    Gives (memWrite x (n + 1) v) s () t := by
  have range := (inSpace_iff x _).mp hx
  have still : u.translating = false := (memWrite_stores first).translating.trans ht
  have next : (x + 1).toNat = x.toNat + 1 := by omega
  have first : Gives _ s () u := (memWrite_run ht (inSpace_mono hx (by omega)) v).symm.trans first
  have others : Gives _ u () t := (memWrite_run still ((inSpace_iff ..).mpr (by omega)) _).symm.trans others
  rw [places_succ] at first
  rw [next] at others
  refine (memWrite_run ht hx v).trans ?_
  rw [places_succ]
  exact gives_after (writeBytes_one_iff.mp first) others

theorem accesses_direct (ht : s.translating = false) (x : Int) : Accesses s x := by
  refine ⟨fun hx => ?_, fun n c v u t _ hx => ⟨memRead_wide ht hx, memWrite_wide ht hx⟩⟩
  have address : (BitVec.ofInt 24 x).toNat = x.toNat := ofInt_toNat hx
  cases kind : s.platform.kindAt x.toNat <;> rw [← address] at kind
  case ram =>
    have read := memRead_byte ht hx (readByte_stored (.inl kind))
    rw [address] at read
    exact fun v => ⟨read, address ▸ memWrite_byte ht hx (writeByte_ram kind _)⟩
  case rom =>
    have read := memRead_byte ht hx (readByte_stored (.inr kind))
    rw [address] at read
    exact fun v => ⟨read, memWrite_byte ht hx (writeByte_rom kind _)⟩
  case device =>
    refine ⟨fun c rest h => ?_, fun h => ?_, fun v => ?_⟩
    · have read := readByte_device kind (answer_ready h)
      exact ⟨memRead_byte ht hx read, fun hq => (fetchByte_clean ht hx hq).trans read⟩
    · exact ⟨_, memRead_byte ht hx (readByte_device kind (answer_free h))⟩
    · exact address ▸ memWrite_byte ht hx (writeByte_device kind _)
  case absent =>
    exact fun v => ⟨memRead_byte_absent ht hx kind, memWrite_byte_absent ht hx kind,
      fun hq => (fetchByte_clean ht hx hq).trans (readByte_absent kind), ioRead_absent ht hx kind⟩

/-- Settles O60: what the MMU refuses is `MappedOr` of each access, and where nothing is translated the memory map decides
byte by byte. -/
theorem abortedAccesses : Obligations.AbortedAccesses := by
  refine ⟨fun s mode x n ht hx => ⟨memReadAs_mappedOr ht hx, memWriteAs_mappedOr ht hx, ?_⟩,
    fun s u mode x n v ht => ⟨memReadAs_not_trapped ht, memWriteAs_not_trapped ht, fetchByte_not_trapped ht⟩,
    fun l src dest s s1 s2 a b v i ht hi => ⟨fun hm ha hx => ?_, fun he hm hv hb hx => ?_⟩,
    fun s u w t => takeTrap_abort, fun s x ht => accesses_direct ht x⟩
  · rintro rfl
    exact fetchByte_mappedOr ht hx
  · obtain ⟨k, performed⟩ := exec_readsFirst hi s
    exact (readInt_mappedOr ht hm ha hx).mono fun u refused => exec_aborted performed (abandons_at refused)
  · have performed : exec i s = perform i.length (convertBody l.bytes l.bytes id src dest) s :=
      he ▸ exec_mov src dest s l
    exact (moveBody_mappedOr ht hm hv hb hx).mono fun u refused => exec_aborted performed refused

end Sys2Proof.Machine
end

section
/-! ADDi, ADDQi, ADDCi, SUBi, SUBCi, NEGi and ABSi (R451, R452, R454 to R460): the model's sums and differences of
unsigned values are those of the statements, and what each body gives. -/

namespace Sys2Proof.Machine

variable {s s1 s2 w : State} {src dest : Gen} {l : Len} {a b v : QWord} {x : Loc} {i : Instr}

/-! ### Values -/

/-- The signed value of an operand depends on its low bytes only. -/
theorem sval_congr {n : Nat} (h : uval n a = uval n b) : sval n a = sval n b := by
  rw [sval, sval, h]

/-- A quick operand has the value of its sign extension (R161): for each length, sixteen operands. -/
theorem uval_quickValue (l : Len) : ∀ q : BitVec 4, uval l.bytes (quickValue l q) = uval l.bytes (q.signExtend 64) := by
  cases l <;> decide

theorem addOverflow_eq (l : Len) (a b : QWord) (c : Bool) :
    addOverflow l.bytes b a c = !inRange l (sval l.bytes b + sval l.bytes a + c.toNat) := sval_narrow l _

theorem addCarry_eq (l : Len) (a b : QWord) (c : Bool) :
    addCarry l.bytes b a c = decide (2 ^ l.bits ≤ uval l.bytes b + uval l.bytes a + c.toNat) := by
  rw [addCarry, pow_bits_nat]

theorem subOverflow_eq (l : Len) (a b : QWord) (c : Bool) :
    subOverflow l.bytes a b c = !inRange l (sval l.bytes b - sval l.bytes a - c.toNat) := sval_narrow l _

/-! ### The frames -/

/-- C and F are set after a step that touches no flag. -/
theorem Keeps.setCF {z : Touched} (h : Keeps z s w) (hz : z.flags = []) (c f : Bool) :
    Keeps { z with flags := [bitC, bitF] } s (w.setCF c f) :=
  (h.trans (setCF_keeps w c f) (by simp [hz])).mono (by simp) (by simp) (by simp) (by simp [hz]) (by simp)

/-- An rmw operand read and written, after steps that touch no more than the stack pointer. -/
theorem Keeps.rmw_write {popped : List Special} {y : QWord} (h : Keeps { special := popped } s s1)
    (hb : ReadsRmw .int l.bytes dest s1 x b s2) (hw : Gives (writeInt l x y) s2 () w) :
    Keeps { regs := x.regs .int, cells := x.cells l.bytes s2, special := popped } s w := by
  obtain ⟨reads, notPush⟩ := readsRmw_reads hb
  have written := (writeLoc_keeps hw).1
  rw [if_neg notPush] at written
  exact ((h.trans (reads.keeps {}) (by simp)).trans written (by simp)).mono (by simp) (by simp) (by simp) (by simp)
    (by simp)

/-- Locating and reading an rmw operand leaves the flags as they were. -/
theorem ReadsRmw.flag {k : Kind} {n : Nat} (h : ReadsRmw k n dest s1 x b s2) (j : Nat) : s2.flag j = s1.flag j := by
  rw [State.flag, (readsRmw_reads h).1.psr, State.flag]

theorem readOp_flag {k : Kind} {n : Nat} (h : Gives (readOp k n src) s a s1) (j : Nat) : s1.flag j = s.flag j :=
  (readOp_keeps h).1.flags j (by simp)

/-! ### Additions -/

/-- The sum written is that of the unsigned values; the flags are set once it is written. -/
theorem addTo_gives {withCarry c : Bool} (hb : ReadsRmw .int l.bytes dest s1 x b s2)
    (hc : (withCarry && s1.flag bitC) = c) (ha : uval l.bytes v = uval l.bytes a)
    (hw : Gives (writeInt l x (BitVec.ofNat 64 ((uval l.bytes b + uval l.bytes a + c.toNat) % 2 ^ l.bits))) s2 () w) :
    Gives (addTo l withCarry v dest) s1 .seq
      (w.setCF (decide (2 ^ l.bits ≤ uval l.bytes b + uval l.bytes a + c.toNat))
        (!inRange l (sval l.bytes b + sval l.bytes a + c.toNat))) := by
  rw [← narrow_natCast, Nat.cast_add, Nat.cast_add, ← ha] at hw
  rw [← addCarry_eq, ← addOverflow_eq, addCarry, addOverflow, ← ha, ← sval_congr ha]
  rw [← hb.flag] at hc
  obtain ⟨_, located, read⟩ := hb
  refine gives_after located <| gives_after read <| gives_after (gives_state s2) ?_
  rw [hc]
  exact gives_after hw <| gives_after (gives_change _ w) (gives_return _ _)

/-- An instruction that adds a value to its destination, once it knows the value. -/
theorem adds_of {body : Act Next} {withCarry c : Bool} {popped : List Special}
    (hi : exec i s = perform i.length body s)
    (hbody : ∀ {t}, Gives (addTo l withCarry v dest) s1 .seq t → Gives body s .seq t)
    (hc : (withCarry && s.flag bitC) = c) (ha : uval l.bytes v = uval l.bytes a)
    (hk : Keeps { special := popped } s s1) (hpc : s1.pc = s.pc) : Adds i l a dest c popped s s1 := by
  intro s2 w b x hb hw hf
  have carry : (withCarry && s1.flag bitC) = c := by rw [State.flag, hk.flags _ (by simp), ← hc, State.flag]
  have pc : w.pc = s.pc := (writeLoc_keeps hw).2.trans ((readsRmw_reads hb).1.pc.trans hpc)
  exact completes_of hi (hbody (addTo_gives hb carry ha hw)) pc hf ((hk.rmw_write hb hw).setCF rfl _ _)

theorem exec_addq (q : BitVec 4) (dest : Gen) (s : State) : ∀ l,
    exec (byLen Instr.addqb Instr.addqw Instr.addqd l q dest) s =
      perform (byLen Instr.addqb Instr.addqw Instr.addqd l q dest).length (addTo l false (quickValue l q) dest) s
  | .b => exec_addqb q dest s
  | .w => exec_addqw q dest s
  | .d => exec_addqd q dest s

/-- Settles O21: the three instructions add a value to operand B; ADDi and ADDCi read it first, and ADDQi's is its quick
operand. -/
theorem additions : Obligations.Additions := by
  refine ⟨fun l src dest s s1 a ha => ?_, fun l q dest s => ?_⟩
  · obtain ⟨keeps, pc⟩ := readOp_keeps ha
    exact ⟨adds_of (performs_byLen (body := (addBody · false)) exec_addb exec_addw exec_addd l src dest s)
        (fun h => gives_after ha h) rfl rfl keeps pc,
      adds_of (performs_byLen (body := (addBody · true)) exec_addcb exec_addcw exec_addcd l src dest s)
        (fun h => gives_after ha h) (Bool.true_and _) rfl keeps pc⟩
  · exact adds_of (exec_addq q dest s l) id rfl (uval_quickValue l q) (Keeps.refl _ s) rfl

/-! ### Subtractions -/

theorem subBody_gives {withBorrow : Bool} (ha : Gives (readInt l src) s a s1)
    (hb : ReadsRmw .int l.bytes dest s1 x b s2) (c : Nat) (hc : (withBorrow && s2.flag bitC).toNat = c)
    (hw : Gives (writeInt l x
      (BitVec.ofInt 64 (((uval l.bytes b : Int) - uval l.bytes a - c) % 2 ^ l.bits))) s2 () w) :
    Gives (subBody l withBorrow src dest) s .seq
      (w.setCF (decide (uval l.bytes b < uval l.bytes a + c)) (!inRange l (sval l.bytes b - sval l.bytes a - c))) := by
  subst hc
  rw [← pow_bits, ← narrow_eq] at hw
  rw [← subOverflow_eq]
  obtain ⟨_, located, read⟩ := hb
  exact gives_after ha <| gives_after located <| gives_after read <| gives_after (gives_state s2) <|
    gives_after hw <| gives_after (gives_change _ w) (gives_return _ _)

/-- Settles O22: SUBi and SUBCi perform `subBody`, and reading the operands leaves C as it was. -/
theorem subtractions : Obligations.Subtractions := by
  intro withBorrow l src dest s s1 s2 w a b x c i ha hb hw hf
  have performed : exec i s = perform i.length (subBody l withBorrow src dest) s := by
    cases withBorrow with
    | false => exact performs_byLen (body := (subBody · false)) exec_subb exec_subw exec_subd l src dest s
    | true => exact performs_byLen (body := (subBody · true)) exec_subcb exec_subcw exec_subcd l src dest s
  have borrow : (withBorrow && s2.flag bitC).toNat = c := by rw [hb.flag, readOp_flag ha]
  obtain ⟨keeps, pc⟩ := rmw_write_keeps ha hb hw
  exact completes_of performed (subBody_gives ha hb c borrow hw) pc hf (keeps.setCF rfl _ _)

/-! ### Negation and magnitude -/

theorem sval_inRange (l : Len) (a : QWord) : inRange l (sval l.bytes a) = true := by
  rw [inRange, ← sval_setWidth, Bool.and_eq_true, decide_eq_true_eq, decide_eq_true_eq]
  exact ⟨BitVec.le_toInt _, BitVec.toInt_lt⟩

/-- Of the values of a length, only the most negative has no negative of that length. -/
theorem neg_outOfRange (l : Len) (a : QWord) :
    (!inRange l (-sval l.bytes a)) = decide (sval l.bytes a = -(2 ^ (l.bits - 1))) := by
  have bounds := sval_inRange l a
  simp only [inRange, Bool.and_eq_true, decide_eq_true_eq] at bounds
  rw [Bool.eq_iff_iff, Bool.not_eq_true', inRange, Bool.and_eq_false_iff]
  simp only [decide_eq_false_iff_not, decide_eq_true_eq]
  omega

/-- The difference from zero is the same for the unsigned value and the signed one (R459). -/
theorem narrow_neg (l : Len) (a : QWord) :
    narrow l.bytes (-(uval l.bytes a : Int)) = BitVec.ofInt 64 (-sval l.bytes a % 2 ^ l.bits) := by
  have same : -(uval l.bytes a : Int) ≡ -sval l.bytes a [ZMOD 2 ^ l.bits] := by
    rw [← sval_emod, pow_bits]
    exact (Int.mod_modEq _ _).neg
  rw [narrow_eq, pow_bits, same]

theorem negBody_gives (ha : Gives (readInt l src) s a s1) (hx : Gives (locateWrite .int l.bytes dest) s1 x s2)
    (hw : Gives (writeInt l x (BitVec.ofInt 64 (-sval l.bytes a % 2 ^ l.bits))) s2 () w) :
    Gives (negBody l src dest) s .seq
      (w.setCF (decide (uval l.bytes a ≠ 0)) (decide (sval l.bytes a = -(2 ^ (l.bits - 1))))) := by
  have zero : uval l.bytes 0 = 0 := Nat.zero_mod _
  have zeroSigned : sval l.bytes 0 = 0 := by cases l <;> rfl
  have borrow : subBorrow l.bytes a 0 false = decide (uval l.bytes a ≠ 0) := by
    rw [subBorrow, zero, Bool.toNat_false, Nat.add_zero, Bool.eq_iff_iff]
    simp only [decide_eq_true_eq]
    exact Nat.pos_iff_ne_zero
  have overflow : subOverflow l.bytes a 0 false = decide (sval l.bytes a = -(2 ^ (l.bits - 1))) := by
    rw [subOverflow_eq, zeroSigned, Bool.toNat_false, Nat.cast_zero, sub_zero, zero_sub, neg_outOfRange]
  rw [← narrow_neg] at hw
  rw [← borrow, ← overflow]
  exact gives_after ha <| gives_after hx <| gives_after hw <| gives_after (gives_change _ w) (gives_return _ _)

theorem absBody_gives (ha : Gives (readInt l src) s a s1) (hx : Gives (locateWrite .int l.bytes dest) s1 x s2)
    (hw : Gives (writeInt l x (BitVec.ofInt 64 ((sval l.bytes a).natAbs % 2 ^ l.bits))) s2 () w) :
    Gives (absBody l src dest) s .seq (w.setFlag bitF (decide (sval l.bytes a = -(2 ^ (l.bits - 1))))) := by
  rw [← pow_bits, ← narrow_eq] at hw
  exact gives_after ha <| gives_after hx <| gives_after hw <| gives_after (gives_change _ w) (gives_return _ _)

/-- Settles O23: NEGi and ABSi perform `negBody` and `absBody`. -/
theorem negationAndMagnitude : Obligations.NegationAndMagnitude := by
  intro l src dest s s1 s2 w a x ha hx least
  refine ⟨fun hw hf => ?_, fun hw hf => ?_⟩
  · obtain ⟨keeps, pc⟩ := write_keeps ha hx hw
    exact completes_of (performs_byLen exec_negb exec_negw exec_negd l src dest s) (negBody_gives ha hx hw) pc hf
      (keeps.setCF rfl _ _)
  · obtain ⟨keeps, pc⟩ := write_keeps ha hx hw
    exact completes_of (performs_byLen exec_absb exec_absw exec_absd l src dest s) (absBody_gives ha hx hw) pc hf
      (keeps.setF rfl _)

end Sys2Proof.Machine
end

section
/-! MEIi, DEIi, DIVi, MODi, QUOi and REMi (R453, R462, R463, R468): what each body gives, and the trap of a zero
divisor. -/

namespace Sys2Proof.Machine

variable {s s1 s2 w : State} {src dest : Gen} {l : Len} {a b d : QWord} {x : Loc}

/-! ### Free values -/

/-- Where an operand takes a free value, it is the one the state has next. -/
theorem gives_draw_bind {α β : Type} {m : Act α} {k : QWord → Act β} {u : α} {v : β} {t : State}
    (h : Gives (draw >>= fun _ => m) s u w)
    (hk : ∀ {s'}, Gives m s' u w → Gives (k (Config.freeValue s.draws)) s' v t) : Gives (draw >>= k) s v t := by
  obtain ⟨_, _, drawn, done⟩ := (gives_bind ..).mp h
  obtain ⟨rfl, -⟩ := (gives_draw ..).mp drawn
  exact gives_after drawn (hk done)

/-! ### MEIi and DEIi -/

theorem meiBody_gives (ha : Gives (readInt l src) s a s1) (hd : ReadsRmw .pair (2 * l.bytes) dest s1 x d s2)
    (hw : Gives (writeLoc .pair (2 * l.bytes) x (BitVec.ofNat 64 (uval l.bytes a * uval l.bytes d))) s2 () w) :
    Gives (meiBody l src dest) s .seq w := by
  obtain ⟨_, located, read⟩ := hd
  exact gives_after ha <| gives_after located <| gives_after read <| gives_after hw (gives_return _ w)

section Division

variable (ha : Gives (readInt l src) s a s1) (hd : ReadsRmw .pair (2 * l.bytes) dest s1 x d s2)
include ha hd

theorem deiBody_zero (hy : uval l.bytes a = 0) : Abandons (deiBody l src dest) s (.trap .dvz) s2 := by
  obtain ⟨_, located, read⟩ := hd
  refine abandons_after ha <| abandons_after located <| abandons_after read ?_
  rw [if_pos hy]
  exact abandons_at (raises .dvz)

theorem deiBody_fits (hy : uval l.bytes a ≠ 0) (hq : uval (2 * l.bytes) d / uval l.bytes a < 2 ^ l.bits)
    (hw : Gives (writeLoc .pair (2 * l.bytes) x (BitVec.ofNat 64
      (uval (2 * l.bytes) d % uval l.bytes a + 2 ^ l.bits * (uval (2 * l.bytes) d / uval l.bytes a)))) s2 () w) :
    Gives (deiBody l src dest) s .seq w := by
  rw [Nat.add_comm, Nat.mul_comm (2 ^ l.bits)] at hw
  obtain ⟨_, located, read⟩ := hd
  refine gives_after ha <| gives_after located <| gives_after read ?_
  rw [if_neg hy]
  dsimp only
  rw [if_neg (not_le.mpr hq)]
  exact gives_after hw (gives_return _ w)

/-- A quotient that does not fit is the next free value (U25). -/
theorem deiBody_free (hy : uval l.bytes a ≠ 0) (hq : 2 ^ l.bits ≤ uval (2 * l.bytes) d / uval l.bytes a)
    (hw : Gives (draw >>= fun _ => writeLoc .pair (2 * l.bytes) x (Config.freeValue s2.draws)) s2 () w) :
    Gives (deiBody l src dest) s .seq w := by
  obtain ⟨_, located, read⟩ := hd
  refine gives_after ha <| gives_after located <| gives_after read ?_
  rw [if_neg hy]
  dsimp only
  rw [if_pos hq]
  exact gives_draw_bind hw fun written => gives_after written (gives_return _ w)

end Division

/-- Settles O25: MEIi performs `meiBody`, DEIi `deiBody`. -/
theorem extendedMultiplyDivide : Obligations.ExtendedMultiplyDivide := by
  intro l src dest s s1 s2 a d x ha hd touched y q
  have multiplies := performs_byLen (body := meiBody) exec_meib exec_meiw exec_meid l src dest s
  have divides := performs_byLen (body := deiBody) exec_deib exec_deiw exec_deid l src dest s
  refine ⟨fun w hw hf => ?_, fun hy hf => ⟨fun hq w hw => ?_, fun hq => ⟨Config.freeValue s2.draws, fun w hw => ?_⟩⟩⟩
  · obtain ⟨keeps, pc⟩ := rmw_write_keeps ha hd hw
    exact completes_of multiplies (meiBody_gives ha hd hw) pc hf keeps
  · obtain ⟨keeps, pc⟩ := rmw_write_keeps ha hd hw
    exact completes_of divides (deiBody_fits ha hd hy hq hw) pc hf keeps
  · obtain ⟨keeps, pc⟩ := rmw_draw_keeps ha hd hw
    exact completes_of divides (deiBody_free ha hd hy hq hw) pc hf keeps

/-! ### The signed divisions -/

section SignedDivision

variable {quotient : Bool} {f : Int → Int → Int} (ha : Gives (readInt l src) s a s1)
  (hb : ReadsRmw .int l.bytes dest s1 x b s2)
include ha hb

theorem divideBody_zero (hy : uval l.bytes a = 0) :
    Abandons (divideBody l quotient f src dest) s (.trap .dvz) s2 := by
  obtain ⟨_, located, read⟩ := hb
  refine abandons_after ha <| abandons_after located <| abandons_after read ?_
  rw [if_pos hy]
  exact abandons_at (raises .dvz)

theorem divideBody_fits (hy : uval l.bytes a ≠ 0)
    (hq : ¬(quotient = true ∧ sval l.bytes b = -(2 ^ (l.bits - 1)) ∧ sval l.bytes a = -1))
    (hw : Gives (writeInt l x (BitVec.ofInt 64 (f (sval l.bytes b) (sval l.bytes a) % 2 ^ l.bits))) s2 () w) :
    Gives (divideBody l quotient f src dest) s .seq w := by
  rw [← pow_bits, ← narrow_eq] at hw
  obtain ⟨_, located, read⟩ := hb
  refine gives_after ha <| gives_after located <| gives_after read ?_
  rw [if_neg hy, if_neg (by simpa [and_assoc] using hq)]
  exact gives_after hw (gives_return _ w)

/-- A quotient that does not fit is the next free value (U24). -/
theorem divideBody_free (hy : uval l.bytes a ≠ 0) (hq : quotient = true)
    (ho : sval l.bytes b = -(2 ^ (l.bits - 1)) ∧ sval l.bytes a = -1)
    (hw : Gives (draw >>= fun _ => writeInt l x (Config.freeValue s2.draws)) s2 () w) :
    Gives (divideBody l quotient f src dest) s .seq w := by
  obtain ⟨_, located, read⟩ := hb
  refine gives_after ha <| gives_after located <| gives_after read ?_
  rw [if_neg hy, if_pos (by simp [hq, ho])]
  exact gives_draw_bind hw fun written => gives_after written (gives_return _ w)

end SignedDivision

theorem uval_ne_zero (h : sval l.bytes a ≠ 0) : uval l.bytes a ≠ 0 := fun zero =>
  h (by rw [sval, if_pos (by rw [zero]; positivity), zero, Nat.cast_zero])

theorem divides_of {quotient : Bool} {instr : Len → Gen → Gen → Instr} {f g : Int → Int → Int}
    (hp : ∀ l, Performs (instr l) (divideBody l quotient f)) (hg : ∀ m n, f m n = g m n) :
    Divides quotient instr g := by
  obtain rfl : f = g := funext fun m => funext (hg m)
  intro l src dest s s1 s2 a b x ha hb hy hf touched overflow
  refine ⟨fun hq w hw => ?_, fun hq ho => ⟨Config.freeValue s2.draws, fun w hw => ?_⟩⟩
  · obtain ⟨keeps, pc⟩ := rmw_write_keeps ha hb hw
    exact completes_of (hp l src dest s) (divideBody_fits ha hb (uval_ne_zero hy) hq hw) pc hf keeps
  · obtain ⟨keeps, pc⟩ := rmw_draw_keeps ha hb hw
    exact completes_of (hp l src dest s) (divideBody_free ha hb (uval_ne_zero hy) hq ho hw) pc hf keeps

theorem div_performs : ∀ l, Performs (byLen Instr.divb Instr.divw Instr.divd l) (divideBody l true Int.fdiv) :=
  performs_byLen (body := (divideBody · true Int.fdiv)) exec_divb exec_divw exec_divd

theorem mod_performs : ∀ l, Performs (byLen Instr.modb Instr.modw Instr.modd l) (divideBody l false Int.fmod) :=
  performs_byLen (body := (divideBody · false Int.fmod)) exec_modb exec_modw exec_modd

theorem quo_performs : ∀ l, Performs (byLen Instr.quob Instr.quow Instr.quod l) (divideBody l true Int.tdiv) :=
  performs_byLen (body := (divideBody · true Int.tdiv)) exec_quob exec_quow exec_quod

theorem rem_performs : ∀ l, Performs (byLen Instr.remb Instr.remw Instr.remd l) (divideBody l false Int.tmod) :=
  performs_byLen (body := (divideBody · false Int.tmod)) exec_remb exec_remw exec_remd

/-- Settles O26: each of the four performs `divideBody`; MODi and REMi with the remainder of the division that DIVi and
QUOi make. -/
theorem signedDivisions : Obligations.SignedDivisions :=
  ⟨divides_of div_performs fun _ _ => rfl, divides_of mod_performs Int.fmod_def, divides_of quo_performs fun _ _ => rfl,
    divides_of rem_performs Int.tmod_def⟩

/-! ### A zero divisor -/

theorem trapsOnZero_of {k : Kind} {size : Len → Nat} {instr : Len → Gen → Gen → Instr}
    {body : Len → Gen → Gen → Act Next} (hp : ∀ l, Performs (instr l) (body l))
    (hz : ∀ {l src dest s s1 s2 a b x}, Gives (readInt l src) s a s1 → ReadsRmw k (size l) dest s1 x b s2 →
      uval l.bytes a = 0 → Abandons (body l src dest) s (.trap .dvz) s2) : TrapsOnZero k size instr := by
  intro l src dest s s1 s2 a b x ha hb zero hc
  refine ⟨exec_trapped_in (by decide) (hp l src dest s) (hz ha hb zero) hc, ?_⟩
  exact ((readOp_keeps ha).1.trans ((readsRmw_reads hb).1.keeps {}) (by simp)).mono (by simp) (by simp) (by simp)
    (by simp) (by simp)

/-- Settles O27: the divisor is tested once both operands are read, before anything is written. -/
theorem divisionByZeroTraps : Obligations.DivisionByZeroTraps :=
  ⟨trapsOnZero_of div_performs divideBody_zero, trapsOnZero_of mod_performs divideBody_zero,
    trapsOnZero_of quo_performs divideBody_zero, trapsOnZero_of rem_performs divideBody_zero,
    trapsOnZero_of (performs_byLen exec_deib exec_deiw exec_deid) deiBody_zero⟩

end Sys2Proof.Machine
end

section
/-! MOVi, MOVQi, MOVXij, MOVZij, COMi, NOTi (R264, R270, R469 to R472) and CMPi, CMPQi (R473, R474): what each body
gives, and the extensions as words. -/

namespace Sys2Proof.Machine

variable {s s1 s2 w : State} {src dest src1 src2 : Gen} {l : Len} {a b v : QWord} {x : Loc} {i : Instr} {n m : Nat}

/-! ### Conversions -/

theorem convertBody_gives {f : QWord → QWord} (ha : Gives (readOp .int n src) s a s1)
    (hx : Gives (locateWrite .int m dest) s1 x s2) (hw : Gives (writeLoc .int m x (f a)) s2 () w) :
    Gives (convertBody n m f src dest) s .seq w :=
  gives_after ha <| gives_after hx <| gives_after hw (gives_return _ w)

theorem converts_of {instr : Gen → Gen → Instr} {f g : QWord → QWord} (hp : Performs instr (convertBody n m f))
    (hg : ∀ v, f v = g v) : Converts n m instr g := by
  obtain rfl : f = g := funext hg
  intro src dest s s1 s2 w a x ha hx hw hf
  obtain ⟨keeps, pc⟩ := write_keeps ha hx hw
  exact completes_of (hp src dest s) (convertBody_gives ha hx hw) pc hf keeps

/-- A value zero-extended is what it is as a word (R472). -/
theorem narrow_uval (l k : Len) (h : l.bits ≤ k.bits) (v : QWord) :
    narrow k.bytes (uval l.bytes v) = (v.setWidth l.bits).setWidth 64 := by
  have below : uval l.bytes v < 2 ^ k.bits := (uval_lt l v).trans_le (Nat.pow_le_pow_right (by norm_num) h)
  rw [narrow_natCast, Nat.mod_eq_of_lt below, ← uval_setWidth, BitVec.ofNat_toNat]

/-- A value sign-extended is the word sign-extended (R471). -/
theorem narrow_sval (l k : Len) (v : QWord) :
    narrow k.bytes (sval l.bytes v) = ((v.setWidth l.bits).signExtend k.bits).setWidth 64 := by
  rw [narrow_eq_setWidth, ← sval_setWidth]
  rfl

/-! ### Quick operands -/

/-- A quick operand is its sign extension cut to the length (R161): for each length, sixteen operands. -/
theorem quickValue_eq (l : Len) :
    ∀ q : BitVec 4, quickValue l q = ((q.signExtend 64).setWidth l.bits).setWidth 64 := by
  cases l <;> decide

theorem exec_movq (q : BitVec 4) (dest : Gen) (s : State) : ∀ l,
    exec (byLen Instr.movqb Instr.movqw Instr.movqd l q dest) s =
      perform (byLen Instr.movqb Instr.movqw Instr.movqd l q dest).length (storeBody l (quickValue l q) dest) s
  | .b => exec_movqb q dest s
  | .w => exec_movqw q dest s
  | .d => exec_movqd q dest s

theorem storeBody_gives (hx : Gives (locateWrite .int l.bytes dest) s x s1) (hw : Gives (writeInt l x v) s1 () w) :
    Gives (storeBody l v dest) s .seq w := gives_after hx <| gives_after hw (gives_return _ w)

/-- Settles O28: each instruction performs `convertBody` with its function, MOVQi `storeBody` with its quick operand. -/
theorem moves : Obligations.Moves := by
  refine ⟨fun l => ⟨converts_of (exec_mov · · · l) fun _ => rfl, ?_, ?_, ?_⟩,
    converts_of exec_movxbw (narrow_sval .b .w), converts_of exec_movxbd (narrow_sval .b .d),
    converts_of exec_movxwd (narrow_sval .w .d), converts_of exec_movzbw (narrow_uval .b .w (by decide)),
    converts_of exec_movzbd (narrow_uval .b .d (by decide)), converts_of exec_movzwd (narrow_uval .w .d (by decide))⟩
  · exact converts_of (performs_byLen (body := fun l => convertBody l.bytes l.bytes fun v => ~~~v)
      exec_comb exec_comw exec_comd l) fun _ => rfl
  · exact converts_of (performs_byLen (body := fun l => convertBody l.bytes l.bytes fun v => v ^^^ 1)
      exec_notb exec_notw exec_notd l) fun _ => rfl
  · intro q
    rw [← quickValue_eq]
    exact setsOperand_of (exec_movq q · · l) fun _ hx hw => storeBody_gives hx hw

/-! ### Comparisons -/

/-- The Z, N and L bits that a comparison sets, for a first operand of the same value (R473). -/
theorem compare_congr (ha : uval n v = uval n a) : s.compare n v b = s.setZNL (decide (uval n a = uval n b))
    (decide (sval n b < sval n a)) (decide (uval n b < uval n a)) := by
  rw [compare_eq, ha, sval_congr ha]

/-- Z, N and L are set after a step that touches no flag. -/
theorem Keeps.setZNL {y : Touched} (h : Keeps y s w) (hy : y.flags = []) (z n l : Bool) :
    Keeps { y with flags := [bitZ, bitN, bitL] } s (w.setZNL z n l) :=
  (h.trans (setZNL_keeps w z n l) (by simp [hy])).mono (by simp) (by simp) (by simp) (by simp [hy]) (by simp)

theorem cmpBody_gives (ha : Gives (readInt l src1) s a s1) (hb : Gives (readInt l src2) s1 b s2) :
    Gives (cmpBody l src1 src2) s .seq (s2.compare l.bytes a b) :=
  gives_after ha <| gives_after hb <| gives_after (gives_change _ s2) (gives_return _ _)

theorem cmpqBody_gives (hb : Gives (readInt l src2) s b s1) :
    Gives (cmpqBody l a src2) s .seq (s1.compare l.bytes a b) :=
  gives_after hb <| gives_after (gives_change _ s1) (gives_return _ _)

theorem exec_cmpq (q : BitVec 4) (src2 : Gen) (s : State) : ∀ l,
    exec (byLen Instr.cmpqb Instr.cmpqw Instr.cmpqd l q src2) s =
      perform (byLen Instr.cmpqb Instr.cmpqw Instr.cmpqd l q src2).length (cmpqBody l (quickValue l q) src2) s
  | .b => exec_cmpqb q src2 s
  | .w => exec_cmpqw q src2 s
  | .d => exec_cmpqd q src2 s

/-- Settles O29: `cmpBody` compares two operands, `cmpqBody` a quick operand and one. -/
theorem comparisons : Obligations.Comparisons := by
  intro l src1 src2 q s s1 s2 a b result
  refine ⟨fun ha hb hf => ?_, fun hb hf => ?_⟩
  · obtain ⟨keeps1, pc1⟩ := readOp_keeps ha
    obtain ⟨keeps2, pc2⟩ := readOp_keeps hb
    have compared := cmpBody_gives ha hb
    rw [compare_congr rfl] at compared
    exact completes_of (performs_byLen exec_cmpb exec_cmpw exec_cmpd l src1 src2 s) compared (pc2.trans pc1) hf
      ((keeps1.trans keeps2 (by simp)).setZNL rfl _ _ _)
  · obtain ⟨keeps, pc⟩ := readOp_keeps hb
    have compared := cmpqBody_gives (a := quickValue l q) hb
    rw [compare_congr (uval_quickValue l q)] at compared
    exact completes_of (exec_cmpq q src2 s l) compared pc hf (keeps.setZNL rfl _ _ _)

end Sys2Proof.Machine
end

section
/-! ADDPi and SUBPi (R500 to R502): the digits of packed decimal numbers, and what the body gives. -/

namespace Sys2Proof.Machine

variable {s s1 s2 w : State} {src dest : Gen} {l : Len} {a b r v : QWord} {x : Loc} {k n p q : Nat}

/-! ### Digits -/

theorem bcdDigit_eq (v : QWord) (j : Nat) : bcdDigit v j = v.toNat / 16 ^ j % 16 := by
  rw [bcdDigit, BitVec.extractLsb'_toNat, Nat.shiftRight_eq_div_pow, pow_mul]
  rfl

theorem bcdLegal_iff : bcdLegal v k = true ↔ ∀ j < k, bcdDigit v j ≤ 9 := by
  simp [bcdLegal]

/-- A number whose digits a pattern has is the pattern's value. -/
theorem bcdVal_eq_mod (h : ∀ j < k, bcdDigit v j = n / 10 ^ j % 10) : bcdVal v k = n % 10 ^ k := by
  induction k with
  | zero => rw [bcdVal, pow_zero, Nat.mod_one]
  | succ k ih => rw [bcdVal, ih fun j hj => h j (by omega), h k (by omega), Nat.mod_pow_succ, Nat.mul_comm]

/-- The number of a packed decimal pattern is unique. -/
theorem Decimal.bcdVal_eq (h : Decimal v k n) : bcdVal v k = n := by
  obtain ⟨below, digits⟩ := h
  rw [bcdVal_eq_mod fun j hj => (bcdDigit_eq v j).trans (digits j hj), Nat.mod_eq_of_lt below]

theorem Decimal.legal (h : Decimal v k n) : bcdLegal v k = true := by
  rw [bcdLegal_iff]
  intro j hj
  rw [bcdDigit_eq, h.2 j hj]
  omega

theorem bcdVal_lt (h : ∀ j < k, bcdDigit v j ≤ 9) : bcdVal v k < 10 ^ k := by
  induction k with
  | zero => exact Nat.one_pos
  | succ k ih =>
    have low := ih fun j hj => h j (by omega)
    have high : bcdDigit v k * 10 ^ k ≤ 9 * 10 ^ k := Nat.mul_le_mul_right _ (h k (by omega))
    rw [bcdVal, pow_succ]
    omega

/-- Each digit of a legal pattern is that of its value. -/
theorem bcdVal_digit (h : ∀ j < k, bcdDigit v j ≤ 9) : ∀ j < k, bcdVal v k / 10 ^ j % 10 = bcdDigit v j := by
  induction k with
  | zero => exact fun j hj => absurd hj (Nat.not_lt_zero j)
  | succ k ih =>
    intro j hj
    have legal : ∀ j < k, bcdDigit v j ≤ 9 := fun j hj => h j (by omega)
    rw [bcdVal]
    by_cases last : j = k
    · subst last
      rw [Nat.add_mul_div_right _ _ (by positivity), Nat.div_eq_of_lt (bcdVal_lt legal), Nat.zero_add,
        Nat.mod_eq_of_lt (by have := h j hj; omega)]
    · have split : bcdDigit v k * 10 ^ k = 10 ^ j * (10 * (bcdDigit v k * 10 ^ (k - j - 1))) := by
        have power : 10 ^ k = 10 ^ j * (10 * 10 ^ (k - j - 1)) := by
          rw [← pow_succ', ← pow_add]
          congr 1
          omega
        rw [power]
        ring
      rw [split, Nat.add_mul_div_left _ _ (by positivity), Nat.add_mul_mod_self_left, ih legal j (by omega)]

/-- A pattern with no digit above 9 is a packed decimal number. -/
theorem decimal_of_legal (h : bcdLegal v k = true) : Decimal v k (bcdVal v k) := by
  rw [bcdLegal_iff] at h
  exact ⟨bcdVal_lt h, fun j hj => by rw [bcdVal_digit h j hj, bcdDigit_eq]⟩

/-! ### The pattern of a number -/

/-- A pattern is put together from its digits. -/
theorem bcdEnc_toNat (hk : k ≤ 16) (h : ∀ j < k, r.toNat / 16 ^ j % 16 = n / 10 ^ j % 10) :
    (bcdEnc n k).toNat = r.toNat % 16 ^ k := by
  induction k with
  | zero => rw [pow_zero, Nat.mod_one]; rfl
  | succ k ih =>
    have low := ih (by omega) fun j hj => h j (by omega)
    have power : (2 : Nat) ^ (4 * k) = 16 ^ k := pow_mul 2 4 k
    have top : 16 ^ k * 16 ≤ 2 ^ 64 := by
      rw [← pow_succ, show (2 : Nat) ^ 64 = 16 ^ 16 by norm_num]
      exact Nat.pow_le_pow_right (by norm_num) hk
    have digit : n / 10 ^ k % 10 * 2 ^ (4 * k) < 2 ^ 64 := by
      rw [power]
      have below := Nat.mul_le_mul_right (16 ^ k) (show n / 10 ^ k % 10 ≤ 9 by omega)
      omega
    have lowBound : r.toNat % 16 ^ k < 2 ^ (4 * k) := power ▸ Nat.mod_lt _ (by positivity)
    rw [bcdEnc, BitVec.toNat_or, low, BitVec.toNat_ofNat, Nat.mod_eq_of_lt digit, Nat.or_comm, ← Nat.shiftLeft_eq,
      ← Nat.shiftLeft_add_eq_or_of_lt lowBound, Nat.shiftLeft_eq, Nat.mod_pow_succ, h k (by omega), power, Nat.add_comm,
      Nat.mul_comm]

/-- The pattern of a number is the only one that stands for it and has nothing above its digits (R500). -/
theorem Decimal.eq_bcdEnc (h : Decimal r k n) (hk : k ≤ 16) (hr : r.toNat < 16 ^ k) : r = bcdEnc n k :=
  BitVec.eq_of_toNat_eq (by rw [bcdEnc_toNat hk h.2, Nat.mod_eq_of_lt hr])

/-! ### The body -/

/-- Writing an operand draws no free value. -/
theorem writeLoc_draws {z : Kind} {y : QWord} {u : PUnit} (h : Gives (writeLoc z n x y) s u w) : w.draws = s.draws := by
  cases x with
  | reg r =>
    obtain rfl := (gives_modify ..).mp h
    cases z with
    | float =>
      rw [State.writeReg]
      split <;> rfl
    | _ => rfl
  | mem a => rw [(memWrite_stores h).eq]
  | push => rw [(pushSlot_gives h).2.2.eq, State.setSp_draws]

theorem draw_write_draws {y : QWord} {u : PUnit} (h : Gives (draw >>= fun _ => writeInt l x y) s u w) :
    w.draws = s.draws + 1 := by
  obtain ⟨_, _, drawn, written⟩ := (gives_bind ..).mp h
  obtain ⟨-, rfl⟩ := (gives_draw ..).mp drawn
  exact writeLoc_draws written

section Body

variable {f : Int → Int → Int → Int} (ha : Gives (readInt l src) s a s1) (hb : ReadsRmw .int l.bytes dest s1 x b s2)
include ha hb

theorem decimalBody_legal (hp : Decimal a (2 * l.bytes) p) (hq : Decimal b (2 * l.bytes) q) {t : Int}
    (ht : f q p (s.flag bitC).toNat = t)
    (hw : Gives (writeInt l x (bcdEnc (t % 10 ^ (2 * l.bytes)).toNat (2 * l.bytes))) s2 () w) :
    Gives (decimalBody l f src dest) s .seq (w.setCF (decide (t < 0 ∨ 10 ^ (2 * l.bytes) ≤ t)) false) := by
  rw [← readOp_flag ha, ← hb.flag] at ht
  obtain ⟨_, located, read⟩ := hb
  refine gives_after ha <| gives_after located <| gives_after read ?_
  dsimp only
  rw [hp.legal, hq.legal, if_pos (Bool.and_self true), hp.bcdVal_eq, hq.bcdVal_eq]
  refine gives_after (gives_state s2) ?_
  rw [ht]
  refine gives_after hw ?_
  rw [Bool.decide_or]
  exact gives_after (gives_change _ w) (gives_return _ _)

/-- With an illegal digit the result and C are the next two free values (U17). -/
theorem decimalBody_illegal (illegal : (bcdLegal a (2 * l.bytes) && bcdLegal b (2 * l.bytes)) = false)
    (hw : Gives (draw >>= fun _ => writeInt l x (Config.freeValue s2.draws)) s2 () w) :
    Gives (decimalBody l f src dest) s .seq
      ({ w with draws := w.draws + 1 }.setCF ((Config.freeValue (s2.draws + 1)).getLsbD 0) false) := by
  rw [← draw_write_draws hw]
  obtain ⟨_, located, read⟩ := hb
  refine gives_after ha <| gives_after located <| gives_after read ?_
  dsimp only
  rw [illegal, if_neg Bool.false_ne_true]
  refine gives_draw_bind hw fun written => gives_after written ?_
  exact gives_after ((gives_draw ..).mpr ⟨rfl, rfl⟩) <| gives_after (gives_change _ _) (gives_return _ _)

end Body

/-- An operand that is no packed decimal number has a digit above 9. -/
theorem illegal_of_not_decimal (h : (∀ p, ¬Decimal a k p) ∨ ∀ q, ¬Decimal b k q) :
    (bcdLegal a k && bcdLegal b k) = false := by
  rw [Bool.and_eq_false_iff, ← Bool.not_eq_true, ← Bool.not_eq_true]
  exact h.imp (fun h legal => h _ (decimal_of_legal legal)) fun h legal => h _ (decimal_of_legal legal)

/-- The exact sum or difference of operands B and A and C (R501, R502). -/
def decimalOp (subtracts : Bool) (q p c : Int) : Int := if subtracts then q - p - c else q + p + c

theorem exec_decimal (subtracts : Bool) (l : Len) (src dest : Gen) (s : State) :
    let i :=
      if subtracts then byLen Instr.subpb Instr.subpw Instr.subpd l src dest
      else byLen Instr.addpb Instr.addpw Instr.addpd l src dest
    exec i s = perform i.length (decimalBody l (decimalOp subtracts) src dest) s := by
  cases subtracts with
  | false =>
    exact performs_byLen (body := (decimalBody · (decimalOp false)))
      exec_addpb exec_addpw exec_addpd l src dest s
  | true =>
    exact performs_byLen (body := (decimalBody · (decimalOp true)))
      exec_subpb exec_subpw exec_subpd l src dest s

/-- Settles O41: ADDPi and SUBPi perform `decimalBody` with the sum and the difference. -/
theorem decimalArithmetic : Obligations.DecimalArithmetic := by
  intro subtracts l src dest s s1 s2 a b x i touched k c ha hb hf
  have performed := exec_decimal subtracts l src dest s
  constructor
  · intro p q hp hq t r w hr below hw
    have digits : k ≤ 16 := by cases l <;> decide
    obtain ⟨keeps, pc⟩ := rmw_write_keeps ha hb hw
    rw [hr.eq_bcdEnc digits below] at hw
    exact completes_of performed (decimalBody_legal ha hb hp hq rfl hw) pc hf (keeps.setCF rfl _ _)
  · intro illegal
    refine ⟨Config.freeValue s2.draws, (Config.freeValue (s2.draws + 1)).getLsbD 0, fun w hw => ?_⟩
    obtain ⟨keeps, pc⟩ := rmw_draw_keeps ha hb hw
    exact completes_of performed (decimalBody_illegal ha hb (illegal_of_not_decimal illegal) hw) pc hf
      ((keeps.drawn (by simp)).setCF rfl _ _)

end Sys2Proof.Machine
end

section
/-! Taking an exception in plain memory (R513, R531, R540, R541, R546, R550): one lemma for the sequence with the PSR
copy, the new PSR and the vector's action of each of its uses, and the frame that it leaves. -/

namespace Sys2Proof.Machine

variable {s t : State} {copy psr : Word} {ra : Addr} {n : Nat}

/-! ### The sequence -/

/-- The state after the first push of a sequence: the vector is acquired in it (R520). -/
def State.copyPushed (s : State) (copy psr : Word) : State :=
  { ({ s with psr } : State).store (s.sp0.toNat - 2) 2 copy.toNat with sp0 := BitVec.ofNat 24 (s.sp0.toNat - 2) }

theorem copyPushed_gives (hs : s.plain) (hS : psr.getLsbD bitS = false) (h8 : 8 ≤ s.sp0.toNat) :
    Gives (push 2 (copy.setWidth 64)) { s with psr } () (s.copyPushed copy psr) :=
  push_interrupt (s := { s with psr }) (hs.of_eq rfl rfl rfl) hS rfl copy (by omega) (show 2 ≤ s.sp0.toNat by omega)

/-- The Service sequence (R541), from the state in which the vector has been acquired. -/
theorem service_copyPushed (hS : psr.getLsbD bitS = false) (h : s.canServe copy psr ra n) :
    Gives (service n ra) (s.copyPushed copy psr) ()
      { (s.pushed copy psr ra).served n with activity := (s.pushed copy psr ra).activity } := by
  obtain ⟨hs, h8, hv, hm, ha⟩ := h
  obtain ⟨t, u, ht, first, second, third⟩ := frame_pushed hs hS h8 copy ra
  obtain ⟨-, rfl⟩ := (copyPushed_gives hs hS h8).unique first
  exact service_pushed (ht ▸ second) third (hs.pushed _ _ _) (by rwa [State.pushed_intbase]) hm ha

/-- Every use of the exception sequence (R520): acquiring the vector may lead to another state, `t` before the push. -/
theorem takeException_serves {dropP clearI : Bool} {vector : Act Nat}
    (hcopy : (if dropP then putBit s.psr bitP false else s.psr) = copy) (hpsr : psrInService copy clearI = psr)
    (hs : s.plain) (h8 : 8 ≤ s.sp0.toNat) (hv : Gives vector (s.copyPushed copy psr) n (t.copyPushed copy psr))
    (h : t.canServe copy psr ra n) :
    sequenceOutcome (takeException dropP clearI ra vector) s = .next ((t.pushed copy psr ra).served n) := by
  have hS : psr.getLsbD bitS = false := by rw [← hpsr, psrInService_getLsbD _ _ (by simp)]
  refine sequenceOutcome_of_gives ?_
  refine gives_after (gives_state s) <| gives_after (gives_change _ s) ?_
  rw [hcopy, hpsr]
  exact gives_after (copyPushed_gives hs hS h8) <| gives_after hv <| gives_after (service_copyPushed hS h) <|
    gives_change _ _

theorem trapPsr_withoutP (x : Word) : trapPsr (withoutP x) = trapPsr x := by
  rw [trapPsr, withoutP, BitVec.and_assoc]
  rfl

/-- Settles O12: a trap leaves P in the copy, an abort and a trace clear it; an abort clears I as well. -/
theorem trapSequences : Obligations.TrapSequences := by
  refine ⟨fun t s u ht h => takeTrap_trapped ht h, fun s u h => ?_, fun s h => ?_⟩
  · have psr : psrInService (withoutP u.psr) true = interruptPsr u.psr := by
      rw [psrInService_interrupt, interruptPsr_withoutP]
    have copy : putBit (restoreSp s u).psr bitP false = withoutP u.psr := by rw [putBit_P, restoreSp_psr]
    exact takeException_serves (dropP := true) (vector := return 2) copy psr h.1 h.2.1 (gives_return _ _) h
  · have psr : psrInService (withoutP s.psr) false = trapPsr s.psr := by rw [psrInService_trap, trapPsr_withoutP]
    exact takeException_serves (dropP := true) (vector := return 9) (putBit_P _) psr h.1 h.2.1 (gives_return _ _) h

/-! ### The frame -/

/-- A store changes memory and what the instruction queue has lost, and nothing else. -/
theorem State.store_fields (s : State) (a n v : Nat) :
    ∃ mem queueDirty, s.store a n v = { s with mem, queueDirty } := ⟨_, _, s.store_eq a n v⟩

/-- The three pushes change the PSR, SP0, memory and what the instruction queue has lost, and nothing else. -/
theorem State.pushed_fields (s : State) (copy psr : Word) (ra : Addr) : ∃ mem queueDirty,
    s.pushed copy psr ra = { s with psr, mem, queueDirty, sp0 := BitVec.ofNat 24 (s.sp0.toNat - 8) } := by
  rw [State.pushed]
  dsimp only
  obtain ⟨_, _, first⟩ := State.store_fields { s with psr } (s.sp0.toNat - 2) 2 copy.toNat
  rw [first]
  obtain ⟨_, _, second⟩ := State.store_fields _ (s.sp0.toNat - 4) 2 s.mod.toNat
  rw [second]
  obtain ⟨mem, queueDirty, third⟩ := State.store_fields _ (s.sp0.toNat - 8) 4 ra.toNat
  exact ⟨mem, queueDirty, by rw [third]⟩

/-- The words of the frame, and what lies around it (R513). -/
theorem pushed_frame (copy psr : Word) (ra : Addr) (h8 : 8 ≤ s.sp0.toNat) :
    load (s.pushed copy psr ra).mem (s.sp0.toNat - 8) 4 = ra.toNat ∧
      load (s.pushed copy psr ra).mem (s.sp0.toNat - 4) 2 = s.mod.toNat ∧
      load (s.pushed copy psr ra).mem (s.sp0.toNat - 2) 2 = copy.toNat ∧
      ∀ b, b < s.sp0.toNat - 8 ∨ s.sp0.toNat ≤ b →
        Memory.read (s.pushed copy psr ra).mem b = Memory.read s.mem b := by
  have address := ra.isLt
  have module := s.mod.isLt
  have status := copy.isLt
  rw [State.pushed]
  dsimp only
  refine ⟨?_, ?_, ?_, fun b hb => ?_⟩
  · rw [State.load_store, Nat.mod_eq_of_lt (by omega)]
  · rw [State.load_store_apart _ _ _ _ _ _ (by omega), State.load_store, Nat.mod_eq_of_lt (by omega)]
  · rw [State.load_store_apart _ _ _ _ _ _ (by omega), State.load_store_apart _ _ _ _ _ _ (by omega),
      State.load_store, Nat.mod_eq_of_lt (by omega)]
  · rw [State.read_store, if_neg (by omega), State.read_store, if_neg (by omega), State.read_store, if_neg (by omega)]

/-- Settles O13: the frame, the module that is entered, and the registers that neither changes. -/
theorem exceptionFrame : Obligations.ExceptionFrame := by
  intro s copy psr ra vector h u t a
  obtain ⟨-, h8, -, module, entry⟩ := h
  obtain ⟨address, mod, status, others⟩ := pushed_frame copy psr ra h8
  obtain ⟨mem, queueDirty, fields⟩ := s.pushed_fields copy psr ra
  have kept : u.psr = psr ∧ u.regs = s.regs ∧ u.fregs = s.fregs ∧ u.fp = s.fp ∧ u.fsr = s.fsr ∧ u.sp1 = s.sp1 ∧
      u.cfg = s.cfg ∧ u.intbase = s.intbase ∧ u.mmu = s.mmu := by
    simp only [u, fields, and_self]
  obtain ⟨psrKept, registers⟩ := kept
  have stack : t.sp0.toNat = a - 8 := by
    have room := s.sp0.isLt
    show (BitVec.ofNat 24 (a - 8)).toNat = a - 8
    rw [BitVec.toNat_ofNat, Nat.mod_eq_of_lt (by omega)]
  have moduleEntered : t.mod.toNat = u.descriptor vector % 2 ^ 16 := by
    show (BitVec.ofNat 16 (u.descriptor vector % 2 ^ 16)).toNat = _
    rw [BitVec.toNat_ofNat, Nat.mod_mod]
  refine ⟨stack, address, mod, status, psrKept, rfl, others, moduleEntered, ?_, ?_, registers⟩
  · rw [moduleEntered]
    exact BitVec.toNat_ofNat ..
  · rw [moduleEntered]
    exact (BitVec.toNat_ofNat ..).trans (Nat.mod_eq_of_lt entry)

end Sys2Proof.Machine
end

section
/-! The interrupt sequence (R531): the acknowledge reads, made once the PSR copy has been pushed, change only what the
environment has to do with. -/

namespace Sys2Proof.Machine

variable {s : State} {copy psr : Word} {ra : Addr} {n : Nat} {b c : Byte} {rest : List Byte} {events : List Event}
  {nmi latch : Bool}

/-! ### What the acknowledge reads change -/

/-- The state with the NMI latch, what the environment has still to answer, and what it has seen. -/
def State.acknowledged (s : State) (nmi : Bool) (rest : List Byte) (events : List Event) : State :=
  { s with nmiPending := nmi, answers := rest, events }

@[simp] theorem State.acknowledged_cfg (s : State) : (s.acknowledged latch rest events).cfg = s.cfg := rfl

@[simp] theorem State.acknowledged_events (s : State) : (s.acknowledged latch rest events).events = events := rfl

@[simp] theorem State.acknowledged_nmiPending (s : State) : (s.acknowledged latch rest events).nmiPending = latch := rfl

theorem State.acknowledged_again (s : State) (rest' : List Byte) (events' : List Event) :
    (s.acknowledged latch rest events).acknowledged nmi rest' events' = s.acknowledged nmi rest' events' := rfl

theorem State.acknowledged_withNmi (s : State) : ({ s.acknowledged latch rest events with nmiPending := nmi } : State) =
    s.acknowledged nmi rest events := rfl

theorem State.plain.acknowledged (hs : s.plain) (latch : Bool) (rest : List Byte) (events : List Event) :
    (s.acknowledged latch rest events).plain := hs.of_eq rfl rfl rfl

theorem State.store_acknowledged (s : State) (a n v : Nat) :
    (s.acknowledged nmi rest events).store a n v = (s.store a n v).acknowledged nmi rest events := by
  induction n generalizing s a v with
  | zero => rfl
  | succ n ih => exact ih (s.storeByte a (BitVec.ofNat 8 v)) (a + 1) (v / 256)

/-- The acknowledge reads could as well be made before the PSR copy is pushed. -/
theorem State.copyPushed_acknowledged (s : State) :
    (s.acknowledged nmi rest events).copyPushed copy psr = (s.copyPushed copy psr).acknowledged nmi rest events := by
  have stored := State.store_acknowledged (nmi := nmi) (rest := rest) (events := events) { s with psr }
    (s.sp0.toNat - 2) 2 copy.toNat
  exact congrArg (fun t : State => { t with sp0 := BitVec.ofNat 24 (s.sp0.toNat - 2) }) stored

theorem State.pushed_acknowledged (s : State) :
    (s.acknowledged nmi rest events).pushed copy psr ra = (s.pushed copy psr ra).acknowledged nmi rest events := by
  have psrSet : ({ s.acknowledged nmi rest events with psr } : State) =
      ({ s with psr } : State).acknowledged nmi rest events := rfl
  simp only [State.pushed, psrSet, State.store_acknowledged]
  rfl

theorem State.canServe.acknowledged (h : s.canServe copy psr ra n) :
    (s.acknowledged nmi rest events).canServe copy psr ra n := by
  obtain ⟨hs, h8, hv, table⟩ := h
  refine ⟨hs.acknowledged _ _ _, h8, hv, ?_⟩
  rw [State.pushed_acknowledged]
  exact table

/-- The state in which the vector is acquired has the registers and the environment of the state before the push. -/
theorem copyPushed_fields (s : State) (copy psr : Word) : (s.copyPushed copy psr).answers = s.answers ∧
    (s.copyPushed copy psr).events = s.events ∧ (s.copyPushed copy psr).cfg = s.cfg ∧
    (s.copyPushed copy psr).intbase = s.intbase ∧ (s.copyPushed copy psr).nmiPending = s.nmiPending ∧
    (s.copyPushed copy psr).platform = s.platform ∧ (s.copyPushed copy psr).mmu = s.mmu := by
  obtain ⟨mem, queueDirty, stored⟩ := State.store_fields { s with psr } (s.sp0.toNat - 2) 2 copy.toNat
  simp only [State.copyPushed, stored, and_self]

theorem State.plain.copyPushed (hs : s.plain) (copy psr : Word) : (s.copyPushed copy psr).plain := by
  obtain ⟨-, -, cfg, -, -, platform, mmu⟩ := copyPushed_fields s copy psr
  exact hs.of_eq cfg platform mmu

theorem pushed_nmiPending (s : State) (copy psr : Word) (ra : Addr) :
    (s.pushed copy psr ra).nmiPending = s.nmiPending := by
  obtain ⟨_, _, fields⟩ := s.pushed_fields copy psr ra
  rw [fields]

/-! ### The vector (R531) -/

theorem acknowledges (hs : s.plain) (hb : s.answers = b :: rest) {a : Nat} (ha : a < 2 ^ 24) :
    Gives (ioRead .acknowledge a) s b
      (s.acknowledged s.nmiPending rest (s.events ++ [.acknowledge (BitVec.ofNat 24 a) b])) :=
  ioRead_answered hs .acknowledge ha hb

theorem nmiVector_gives (hs : s.plain) (hb : s.answers = b :: rest) :
    Gives nmiVector s 1 (s.acknowledged false rest (s.events ++ [.acknowledge 0xFFFF00 b])) :=
  have cleared : ({ s with nmiPending := false } : State).plain := hs.of_eq rfl rfl rfl
  gives_after (gives_change _ s) <| gives_after (acknowledges cleared hb (a := 0xFFFF00) (by decide)) (gives_return 1 _)

section Maskable

variable (hs : s.plain) (hb : s.answers = b :: rest)
include hs hb

/-- In Non-Vectored mode the byte that is read does not count. -/
theorem intVector_unvectored (hI : s.cfg.getLsbD 0 = false) :
    Gives intVector s 0 (s.acknowledged s.nmiPending rest (s.events ++ [.acknowledge 0xFFFE00 b])) := by
  refine gives_after (acknowledges hs hb (a := 0xFFFE00) (by decide)) <| gives_after (gives_state _) ?_
  rw [State.acknowledged_cfg, hI, if_neg Bool.false_ne_true]
  exact gives_return 0 _

theorem intVector_vectored (hI : s.cfg.getLsbD 0 = true) (h : b.toNat < 128) :
    Gives intVector s b.toNat (s.acknowledged s.nmiPending rest (s.events ++ [.acknowledge 0xFFFE00 b])) := by
  have nonnegative : 0 ≤ b.toInt := by
    rw [BitVec.toInt_eq_toNat_cond]
    omega
  refine gives_after (acknowledges hs hb (a := 0xFFFE00) (by decide)) <| gives_after (gives_state _) ?_
  rw [State.acknowledged_cfg, if_pos hI, if_pos nonnegative]
  exact gives_return _ _

/-- A byte from -16 to -1 names a cascaded unit, whose address stands in the Cascade Table. -/
theorem intVector_cascaded {rest' : List Byte} {ca : Nat} (hr : rest = c :: rest') (hI : s.cfg.getLsbD 0 = true)
    (h16 : -16 ≤ b.toInt) (h0 : b.toInt < 0) (ha : inSpace (s.intbase.toNat + 4 * b.toInt) 4 = true)
    (hca : load s.mem (s.intbase.toNat + 4 * b.toInt).toNat 4 = ca) (h24 : ca < 2 ^ 24) :
    Gives intVector s c.toNat (s.acknowledged s.nmiPending rest'
      (s.events ++ [.acknowledge 0xFFFE00 b, .acknowledge (BitVec.ofNat 24 ca) c])) := by
  subst hr hca
  have plain := hs.acknowledged s.nmiPending (c :: rest') (s.events ++ [.acknowledge 0xFFFE00 b])
  have second := acknowledges plain (b := c) (rest := rest') rfl h24
  rw [State.acknowledged_again, State.acknowledged_events, State.acknowledged_nmiPending, List.append_assoc] at second
  refine gives_after (acknowledges hs hb (a := 0xFFFE00) (by decide)) <| gives_after (gives_state _) ?_
  rw [State.acknowledged_cfg, if_pos hI, if_neg (not_le.mpr h0)]
  refine gives_after (ensure_passed (decide_eq_true h16) _ _) <| gives_after (memRead_plain plain _ 4 (by omega) ha) ?_
  rw [uval_load]
  exact gives_after second (gives_return _ _)

end Maskable

/-! ### The sequence -/

/-- An interrupt is taken once its vector is known (R531); the copy has its P bit cleared where a string instruction is
unfinished. -/
theorem takeInterrupt_serves {inString : Bool} (hcopy : (if inString then withoutP s.psr else s.psr) = copy)
    (h : s.canServe copy (interruptPsr s.psr) ra n)
    (hv : Gives (if nmi then nmiVector else intVector) (s.copyPushed copy (interruptPsr s.psr)) n
      ((s.copyPushed copy (interruptPsr s.psr)).acknowledged latch rest events)) :
    takeInterrupt nmi inString ra s =
      .next (((s.pushed copy (interruptPsr s.psr) ra).served n).acknowledged latch rest events) := by
  have psr : psrInService copy true = interruptPsr s.psr := by
    rw [psrInService_interrupt, ← hcopy]
    split
    · exact interruptPsr_withoutP _
    · rfl
  rw [← putBit_P] at hcopy
  rw [← State.copyPushed_acknowledged] at hv
  have served := takeException_serves hcopy psr h.1 h.2.1 hv h.acknowledged
  rw [State.pushed_acknowledged] at served
  exact served

/-- A maskable interrupt leaves the NMI latch as it was. -/
theorem served_acknowledged (s : State) (copy psr : Word) (ra : Addr) (n : Nat) (rest : List Byte)
    (events : List Event) :
    ((s.pushed copy psr ra).served n).acknowledged s.nmiPending rest events =
      { (s.pushed copy psr ra).served n with answers := rest, events } := by
  rw [← pushed_nmiPending s copy psr ra]
  rfl

theorem interruptedBy_eq (s : State) (copy : Word) (ra : Addr) (n a : Nat) (b : Byte) (rest : List Byte) :
    s.interruptedBy copy ra n a b rest = ((s.pushed copy (interruptPsr s.psr) ra).served n).acknowledged s.nmiPending
      rest (s.events ++ [.acknowledge (BitVec.ofNat 24 a) b]) := by
  rw [served_acknowledged, State.interruptedBy]

/-- A store does not see the PSR. -/
theorem State.store_withPsr (s : State) (psr : Word) (a n v : Nat) :
    ({ s with psr } : State).store a n v = { s.store a n v with psr } := by
  induction n generalizing s a v with
  | zero => rfl
  | succ n ih => exact ih (s.storeByte a (BitVec.ofNat 8 v)) (a + 1) (v / 256)

/-- Settles O14: each vector is acquired in the state after the first push, whose memory is that of the statement. -/
theorem interruptSequence : Obligations.InterruptSequence := by
  intro s inString ra b rest hb copy
  obtain ⟨answers, events, cfg, intbase, pending, -⟩ := copyPushed_fields s copy (interruptPsr s.psr)
  have ready := answers.trans hb
  have memory : (s.copyPushed copy (interruptPsr s.psr)).mem = (s.store (s.sp0.toNat - 2) 2 copy.toNat).mem := by
    rw [State.copyPushed, State.store_withPsr]
  refine ⟨fun h => ?_, fun hI h => ?_, fun hI h128 h => ?_, ?_⟩
  · have vector := nmiVector_gives (h.1.copyPushed copy (interruptPsr s.psr)) ready
    rw [events] at vector
    rw [interruptedBy_eq, State.acknowledged_withNmi]
    exact takeInterrupt_serves (nmi := true) rfl h vector
  · have vector := intVector_unvectored (h.1.copyPushed copy (interruptPsr s.psr)) ready (by rw [cfg, hI])
    rw [events, pending] at vector
    rw [interruptedBy_eq]
    exact takeInterrupt_serves (nmi := false) rfl h vector
  · have vector := intVector_vectored (h.1.copyPushed copy (interruptPsr s.psr)) ready (by rw [cfg, hI]) h128
    rw [events, pending] at vector
    rw [interruptedBy_eq]
    exact takeInterrupt_serves (nmi := false) rfl h vector
  · intro c rest' hr hI h16 h0 ha h ca h24
    have vector := intVector_cascaded (h.1.copyPushed copy (interruptPsr s.psr)) ready hr (by rw [cfg, hI]) h16 h0
      (by rw [intbase, ha]) (by rw [intbase, memory]) h24
    rw [events, pending] at vector
    rw [← served_acknowledged]
    exact takeInterrupt_serves (nmi := false) rfl h vector

end Sys2Proof.Machine
end

section
/-! The tests at the instruction boundary (R547, R548), for each activity that a step can end in. -/

namespace Sys2Proof.Machine

variable {s : State}

theorem boundary_running (ha : s.activity = .running) : boundary s =
    if s.interrupted then takeInterrupt s.nmiPending false s.pc s
    else if s.flag bitP && s.flag bitT then takeTrace s else .next s := by
  rw [boundary, ha]
  rfl

theorem boundary_inString (ha : s.activity = .inString) :
    boundary s = if s.interrupted then takeInterrupt s.nmiPending true s.pc s else .next s := by
  rw [boundary, ha]
  rfl

theorem boundary_waiting (ha : s.activity = .waiting) (hp : s.pc.toNat + 1 < 2 ^ 24) :
    boundary s = if s.interrupted then takeInterrupt s.nmiPending false (s.pc + 1) s else .next s := by
  have inside : inSpace ((s.pc.toNat : Int) + 1) 1 = true := by
    rw [inSpace_iff]
    omega
  rw [boundary, ha]
  dsimp only
  rw [if_pos inside, serveInterrupt]

theorem boundary_quiet (ha : s.activity = .waiting ∨ s.activity = .diagnosing) (hi : s.interrupted = false) :
    boundary s = .next s := by
  obtain ha | ha := ha
  all_goals
    rw [boundary, ha]
    exact if_neg (by rw [hi]; exact Bool.false_ne_true)

theorem boundary_diagnosing (ha : s.activity = .diagnosing) :
    boundary s = if s.interrupted then takeInterrupt s.nmiPending false s.pc s else .next s := by
  rw [boundary, ha]
  rfl

theorem interrupted_of_nmi (h : s.nmiPending = true) : s.interrupted = true := by
  rw [State.interrupted, h, Bool.true_or]

theorem interrupted_of_quiet_nmi (h : s.nmiPending = false) : s.interrupted = (s.intLine && s.flag bitI) := by
  rw [State.interrupted, h, Bool.false_or]

/-- Settles O11: the tests of each activity, in the order in which `boundary` makes them. -/
theorem boundaryPriority : Obligations.BoundaryPriority := by
  intro s
  refine ⟨fun ha => ?_, fun ha => ?_, fun ha => ⟨fun hi hp => ?_, fun hi => boundary_quiet (.inl ha) hi⟩,
    fun ha => ⟨fun hi => ?_, fun hi => boundary_quiet (.inr ha) hi⟩, boundary_afterException⟩
  · rw [boundary_running ha]
    refine ⟨fun hN => ?_, fun hN hL hI => ?_, fun hN quiet => ?_⟩
    · rw [if_pos (interrupted_of_nmi hN), hN]
    · rw [interrupted_of_quiet_nmi hN, hL, hI, Bool.and_self, if_pos rfl, hN]
    · have notTaken : ¬s.interrupted = true := by
        rw [interrupted_of_quiet_nmi hN, Bool.and_eq_true]
        rintro ⟨hL, hI⟩
        simp [hL, hI] at quiet
      rw [if_neg notTaken]
      refine ⟨fun hP hT => by rw [hP, hT, Bool.and_self, if_pos rfl], fun clear => if_neg ?_⟩
      rw [Bool.and_eq_true]
      rintro ⟨hP, hT⟩
      simp [hP, hT] at clear
  · rw [boundary_inString ha]
    exact ⟨fun hi => if_pos hi, fun hi => if_neg (by simp [hi])⟩
  · rw [boundary_waiting ha hp, if_pos hi]
  · rw [boundary_diagnosing ha, if_pos hi]

end Sys2Proof.Machine
end

section
/-! Some printed encodings (R127 to R132): each is the encoding of the instruction that it is printed for, which the
decoder inverts. -/

namespace Sys2Proof

/-- An encoding written out is decoded to its instruction. -/
theorem decode_encoding {i : Instr} {bs : List Byte} (he : encode i = bs) (hraw : Machine.keepsRaw i = false)
    (h : i.wf = true) : decode bs = .ok (i, []) := by
  rw [← he, ← List.append_nil (encode i)]
  exact decodes_of_wf i h hraw []

/-- Settles O5: each encoding is what `encode` gives for the instruction. -/
theorem printedEncodingsAreDecoded : Obligations.PrintedEncodingsAreDecoded :=
  ⟨decode_encoding rfl rfl rfl, decode_encoding rfl rfl rfl, decode_encoding rfl rfl rfl, decode_encoding rfl rfl rfl,
    decode_encoding rfl rfl rfl, decode_encoding rfl rfl rfl, decode_encoding rfl rfl rfl⟩

end Sys2Proof
end

section
/-! A step on an instruction whose bytes stand at PC (R511, R548): the bytes are fetched one by one, the decoder takes
the instruction from the front of them, and what is fetched behind it does not count. -/

namespace Sys2Proof.Machine

variable {s t : State} {a : Int} {b : Byte} {bs rest : List Byte} {i : Instr} {n : Nat}

/-! ### The fetch -/

theorem fetchWindow_next (h : Gives (fetchByte a) s b t) (n : Nat) : fetchWindow (n + 1) a s =
    (b :: (fetchWindow n (a + 1) t).1, (fetchWindow n (a + 1) t).2) := by
  rw [fetchWindow, show (fetchByte a).run s = _ from h]

/-- Bytes that can be fetched, in a state that their fetch leaves alone, come first in the window. -/
theorem fetchWindow_bytes (h : ∀ k (hk : k < bs.length), Gives (fetchByte (a + k)) s bs[k] s) (n : Nat) :
    fetchWindow (bs.length + n) a s =
      (bs ++ (fetchWindow n (a + bs.length) s).1, (fetchWindow n (a + bs.length) s).2) := by
  induction bs generalizing a with
  | nil => simp
  | cons b bs ih =>
    have first : Gives (fetchByte a) s b s := by simpa using h 0 (Nat.zero_lt_succ _)
    have others := ih (a := a + 1) fun k hk => by
      have next := h (k + 1) (Nat.succ_lt_succ hk)
      rwa [Nat.cast_succ, add_comm (k : Int), ← add_assoc] at next
    rw [List.length_cons, Nat.add_right_comm, fetchWindow_next first, others, Nat.cast_succ, add_comm (bs.length : Int),
      ← add_assoc, List.cons_append]

/-- A byte in RAM or ROM, not stored to since the queue was flushed (R103). -/
theorem fetchByte_stored (ht : s.translating = false) {p : Nat} (hp : p < 2 ^ 24)
    (hk : s.platform.kindAt p = .ram ∨ s.platform.kindAt p = .rom) (hq : p ∉ s.queueDirty) :
    Gives (fetchByte p) s (Memory.read s.mem p) s := by
  have inside : inSpace (p : Int) 1 = true := by
    rw [inSpace_iff]
    omega
  have address : (BitVec.ofInt 24 (p : Int)).toNat = p := ofInt_toNat inside
  have stored := readByte_stored (s := s) (pa := BitVec.ofInt 24 p) (by rwa [address])
  rw [address] at stored
  exact (fetchByte_clean ht inside hq).trans stored

/-- The instruction that is decoded from the window is fetched. Fetch, window and decoder are made variables before the
definition is taken apart: the kernel would evaluate them. -/
theorem fetchInstr_of_window {u : State} {v : Unit} (hd : decode (fetchWindow maxLength s.pc.toNat s).1 = .ok (i, rest))
    (hu : (fetchWindow i.length s.pc.toNat s).2.2 = t) (ho : Gives (observeFetch i.length) t v u) :
    fetchInstr s = .ok (i, u) := by
  subst hu
  obtain ⟨window, hw⟩ : ∃ window, fetchWindow = window := ⟨_, rfl⟩
  obtain ⟨dec, hdec⟩ : ∃ dec, decode = dec := ⟨_, rfl⟩
  obtain ⟨fetch, hf⟩ : ∃ fetch, fetchInstr = fetch := ⟨_, rfl⟩
  rw [hf]
  delta fetchInstr at hf
  rw [hw] at hf hd ho
  rw [hdec] at hf hd
  rw [← hf]
  dsimp only
  rw [hd]
  dsimp only
  rw [show (observeFetch i.length).run _ = _ from ho]

/-- Without translation the MMU takes no part in the fetch (R591). -/
theorem observeFetch_direct (ht : s.translating = false) (n : Nat) : Gives (observeFetch n) s () s := by
  refine gives_after (gives_state s) <| gives_after (observe_direct ht _ _ _ _) ?_
  rw [ht, if_neg Bool.false_ne_true]
  exact gives_return _ s

/-! ### The bytes of an instruction -/

theorem decodes_of_legal (h : i.wf = true) : Decodes i := by
  cases hraw : keepsRaw i with
  | false => exact decodes_of_wf i h hraw
  | true => exact decodes_of_keepsRaw i h hraw

/-- No legal instruction is longer than the window: any bytes that begin with it and are long enough hold one that is
not. -/
theorem length_le_maxLength (h : i.wf = true) : (encode i).length ≤ maxLength := by
  obtain ⟨j, rest, hj, -, short, -⟩ := everyEncodingIsDecoded (encode i ++ List.replicate maxLength 0) (by
    rw [List.length_append, List.length_replicate]
    exact Nat.le_add_left _ _)
  rw [decodes_of_legal h] at hj
  cases hj
  exact short

/-- The instruction whose bytes stand at PC is fetched, in a state that its fetch leaves alone. -/
theorem fetchInstr_stored (h : i.wf = true) (ht : s.translating = false)
    (hb : ∀ k (hk : k < (encode i).length), Gives (fetchByte (s.pc.toNat + k)) s (encode i)[k] s) :
    fetchInstr s = .ok (i, s) := by
  obtain ⟨n, hn⟩ := Nat.exists_eq_add_of_le (length_le_maxLength h)
  have window := fetchWindow_bytes hb n
  rw [← hn] at window
  have taken : fetchWindow i.length s.pc.toNat s = _ := fetchWindow_bytes hb 0
  have decoded : decode (fetchWindow maxLength s.pc.toNat s).1 =
      .ok (i, (fetchWindow n (s.pc.toNat + (encode i).length) s).1) := by
    rw [window]
    exact decodes_of_legal h _
  exact fetchInstr_of_window decoded (by rw [taken, fetchWindow]) (observeFetch_direct ht _)

/-! ### The step -/

/-- A step that executes an instruction, from a state in which the environment is quiet. -/
theorem startStep_runs (hi : s.inputs = []) (ha : s.activity = .running ∨ s.activity = .inString ∨
    (s.activity = .afterException ∧ s.interrupted = false)) : startStep s = .run s.begin := by
  have quiet : s.takeInputs = s := by rw [State.takeInputs, hi]
  have noReset : s.resetRequested = false := by rw [State.resetRequested, hi]
  rw [startStep, quiet, noReset]
  rcases ha with ha | ha | ⟨ha, notInterrupted⟩
  · rw [ha]; rfl
  · rw [ha]; rfl
  · rw [ha, notInterrupted]; rfl

/-- The fetch is made a variable for the same reason as above. -/
theorem step_of_fetch (hs : startStep s = .run t) {u : State} (hf : fetchInstr t = .ok (i, u)) :
    step s = endStep (exec i u) := by
  obtain ⟨fetch, he⟩ : ∃ fetch, fetchInstr = fetch := ⟨_, rfl⟩
  unfold step
  rw [he] at hf ⊢
  rw [hs]
  dsimp only
  rw [hf]

/-- Settles O6: the state in which the instruction begins has the memory and the PC of the one before the step. -/
theorem stepRunsDecodedInstruction : Obligations.StepRunsDecodedInstruction := by
  intro i s h hi ha ht hb
  refine step_of_fetch (startStep_runs hi ha) (fetchInstr_stored h ht fun k hk => ?_)
  obtain ⟨inside, kind, clean, stored⟩ := hb k hk
  rw [List.getElem?_eq_getElem hk, Option.some_inj] at stored
  rw [← stored]
  exact fetchByte_stored (s := s.begin) ht inside kind clean

end Sys2Proof.Machine
end
